-- ==== Sys2Proof/Word.lean ====
section
/-! DEFINITION. The words of the control port and of the seat link: bytes, tags, serials. -/

namespace Sys2Proof

/-- One byte of a control port frame (R176). -/
abbrev Byte := BitVec 8

/-- An attendee tag, a badge, a guest code or a guest mask: 16 bits, because R79 combines them bit by bit. -/
abbrev Tag := BitVec 16

/-- A unit serial, 0 to 4,294,967,295 (R66). -/
abbrev Serial := BitVec 32

/-- A press tag, 0 to 3, wrapping from 3 to 0 (R82). -/
abbrev PressTag := BitVec 2

/-- A set of the nine notice kinds, bit by bit as R198 numbers them. -/
abbrev NoticeSet := BitVec 9

end Sys2Proof
end

