-- ==== Sys2Proof/Config.lean ====
section
/-! DEFINITION. What one TC-96 fixes: the counts of the part (R181) and the values the manual leaves open. -/

namespace Sys2Proof.Config

/-- The part code that IDENTIFY returns; R181 names it and gives no value. Free value, log entry 16. -/
opaque partCode : BitVec 16

/-- The four bytes an image sends for a serial that is absent; R198 gives them no value. Free value, log entry 17. -/
opaque absentSerial : Serial

/-- The counts that IDENTIFY reports, in R181's order. -/
abbrev seats : Nat := 96
abbrev seatPositions : Nat := 48
abbrev wallPositions : Nat := 12
abbrev displays : Nat := 8
abbrev zones : Nat := 4
abbrev partitions : Nat := 3
abbrev floors : Nat := 4
abbrev bookingSlots : Nat := 48
abbrev rosterPool : Nat := 768
abbrev queuePool : Nat := 64
abbrev hostSources : Nat := 16
abbrev largestBody : Nat := 1024
/-- The revision this manual describes (R181). -/
abbrev revision : Nat := 1

/-- One second of the timebase, in its steps of 1 us (00, Time). -/
abbrev second : Nat := 1000000

/-- The highest room minute (R23). -/
abbrev lastMinute : Nat := 16777215

/-- The forced-close guard, 2 s (R111). -/
abbrev guard : Nat := 2 * second

end Sys2Proof.Config
end

