-- ==== Sys2Proof/Syntax.lean ====
section
/-! DEFINITION. The commands of the block: one constructor of Instr per row of spec/opcode_table.json, with the row's
operands. Host requests carry the body bytes of their frame (R177, R198); link events carry the answer as received. -/

namespace Sys2Proof

/-- The three segments of the seat link (R150). -/
inductive Segment where
  | left
  | right
  | wall
  deriving DecidableEq, Repr

/-- The kinds of unit (R156). -/
inductive UnitKind where
  | delegate
  | chair
  | display
  | ambient
  | partition
  deriving DecidableEq, Repr

/-- The state of a microphone as commanded by a POLL and as echoed in its answer (R154). -/
inductive MicCommand where
  | closed
  | live
  | muted
  deriving DecidableEq, Repr

/-- How an answer reached the engine, as R152 judges it: whether it was complete, whether its check word was right,
whether it was of the kind the exchange expects, and whether a second transmitter was sensed. -/
structure Reception where
  complete : Bool
  checkRight : Bool
  kindRight : Bool
  secondTransmitter : Bool
  deriving DecidableEq, Repr

/-- A button event in an uplink: its press tag and its overrun flag (R81). -/
structure PressEvent where
  tag : PressTag
  overrun : Bool
  deriving DecidableEq, Repr

/-- The contents of a POLL's answer (R154). `badge` 0 stands for none. -/
structure Uplink where
  position : Nat
  speak : Option PressEvent
  next : Option PressEvent
  cancelAll : Option PressEvent
  priorityUp : Bool
  badge : Tag
  echo : MicCommand
  deriving DecidableEq, Repr

/-- The content kind a display names in its SHOW answer (R155, R198). -/
inductive ShownKind where
  | queueView
  | source
  | blank
  | idle
  | reserved
  | floorCard
  | speaker
  deriving DecidableEq, Repr

/-- The reading in a SENSE answer (R155): a level from an ambient sensor, a wall's state from a partition sensor. -/
inductive Reading where
  | level (value : BitVec 12)
  | wallOpen
  | wallClosed
  deriving DecidableEq, Repr

/-- The answer fields of ASSIGN, PROBE and PARK (R156). `partition` is read for partition units only, and PARK has none. -/
structure UnitReport where
  position : Nat
  kind : UnitKind
  serial : Serial
  partition : BitVec 4
  deriving DecidableEq, Repr

/-- The commands: one constructor per row of spec/opcode_table.json. -/
inductive Instr where
  | identify (body : List Byte)
  | read (body : List Byte)
  | findChanged (body : List Byte)
  | clearNotices (body : List Byte)
  | setNoticeEnables (body : List Byte)
  | resetTable (body : List Byte)
  | resetAll (body : List Byte)
  | setClock (body : List Byte)
  | createBooking (body : List Byte)
  | changeBooking (body : List Byte)
  | retireBooking (body : List Byte)
  | rosterPut (body : List Byte)
  | rosterDrop (body : List Byte)
  | grant (body : List Byte)
  | closeMic (body : List Byte)
  | enqueue (body : List Byte)
  | withdraw (body : List Byte)
  | moveEntry (body : List Byte)
  | cancelFloor (body : List Byte)
  | changeDisplay (body : List Byte)
  | changeSettings (body : List Byte)
  | storeSettings (body : List Byte)
  | storeComplete (readBackMatches : Bool)
  | walk (body : List Byte)
  | wake (body : List Byte)
  | badFrame (received : List Byte)
  | unknownRequest (code : Byte) (body : List Byte)
  | writeWhileBusy
  | unknownMarker (marker : Byte)
  | powerOn
  | resetPinFall
  | resetPinRise
  | pollAnswer (seg : Segment) (rx : Reception) (up : Uplink)
  | showAnswer (rx : Reception) (position : Nat) (kind : ShownKind)
  | sensePartition (rx : Reception) (position : Nat) (reading : Reading)
  | senseAmbient (rx : Reception) (position : Nat) (reading : Reading)
  | probeAnswer (seg : Segment) (rx : Reception) (report : UnitReport)
  | assignAnswer (seg : Segment) (rx : Reception) (report : UnitReport)
  | parkAnswer (seg : Segment) (rx : Reception) (report : UnitReport)
  | responseTimeout (seg : Segment)
  | walkBegin (seg : Segment)
  | lineBreakEnd (seg : Segment)
  | probeDue (seg : Segment)
  | sleep (seg : Segment)
  | wakeLineRise (seg : Segment)
  | clockSecond
  | minuteBoundary
  | speakingWarning (floor seat : Nat)
  | allowanceExpiry (floor seat : Nat)
  | lifetimeExpiry (floor : Nat)
  | guardEnd (seat : Nat)
  | rotationPhaseChange (display : Nat)
  | enterStandby
  | timebaseSecond
  | powerLoss
  deriving DecidableEq, Repr

end Sys2Proof
end

