-- ==== Sys2Proof/WellFormed.lean ====
section
/-! DEFINITION. Which commands can occur: the checks on operands that the rows' own words and the ranges of the manual give.
A command that fails a check still has a meaning (Machine/...), which the log names. -/

namespace Sys2Proof

/-- The request codes of the catalogue (R197). -/
def catalogueCodes : List Nat :=
  [0x01, 0x02, 0x03, 0x04, 0x05, 0x08, 0x09, 0x10, 0x11, 0x12, 0x13, 0x14, 0x20, 0x21, 0x22, 0x23, 0x24, 0x25,
   0x30, 0x38, 0x39, 0x40, 0x41]

/-- A body is at most 1024 bytes long (R177). -/
def bodyFits (body : List Byte) : Bool := decide (body.length ≤ Config.largestBody)

/-- How many positions a segment has (R150). -/
def Segment.positions : Segment → Nat
  | .left => Config.seatPositions
  | .right => Config.seatPositions
  | .wall => Config.wallPositions

/-- A segment that carries seats. -/
def Segment.hasSeats : Segment → Bool
  | .left => true
  | .right => true
  | .wall => false

/-- A position an answer can name: 1 to the segment's last, or 0 at the entry address (R156). -/
def positionFits (seg : Segment) (position : Nat) : Bool := decide (position ≤ seg.positions)

def seatFits (seat : Nat) : Bool := decide (1 ≤ seat ∧ seat ≤ Config.seats)
def floorFits (floor : Nat) : Bool := decide (1 ≤ floor ∧ floor ≤ Config.floors)
def displayFits (display : Nat) : Bool := decide (1 ≤ display ∧ display ≤ Config.displays)

/-- The checks on a command's operands. -/
def Instr.wellFormed : Instr → Bool
  | .identify body => bodyFits body
  | .read body => bodyFits body
  | .findChanged body => bodyFits body
  | .clearNotices body => bodyFits body
  | .setNoticeEnables body => bodyFits body
  | .resetTable body => bodyFits body && decide (body ≠ [2])
  | .resetAll body => bodyFits body && decide (body ≠ [1])
  | .setClock body => bodyFits body
  | .createBooking body => bodyFits body
  | .changeBooking body => bodyFits body
  | .retireBooking body => bodyFits body
  | .rosterPut body => bodyFits body
  | .rosterDrop body => bodyFits body
  | .grant body => bodyFits body
  | .closeMic body => bodyFits body
  | .enqueue body => bodyFits body
  | .withdraw body => bodyFits body
  | .moveEntry body => bodyFits body
  | .cancelFloor body => bodyFits body
  | .changeDisplay body => bodyFits body
  | .changeSettings body => bodyFits body
  | .storeSettings body => bodyFits body
  | .storeComplete _ => true
  | .walk body => bodyFits body
  | .wake body => bodyFits body
  | .badFrame _ => true
  | .unknownRequest code body => bodyFits body && decide (code.toNat ∉ catalogueCodes)
  | .writeWhileBusy => true
  | .unknownMarker marker => decide (marker ≠ 0x5A ∧ marker ≠ 0xA5)
  | .powerOn => true
  | .resetPinFall => true
  | .resetPinRise => true
  | .pollAnswer seg _ up => seg.hasSeats && positionFits seg up.position
  | .showAnswer _ position _ => positionFits .wall position
  | .sensePartition _ position _ => positionFits .wall position
  | .senseAmbient _ position _ => positionFits .wall position
  | .probeAnswer seg _ report => positionFits seg report.position
  | .assignAnswer seg _ report => positionFits seg report.position
  | .parkAnswer seg _ report => positionFits seg report.position
  | .responseTimeout _ => true
  | .walkBegin _ => true
  | .lineBreakEnd _ => true
  | .probeDue _ => true
  | .sleep _ => true
  | .wakeLineRise _ => true
  | .clockSecond => true
  | .minuteBoundary => true
  | .speakingWarning floor seat => floorFits floor && seatFits seat
  | .allowanceExpiry floor seat => floorFits floor && seatFits seat
  | .lifetimeExpiry floor => floorFits floor
  | .guardEnd seat => seatFits seat
  | .rotationPhaseChange display => displayFits display
  | .enterStandby => true
  | .timebaseSecond => true
  | .powerLoss => true

end Sys2Proof
end

