-- ==== Sys2Proof/Decode.lean ====
section
/-! DEFINITION. Decoding a word of the opcode table. spec/opcode_table.json gives no bits to any of its 55 rows
("fields": [] and no "fixed" in every row), so no word spells a command. The byte layouts of the host requests' bodies
(R198) are read in Machine/Operands.lean. -/

namespace Sys2Proof

/-- The command that an `nbits`-bit word spells by the table's bits: none, because no row of the table has bits. -/
def decodeTableWord (_nbits _w : Nat) : Option Instr := none

end Sys2Proof
end

