-- ==== Sys2Proof/Machine/Records.lean ====
section
/-! DEFINITION. The records the part keeps, field by field as the manual's tables give them. -/

namespace Sys2Proof.Machine

/-- Presence of a unit at a position (R66, R71). -/
inductive Presence where
  | absent
  | settling
  | present
  | degraded
  | cutOff
  deriving DecidableEq, Repr

/-- What an owner has learnt of a unit's working: the same three fields in seat, display, ambient and partition records
(R66, R133, R143, 01 section 1.2). -/
structure Health where
  presence : Presence
  settleCount : Nat
  errorScore : Nat
  deriving DecidableEq, Repr

/-- Roster and seat roles (R36, R66). -/
inductive Role where
  | chair
  | priority
  | ordinary
  deriving DecidableEq, Repr

/-- The derived microphone view of a seat (R67). -/
inductive Mic where
  | closed
  | queued
  | live
  | muted
  deriving DecidableEq, Repr

/-- The last taken press tag of each tagged button, or none (R66); also the acknowledgements of an image (R82). -/
structure TakenTags where
  speak : Option PressTag
  next : Option PressTag
  cancelAll : Option PressTag
  deriving DecidableEq, Repr

/-- A seat record (R66), less its derived fields `admitted` (R79) and `mic` (R67). -/
structure Seat where
  unitKind : Option UnitKind
  unitSerial : Option Serial
  health : Health
  badge : Option Tag
  badgeCandidate : Option Tag
  badgeRepeat : Nat
  occupant : Option Tag
  role : Role
  micConfirmed : Bool
  takenTags : TakenTags
  priorityUp : Bool
  priorityHeld : Bool
  flashDue : Bool
  lostPresses : Nat
  guardUntil : Option Nat
  deriving DecidableEq, Repr

inductive Ring where
  | off
  | on
  | warning
  deriving DecidableEq, Repr

inductive Lamp where
  | off
  | blinking
  | steady
  | refusedFlash
  deriving DecidableEq, Repr

/-- A seat's downlink image, the contents of a POLL (R67, R154). `occupant` 0 stands for none. -/
structure Image where
  mic : MicCommand
  ring : Ring
  lamp : Lamp
  occupant : Tag
  acks : TakenTags
  deriving DecidableEq, Repr

/-- A contiguous run of zones, by first and last zone (R8, R21). -/
structure ZoneRun where
  first : Nat
  last : Nat
  deriving DecidableEq, Repr

inductive FloorState where
  | free
  | preparing
  | ready
  | live
  | closing
  deriving DecidableEq, Repr

inductive Mode where
  | openFloor
  | autoQueue
  | moderated
  deriving DecidableEq, Repr

inductive Overflow where
  | queue
  | replaceOldest
  | refuse
  deriving DecidableEq, Repr

inductive ExpiryAction where
  | warnOnly
  | close
  deriving DecidableEq, Repr

/-- The floor parameters, `mode` to `lifetime` (R8). -/
structure FloorParams where
  mode : Mode
  limit : Nat
  overflow : Overflow
  selfClose : Bool
  allowance : Nat
  warningLead : Nat
  expiryAction : ExpiryAction
  queueCap : Nat
  alertLevel : Nat
  lifetime : Nat
  deriving DecidableEq, Repr

inductive OpenClass where
  | chair
  | delegate
  deriving DecidableEq, Repr

/-- An open-list entry (R8, R90). -/
structure OpenEntry where
  seat : Nat
  cls : OpenClass
  openedOrder : Nat
  spokenS : Nat
  allowanceUsed : Nat
  muted : Bool
  warned : Bool
  overtime : Bool
  deriving DecidableEq, Repr

/-- A floor record (R8), less its derived field `queue_alert` (R130). -/
structure Floor where
  state : FloorState
  suspended : Bool
  zones : Option ZoneRun
  booking : Option Nat
  params : Option FloorParams
  priorityHolders : Nat
  openOrder : Nat
  openList : List OpenEntry
  deriving DecidableEq, Repr

inductive QueueClass where
  | priority
  | ordinary
  deriving DecidableEq, Repr

/-- A queue entry (R115). -/
structure QueueEntry where
  seat : Nat
  cls : QueueClass
  arrival : Nat
  waitedS : Nat
  deriving DecidableEq, Repr

/-- A queue record (R114), head first. -/
structure Queue where
  entries : List QueueEntry
  lastArrival : Nat
  deriving DecidableEq, Repr

inductive Origin where
  | host
  | adHoc
  deriving DecidableEq, Repr

inductive BookingState where
  | pending
  | waiting
  | preparing
  | ready
  | live
  | closing
  | ended
  deriving DecidableEq, Repr

inductive Confidentiality where
  | openMeeting
  | privateMeeting
  deriving DecidableEq, Repr

inductive BookingOutcome where
  | completed
  | endedEarly
  | missed
  | bumped
  | cutByReset
  deriving DecidableEq, Repr

/-- The set `outcome_flags` (R44). -/
structure OutcomeFlags where
  rosterUnseated : Bool
  wasSuspended : Bool
  closeUnconfirmed : Bool
  lateApply : Bool
  deriving DecidableEq, Repr

/-- A roster entry (R36). -/
structure RosterEntry where
  seat : Nat
  tag : Tag
  role : Role
  deriving DecidableEq, Repr

/-- A booking record (R21); the slot is its place in the table. -/
structure Booking where
  handle : Nat
  origin : Origin
  state : BookingState
  zones : ZoneRun
  startMinute : Nat
  endMinute : Nat
  lead : Nat
  grace : Nat
  params : FloorParams
  confidentiality : Confidentiality
  guestCode : Tag
  guestMask : Tag
  roster : List RosterEntry
  floor : Option Nat
  startNoted : Bool
  closeNoted : Bool
  pendingOutcome : Option BookingOutcome
  retireOnCompletion : Bool
  pendingSeat : Option Nat
  outcome : Option BookingOutcome
  flags : OutcomeFlags
  deriving DecidableEq, Repr

/-- The room clock (R23). -/
structure Clock where
  valid : Bool
  minute : Nat
  second : Nat
  deriving DecidableEq, Repr

/-- The phases of the two operations (R47): PUSH of apply, CLOSE and CLEAR of close-out. -/
inductive OpPhase where
  | push
  | close
  | clear
  deriving DecidableEq, Repr

inductive WorkStatus where
  | awaiting
  | confirmed
  | failed
  | skipped
  deriving DecidableEq, Repr

/-- A work entry (R47). `sentBefore` marks that a POLL of the seat, with the image before this entry, was on the line when
the entry was placed: that POLL is no attempt of the entry (R48, log entry 12). -/
structure WorkEntry where
  seat : Nat
  attempts : Nat
  status : WorkStatus
  sentBefore : Bool
  deriving DecidableEq, Repr

/-- An operation context (R47); `kind` is APPLY exactly in phase PUSH. -/
structure OpContext where
  booking : Nat
  phase : OpPhase
  work : List WorkEntry
  deriving DecidableEq, Repr

inductive WallState where
  | closed
  | opened
  deriving DecidableEq, Repr

/-- A partition record (01 section 1.2). -/
structure Partition where
  state : WallState
  sensorPosition : Option Nat
  sensorSerial : Option Serial
  health : Health
  candidate : Option WallState
  repeatCount : Nat
  deriving DecidableEq, Repr

/-- What the host can configure a display to show (R133). -/
inductive Content where
  | followSpeaker
  | queueView
  | source (n : Nat)
  | blank
  deriving DecidableEq, Repr

/-- A display's configuration (R133); `binding` none is NONE. -/
structure DisplayConfig where
  binding : Option Nat
  contentA : Content
  contentB : Option Content
  dwellA : Nat
  dwellB : Nat
  outsideVisible : Bool
  auto : Bool
  fixedLevel : Nat
  deriving DecidableEq, Repr

/-- An item of QUEUE_VIEW: a seat and its occupant tag, 0 when absent (R138). -/
structure QueueItem where
  seat : Nat
  tag : Tag
  deriving DecidableEq, Repr

/-- Effective content with its fields (R138). -/
inductive Effective where
  | blank
  | idle (zone : Nat)
  | reserved (handle start : Nat)
  | floorCard (floor handle : Nat)
  | speaker (seat : Nat) (tag : Tag)
  | queueView (items : List QueueItem)
  | source (n : Nat)
  deriving DecidableEq, Repr

/-- A display record (R133). `phaseB` is `rotation_phase` B. -/
structure Display where
  unitPosition : Option Nat
  unitSerial : Option Serial
  health : Health
  config : DisplayConfig
  phaseB : Bool
  phaseElapsedS : Nat
  content : Effective
  level : Nat
  drive : Nat
  shown : Bool
  deriving DecidableEq, Repr

/-- The ambient record (R143), less the copies of settings it keeps equal to the live record. -/
structure Ambient where
  sensorPosition : Option Nat
  sensorSerial : Option Serial
  health : Health
  lastReading : Option Nat
  band : Nat
  deriving DecidableEq, Repr

/-- A zone's seat ranges (R1); none is an empty range. -/
structure ZoneRanges where
  left : Option (Nat × Nat)
  right : Option (Nat × Nat)
  deriving DecidableEq, Repr

/-- The booking defaults (R192, group BOOKING). -/
structure BookingDefaults where
  lead : Nat
  grace : Nat
  params : FloorParams
  confidentiality : Confidentiality
  guestCode : Tag
  guestMask : Tag
  deriving DecidableEq, Repr

/-- The settings (R192). -/
structure Settings where
  zoneMap : List ZoneRanges
  partitionSettle : Nat
  presenceSettle : Nat
  badgeSettle : Nat
  booking : BookingDefaults
  adHocAllowed : Bool
  adHocLength : Nat
  adHocParams : FloorParams
  standbyAllowed : Bool
  idleDelay : Nat
  standbyLead : Nat
  t1 : Nat
  t2 : Nat
  t3 : Nat
  hysteresis : Nat
  bandLevels : List Nat
  brightness : List Nat
  displays : List DisplayConfig
  deriving DecidableEq, Repr

inductive SettingsSource where
  | stored
  | factory
  deriving DecidableEq, Repr

inductive LastStore where
  | none
  | done
  | failed
  deriving DecidableEq, Repr

/-- The store's fields beside the settings (R192). `copy` is the copy a STORE_SETTINGS in flight writes: `store_busy` is
yes exactly while it is there (R195). `image` is the stored image, none when it fails its check (R191). -/
structure Store where
  source : SettingsSource
  copy : Option Settings
  lastStore : LastStore
  liveDiffers : Bool
  image : Option Settings
  deriving DecidableEq, Repr

inductive SegmentState where
  | idle
  | walking
  | running
  deriving DecidableEq, Repr

/-- A role a WALL position can hold (R150). -/
inductive WallRole where
  | display (d : Nat)
  | ambient
  | partition (k : Nat)
  deriving DecidableEq, Repr

/-- An exchange with the contents it carries (R152 to R156). -/
inductive Exchange where
  | poll (position : Nat) (image : Image)
  | show (position : Nat) (content : Effective) (drive : Nat)
  | sense (position : Nat)
  | probe (position : Nat)
  | assign (position : Nat)
  | park (position : Nat)
  deriving DecidableEq, Repr

/-- The exchange on a segment's line. `orphan`: its outcome is reported to no owner, because RESET TABLE was taken while
it was on the line (R153). -/
structure OnLine where
  exchange : Exchange
  orphan : Bool
  deriving DecidableEq, Repr

/-- Where a walk stands (R159): not yet begun, in its line break, offering a position, parking the unit at the offered
position, or parking the unit beyond the capacity. -/
inductive WalkPhase where
  | toBegin
  | lineBreak
  | offering
  | parking
  | parkingEntry
  deriving DecidableEq, Repr

/-- The walk context (R150): the phase, the position offered with its attempts, and the kept units in position order with
the roles placed. -/
structure WalkContext where
  phase : WalkPhase
  position : Nat
  attempts : Nat
  kept : List UnitReport
  roles : List WallRole
  deriving DecidableEq, Repr

inductive RoundScope where
  | full
  | sensors
  deriving DecidableEq, Repr

/-- A segment engine (R150). -/
structure Engine where
  state : SegmentState
  scope : RoundScope
  pointer : Nat
  urgent : List Nat
  roles : List (Option WallRole)
  probeDue : List Nat
  walk : Option WalkContext
  unitsFound : Nat
  unitsParked : Nat
  walkOverflow : Bool
  conflicts : Nat
  line : Option OnLine
  walkRequested : Bool
  held : Bool
  wakeLine : Bool
  blankFirst : Option (List Nat)
  deriving DecidableEq, Repr

inductive TableState where
  | awake
  | enteringStandby
  | standby
  | waking
  deriving DecidableEq, Repr

inductive WakeCause where
  | none
  | wakeLine
  | host
  | bookingDue
  | partition
  | press
  | settings
  | reset
  deriving DecidableEq, Repr

/-- Sleep requests outstanding, one per segment (R169). -/
structure SleepRequests where
  left : Bool
  right : Bool
  wall : Bool
  deriving DecidableEq, Repr

/-- The power controller's fields (R169). -/
structure PowerControl where
  tableState : TableState
  lastWakeCause : WakeCause
  idleMark : Nat
  sleep : SleepRequests
  deriving DecidableEq, Repr

/-- The notice kinds, in the bit order of R198. -/
inductive NoticeKind where
  | seat
  | floor
  | queue
  | booking
  | display
  | layout
  | link
  | settings
  | port
  deriving DecidableEq, Repr

/-- The notice flags with their two layers of enables (R186). -/
structure Notices where
  flags : NoticeSet
  enables : NoticeSet
  signals : NoticeSet
  deriving DecidableEq, Repr

/-- The changed marks (R184); the mark of a free slot is kept `false`. -/
structure Marks where
  seats : List Bool
  floors : List Bool
  queues : List Bool
  bookings : List Bool
  displays : List Bool
  ambient : Bool
  layout : Bool
  table : Bool
  clock : Bool
  settings : Bool
  deriving DecidableEq, Repr

/-- The status codes of an answer (R180). -/
inductive Status where
  | done
  | accepted
  | busy
  | notAllowed
  | badValue
  | noRecord
  | conflict
  | tableFull
  | floorFull
  | queueFull
  | notAdmitted
  | badFrame
  | unknownRequest
  deriving DecidableEq, Repr

/-- An answer frame less its length and CRC (R179). -/
structure Answer where
  status : Status
  code : Byte
  body : List Byte
  deriving DecidableEq, Repr

/-- The supply and the RESET input (R176, R190): without supply, with RESET high or low; and with supply, with RESET low or
high. -/
inductive Power where
  | off
  | offResetLow
  | resetLow
  | running
  deriving DecidableEq, Repr

end Sys2Proof.Machine
end

