-- ==== Sys2Proof/Machine/Factory.lean ====
section
/-! DEFINITION. The factory defaults of the settings (R1, R146, R192) and the records as a start leaves them (R19, R20,
R45, R88, R114, R148, R149, R168, R169). -/

namespace Sys2Proof.Machine

/-- The default zone map (R1). -/
def factoryZoneMap : List ZoneRanges :=
  [⟨some (1, 12), some (49, 60)⟩, ⟨some (13, 24), some (61, 72)⟩,
   ⟨some (25, 36), some (73, 84)⟩, ⟨some (37, 48), some (85, 96)⟩]

/-- The default floor parameters of the BOOKING group (R192). -/
def factoryParams : FloorParams :=
  { mode := .moderated, limit := 4, overflow := .queue, selfClose := true, allowance := 0, warningLead := 30,
    expiryAction := .warnOnly, queueCap := 16, alertLevel := 8, lifetime := 0 }

/-- The default configuration of a display bound to zone `z` (R146). -/
def factoryDisplay (z : Nat) : DisplayConfig :=
  { binding := some z, contentA := .followSpeaker, contentB := none, dwellA := 15, dwellB := 15,
    outsideVisible := false, auto := true, fixedLevel := 8 }

/-- The factory default of every setting (R192). -/
def factorySettings : Settings :=
  { zoneMap := factoryZoneMap, partitionSettle := 4, presenceSettle := 3, badgeSettle := 2,
    booking := { lead := 5, grace := 2, params := factoryParams, confidentiality := .openMeeting,
                 guestCode := 0, guestMask := 0xFFFF },
    adHocAllowed := true, adHocLength := 60, adHocParams := { factoryParams with mode := .autoQueue },
    standbyAllowed := true, idleDelay := 10, standbyLead := 15,
    t1 := 400, t2 := 1200, t3 := 2800, hysteresis := 64, bandLevels := [4, 8, 12, 15],
    brightness := (List.range' 0 16).map (17 * ·),
    displays := [1, 1, 2, 2, 3, 3, 4, 4].map factoryDisplay }

/-- A unit's fields while its record is ABSENT (R88, R148, R149, R19). -/
def Health.none : Health := { presence := .absent, settleCount := 0, errorScore := 0 }

def TakenTags.none : TakenTags := { speak := Option.none, next := Option.none, cancelAll := Option.none }

/-- A seat record after every reset (R88). -/
def startSeat : Seat :=
  { unitKind := none, unitSerial := none, health := .none, badge := none, badgeCandidate := none, badgeRepeat := 0,
    occupant := none, role := .ordinary, micConfirmed := false, takenTags := .none, priorityUp := false,
    priorityHeld := false, flashDue := false, lostPresses := 0, guardUntil := none }

/-- A FREE floor after a reset (R20). -/
def startFloor : Floor :=
  { state := .free, suspended := false, zones := none, booking := none, params := none, priorityHolders := 0,
    openOrder := 0, openList := [] }

/-- A queue record after a reset (R114). -/
def startQueue : Queue := { entries := [], lastArrival := 0 }

/-- A partition record after power-on, pin reset and RESET ALL (R19). -/
def startPartition : Partition :=
  { state := .closed, sensorPosition := none, sensorSerial := none, health := .none, candidate := none, repeatCount := 0 }

/-- The level of `effective_level` outside standby (R145). -/
def awakeLevel (cfg : DisplayConfig) (st : Settings) (band : Nat) : Nat :=
  if cfg.auto then st.bandLevels.getD band 0 else cfg.fixedLevel

/-- The content of a display while no floor is held (R136): the IDLE card, or BLANK for binding NONE. -/
def idleContent (cfg : DisplayConfig) : Effective :=
  match cfg.binding with
  | none => .blank
  | some z => .idle z

/-- A display record as a start leaves it, with the configuration `cfg` of the display defaults (R148). -/
def startDisplay (st : Settings) (cfg : DisplayConfig) : Display :=
  { unitPosition := none, unitSerial := none, health := .none, config := cfg, phaseB := false, phaseElapsedS := 0,
    content := idleContent cfg, level := awakeLevel cfg st 2, drive := st.brightness.getD (awakeLevel cfg st 2) 0,
    shown := false }

/-- The ambient record as a start leaves it (R149). -/
def startAmbient : Ambient :=
  { sensorPosition := none, sensorSerial := none, health := .none, lastReading := none, band := 2 }

/-- The walk context of a segment that has become WALKING and has not begun its walk (R159, log entry 9). -/
def walkToBegin : WalkContext := { phase := .toBegin, position := 0, attempts := 0, kept := [], roles := [] }

/-- A segment engine as a start leaves it (R168), with `n` positions. -/
def startEngine (n : Nat) : Engine :=
  { state := .walking, scope := .full, pointer := 0, urgent := [], roles := List.replicate n none,
    probeDue := List.replicate n 0, walk := some walkToBegin, unitsFound := 0, unitsParked := 0, walkOverflow := false,
    conflicts := 0, line := none, walkRequested := false, held := false, wakeLine := false, blankFirst := none }

def noSleep : SleepRequests := { left := false, right := false, wall := false }

/-- The power controller as a start at time `now` leaves it (R169). -/
def startPowerControl (now : Nat) : PowerControl :=
  { tableState := .awake, lastWakeCause := .none, idleMark := now, sleep := noSleep }

/-- Every changed mark with the value `m`, booking marks apart (R184). -/
def allMarks (m : Bool) (bookings : List Bool) : Marks :=
  { seats := List.replicate 96 m, floors := List.replicate 4 m, queues := List.replicate 4 m, bookings := bookings,
    displays := List.replicate 8 m, ambient := m, layout := m, table := m, clock := m, settings := m }

/-- The causes of a start, as the start answer codes them (R179, R198). -/
inductive StartCause where
  | powerOn
  | pinReset
  | resetAll
  deriving DecidableEq, Repr

def StartCause.code : StartCause → Byte
  | .powerOn => 1
  | .pinReset => 2
  | .resetAll => 3

def SettingsSource.code : SettingsSource → Byte
  | .stored => 1
  | .factory => 2

/-- The start answer (R179): DONE, echoed code 0, `reset_cause` and `settings_source`. -/
def startAnswer (cause : StartCause) (source : SettingsSource) : Answer :=
  { status := .done, code := 0, body := [cause.code, source.code] }

/-- The settings a start loads (R191): the stored image, or the factory defaults when it fails its check. -/
def loadedSettings (image : Option Settings) : Settings := image.getD factorySettings

def loadedSource (image : Option Settings) : SettingsSource := if image.isSome then .stored else .factory

/-- The store's fields after a load (R196, R192). -/
def startStore (image : Option Settings) : Store :=
  { source := loadedSource image, copy := none, lastStore := .none, liveDiffers := image.isNone, image := image }

/-- The bit of the SETTINGS notice kind (R198). -/
def settingsBit : NoticeSet := 0x080

/-- The notices after a start: every flag and enable no, but for SETTINGS after a failed load (R186, R190). -/
def startNotices (image : Option Settings) : Notices :=
  { flags := if image.isSome then 0 else settingsBit, enables := 0, signals := 0 }

end Sys2Proof.Machine
end

