-- ==== Sys2Proof/Machine/State.lean ====
section
/-! DEFINITION. The state: the part's records (Part) and the queue of commands waiting; faults and refusals; reset. -/

namespace Sys2Proof.Machine

/-- No command of this block ends in a fault: the manual names no fault that stops the part (INVENTORY.md, Faults).
The type has no constructor, so no statement about a run can be true by way of a fault; this is safe. -/
inductive Fault where
  deriving DecidableEq

/-- Why a command has no meaning. -/
inductive Refusal where
  /-- Raised by exec's arm for a command that has no meaning yet, with its mnemonic; safe, because the run stops. No arm
  of this model raises it. -/
  | notModelled (mnemonic : String)
  deriving DecidableEq, Repr

/-- The part: every record, register and engine the manual gives it. -/
structure Part where
  power : Power
  now : Nat
  seats : List Seat
  floors : List Floor
  queues : List Queue
  slots : List (Option Booking)
  lastHandle : Nat
  clock : Clock
  contexts : List (Option OpContext)
  partitions : List Partition
  displays : List Display
  ambient : Ambient
  left : Engine
  right : Engine
  wall : Engine
  control : PowerControl
  settings : Settings
  store : Store
  notices : Notices
  marks : Marks
  answer : Answer
  deriving DecidableEq, Repr

/-- The state of the block: the part, and the commands that wait, first in, first out. -/
structure State where
  part : Part
  pending : List Instr
  deriving DecidableEq, Repr

/-- The part as a start leaves it: power-on, pin reset or RESET ALL, at time `now`, with the stored image `image` (R190,
R191; R19, R20, R45, R88, R114, R148, R149, R168, R169, R184, R196). -/
def Part.started (cause : StartCause) (image : Option Settings) (now : Nat) : Part :=
  { power := .running
    now := now
    seats := List.replicate 96 startSeat
    floors := List.replicate 4 startFloor
    queues := List.replicate 4 startQueue
    slots := List.replicate 48 none
    lastHandle := 0
    clock := { valid := false, minute := 0, second := 0 }
    contexts := List.replicate 4 none
    partitions := List.replicate 3 startPartition
    displays := (loadedSettings image).displays.map (startDisplay (loadedSettings image))
    ambient := startAmbient
    left := startEngine Config.seatPositions
    right := startEngine Config.seatPositions
    wall := startEngine Config.wallPositions
    control := startPowerControl now
    settings := loadedSettings image
    store := startStore image
    notices := startNotices image
    marks := allMarks false (List.replicate 48 false)
    answer := startAnswer cause (loadedSource image) }

/-- The block right after power-on, with no command waiting. The manual gives a new part no stored image, so the load
takes the factory defaults (DESIGN CHOICE, log entry 3). -/
def State.reset : State := { part := Part.started .powerOn none 0, pending := [] }

end Sys2Proof.Machine
end

