-- ==== Sys2Proof/Machine/Ops.lean ====
section
/-! DEFINITION. The named operations on the part's records: reading and writing one record by its number, the zone map and
the rooms, who holds a zone, the timebase, the notice flags and the urgent lists. -/

namespace Sys2Proof.Machine

/-- Entry `i` of a list whose places are numbered from 1, as the manual numbers every record. -/
def nth {α : Type} (l : List α) (i : Nat) : Option α :=
  match i with
  | 0 => none
  | k + 1 => l[k]?

/-- Write entry `i`, numbered from 1; a number outside the list writes nothing. -/
def upd {α : Type} (l : List α) (i : Nat) (f : α → α) : List α :=
  match i with
  | 0 => l
  | k + 1 => l.modify k f

/-- Write every entry by a function of its number, the first numbered `i`. -/
def mapFrom {α β : Type} (f : Nat → α → β) : Nat → List α → List β
  | _, [] => []
  | i, a :: l => f i a :: mapFrom f (i + 1) l

def seatNumbers : List Nat := List.range' 1 96
def floorNumbers : List Nat := [1, 2, 3, 4]
def zoneNumbers : List Nat := [1, 2, 3, 4]
def slotNumbers : List Nat := List.range' 1 48
def displayNumbers : List Nat := List.range' 1 8

/-- The next number of a count that wraps from 65535 to 1 (R8, R22, R116). -/
def wrapNext (k : Nat) : Nat := if 65535 ≤ k then 1 else k + 1

/-- A count that stays at `top` once there. -/
def sat (top k : Nat) : Nat := min top k

/-! ### Records by number -/

def Part.seatAt (p : Part) (n : Nat) : Seat := (nth p.seats n).getD startSeat
def Part.updSeat (p : Part) (n : Nat) (f : Seat → Seat) : Part := { p with seats := upd p.seats n f }
def Part.floorAt (p : Part) (f : Nat) : Floor := (nth p.floors f).getD startFloor
def Part.updFloor (p : Part) (f : Nat) (g : Floor → Floor) : Part := { p with floors := upd p.floors f g }
def Part.queueAt (p : Part) (f : Nat) : Queue := (nth p.queues f).getD startQueue
def Part.updQueue (p : Part) (f : Nat) (g : Queue → Queue) : Part := { p with queues := upd p.queues f g }
def Part.contextAt (p : Part) (f : Nat) : Option OpContext := (nth p.contexts f).getD none
def Part.setContext (p : Part) (f : Nat) (c : Option OpContext) : Part := { p with contexts := upd p.contexts f (fun _ => c) }
def Part.partitionAt (p : Part) (k : Nat) : Partition := (nth p.partitions k).getD startPartition
def Part.updPartition (p : Part) (k : Nat) (g : Partition → Partition) : Part :=
  { p with partitions := upd p.partitions k g }
def Part.displayAt (p : Part) (d : Nat) : Display :=
  (nth p.displays d).getD (startDisplay factorySettings (factoryDisplay 1))
def Part.updDisplay (p : Part) (d : Nat) (g : Display → Display) : Part := { p with displays := upd p.displays d g }
def Part.slotAt (p : Part) (k : Nat) : Option Booking := (nth p.slots k).getD none

/-- The record in slot `k` written, where the slot holds one. -/
def Part.updSlot (p : Part) (k : Nat) (g : Booking → Booking) : Part :=
  { p with slots := upd p.slots k (fun b => b.map g) }

def Part.engine (p : Part) : Segment → Engine
  | .left => p.left
  | .right => p.right
  | .wall => p.wall

def Part.updEngine (p : Part) (seg : Segment) (g : Engine → Engine) : Part :=
  match seg with
  | .left => { p with left := g p.left }
  | .right => { p with right := g p.right }
  | .wall => { p with wall := g p.wall }

/-! ### Bookings by handle -/

/-- The booking in a slot, if it has the handle `h`. -/
def hasHandle (h : Nat) : Option Booking → Bool
  | none => false
  | some b => b.handle == h

/-- The slot of the record with handle `h`, if the table holds one (R21). -/
def Part.slotOf (p : Part) (h : Nat) : Option Nat := slotNumbers.find? (fun k => hasHandle h (p.slotAt k))

/-- The record with handle `h`. -/
def Part.bookingOf (p : Part) (h : Nat) : Option Booking := (p.slotOf h).bind p.slotAt

/-- Write the record with handle `h`. -/
def Part.updBooking (p : Part) (h : Nat) (g : Booking → Booking) : Part :=
  match p.slotOf h with
  | none => p
  | some k => p.updSlot k g

/-- Free the record with handle `h`: its slot holds no record, its handle is free and its roster returns to the pool. -/
def Part.freeBooking (p : Part) (h : Nat) : Part :=
  match p.slotOf h with
  | none => p
  | some k => { p with slots := upd p.slots k (fun _ => none) }

/-! ### Zones, rooms and who holds a zone -/

/-- Zone `z` lies in the run. -/
def ZoneRun.has (r : ZoneRun) (z : Nat) : Bool := decide (r.first ≤ z ∧ z ≤ r.last)

/-- Two runs have a zone in common. -/
def ZoneRun.meets (a b : ZoneRun) : Bool := decide (a.first ≤ b.last ∧ b.first ≤ a.last)

/-- A contiguous run of 1 to 4 zones (R8). -/
def ZoneRun.ok (r : ZoneRun) : Bool := decide (1 ≤ r.first ∧ r.first ≤ r.last ∧ r.last ≤ 4)

def inRange (n : Nat) : Option (Nat × Nat) → Bool
  | none => false
  | some (a, b) => decide (a ≤ n ∧ n ≤ b)

/-- Seat `n` lies in the ranges of a zone (R1). -/
def ZoneRanges.has (z : ZoneRanges) (n : Nat) : Bool := inRange n z.left || inRange n z.right

/-- The zone of seat `n` under a zone map (R1). -/
def zoneIn (map : List ZoneRanges) (n : Nat) : Option Nat :=
  zoneNumbers.find? (fun z => ((nth map z).map (fun r => r.has n)).getD false)

/-- The zone of seat `n` under the current zone map (R2). -/
def Part.zoneOf (p : Part) (n : Nat) : Option Nat := zoneIn p.settings.zoneMap n

/-- Seat `n` lies in the zones of the run under the current zone map. -/
def Part.seatIn (p : Part) (run : ZoneRun) (n : Nat) : Bool := ((p.zoneOf n).map run.has).getD false

/-- The seats of a run of zones, in rising order. -/
def Part.seatsIn (p : Part) (run : ZoneRun) : List Nat := seatNumbers.filter (p.seatIn run)

/-- The floor holds zone `z` (00 Terms, held zone). -/
def Floor.holds (fl : Floor) (z : Nat) : Bool :=
  decide (fl.state ≠ .free) && (fl.zones.map (fun r => r.has z)).getD false

/-- The floor that holds zone `z`, if any. -/
def Part.floorOfZone (p : Part) (z : Nat) : Option Nat := floorNumbers.find? (fun f => (p.floorAt f).holds z)

/-- The floor that holds the zone of seat `n`, if any. -/
def Part.floorOf (p : Part) (n : Nat) : Option Nat := (p.zoneOf n).bind p.floorOfZone

/-- None of the zones of the run is held. -/
def Part.unheld (p : Part) (run : ZoneRun) : Bool :=
  zoneNumbers.all (fun z => !run.has z || (p.floorOfZone z).isNone)

def Part.allFloorsFree (p : Part) : Bool := floorNumbers.all (fun f => decide ((p.floorAt f).state = .free))

/-- Partition Pk is OPEN. -/
def Part.wallOpen (p : Part) (k : Nat) : Bool := decide ((p.partitionAt k).state = .opened)

/-- The room that begins at zone `z`: how far it reaches, with `fuel` partitions left to pass (R7). -/
def roomEnd (isOpen : Nat → Bool) : Nat → Nat → Nat
  | 0, z => z
  | k + 1, z => if isOpen z then roomEnd isOpen k (z + 1) else z

/-- Whether zone `z` begins a room (R7). -/
def beginsRoom (isOpen : Nat → Bool) (z : Nat) : Bool := decide (z = 1) || !isOpen (z - 1)

/-- The rooms, in zone order, from the partition states alone (R7). -/
def roomsFrom (isOpen : Nat → Bool) : List ZoneRun :=
  (zoneNumbers.filter (beginsRoom isOpen)).map (fun z => { first := z, last := roomEnd isOpen (4 - z) z })

/-- The rooms of the layout record (R7). -/
def Part.rooms (p : Part) : List ZoneRun := roomsFrom p.wallOpen

/-- The room containing zone `z` (R7). -/
def Part.roomOf (p : Part) (z : Nat) : ZoneRun := (p.rooms.find? (fun r => r.has z)).getD { first := z, last := z }

/-! ### Floors: their parameters and the booking they serve -/

/-- The parameters of a floor, all at zero or first value while absent (R8, R198: sent as 0). -/
def Floor.par (fl : Floor) : FloorParams := fl.params.getD { factoryParams with limit := 0, warningLead := 0 }

/-- The booking a floor serves (R8). -/
def Part.served (p : Part) (f : Nat) : Option Booking := (p.floorAt f).booking.bind p.bookingOf

/-- The floor serves a PRIVATE booking. -/
def Part.isPrivate (p : Part) (f : Nat) : Bool :=
  ((p.served f).map (fun b => decide (b.confidentiality = .privateMeeting))).getD false

/-- The roster entry of seat `n` (R36). -/
def Booking.entryOf (b : Booking) (n : Nat) : Option RosterEntry := b.roster.find? (fun e => e.seat == n)

/-- The delegate count (R89). -/
def Floor.delegates (fl : Floor) : Nat := (fl.openList.filter (fun e => decide (e.cls = .delegate))).length

/-- The oldest DELEGATE entry's seat (R93). -/
def Floor.oldestDelegate (fl : Floor) : Option Nat :=
  (fl.openList.find? (fun e => decide (e.cls = .delegate))).map (fun e => e.seat)

/-- The most recently opened DELEGATE entry's seat (R108). -/
def Floor.newestDelegate (fl : Floor) : Option Nat :=
  (fl.openList.reverse.find? (fun e => decide (e.cls = .delegate))).map (fun e => e.seat)

/-- The open-list entry of seat `n` on floor `f`. -/
def Part.openEntry (p : Part) (f n : Nat) : Option OpenEntry := (p.floorAt f).openList.find? (fun e => e.seat == n)

/-- Seat `n` stands in the queue of floor `f`. -/
def Part.isQueued (p : Part) (f n : Nat) : Bool := (p.queueAt f).entries.any (fun e => e.seat == n)

/-! ### Pools and derived values -/

/-- Queue entries standing in all four queues (R113). -/
def Part.queueStanding (p : Part) : Nat := (p.queues.map (fun q => q.entries.length)).sum

/-- `queue_free` (R113). -/
def Part.queueFree (p : Part) : Nat := Config.queuePool - p.queueStanding

/-- `queue_pool_low` (R131). -/
def Part.queuePoolLow (p : Part) : Bool := decide (p.queueFree ≤ 8)

/-- Roster entries of all booking records (R36). -/
def Part.rosterStanding (p : Part) : Nat :=
  (p.slots.map (fun b => (b.map (fun b => b.roster.length)).getD 0)).sum

/-- Free roster pool entries (R36). -/
def Part.rosterFree (p : Part) : Nat := Config.rosterPool - p.rosterStanding

/-- Free booking slots (R21). -/
def Part.slotsFree (p : Part) : Nat := (p.slots.filter (fun b => b.isNone)).length

/-- `queue_alert` of floor `f` (R130): the length is at or above `alert_level`; no while the floor is FREE. -/
def Part.queueAlert (p : Part) (f : Nat) : Bool :=
  match (p.floorAt f).params with
  | none => false
  | some q => decide (q.alertLevel ≤ (p.queueAt f).entries.length) && decide (0 < (p.queueAt f).entries.length)

/-- PRESENT or DEGRADED. -/
def Presence.inService : Presence → Bool
  | .present => true
  | .degraded => true
  | .absent => false
  | .settling => false
  | .cutOff => false

/-- SETTLING, PRESENT or DEGRADED: the presences whose exchanges are scored and whose answers are taken (R69). -/
def Presence.polled : Presence → Bool
  | .present => true
  | .degraded => true
  | .settling => true
  | .absent => false
  | .cutOff => false

/-- Seat `n` is PRESENT or DEGRADED. -/
def Part.inService (p : Part) (n : Nat) : Bool := (p.seatAt n).health.presence.inService

/-- The floor states in which a served booking offers its roster (R76, R79). -/
def FloorState.offersRoster : FloorState → Bool
  | .preparing => true
  | .ready => true
  | .live => true
  | .free => false
  | .closing => false

/-- A settled badge is admitted by a booking at seat `n`: it is the roster tag, or it passes the guest filter (R79). -/
def Booking.admits (b : Booking) (n : Nat) (badge : Tag) : Bool :=
  decide ((b.entryOf n).map (fun e => e.tag) = some badge) ||
    decide (badge &&& b.guestMask = b.guestCode &&& b.guestMask)

/-- `admitted` of seat `n` (R79). -/
def Part.admitted (p : Part) (n : Nat) : Bool :=
  p.inService n &&
    match p.floorOf n, (p.seatAt n).badge with
    | some f, some badge =>
      (p.floorAt f).state.offersRoster && ((p.served f).map (fun b => b.admits n badge)).getD false
    | _, _ => false

/-! ### Seats by segment and position -/

def segmentOf (n : Nat) : Segment := if n ≤ 48 then .left else .right
def positionOf (n : Nat) : Nat := if n ≤ 48 then n else n - 48

/-- The seat at a position of LEFT or RIGHT (00, Numbering of places). -/
def seatOn (seg : Segment) (pos : Nat) : Nat :=
  match seg with
  | .left => pos
  | .right => 48 + pos
  | .wall => 0

/-- The role of a WALL position (R150). -/
def Part.roleAt (p : Part) (pos : Nat) : Option WallRole := (nth p.wall.roles pos).getD none

/-- The presence of a position, as the record of its role gives it (R150). -/
def Part.presenceAt (p : Part) (seg : Segment) (pos : Nat) : Presence :=
  match seg with
  | .left => (p.seatAt pos).health.presence
  | .right => (p.seatAt (48 + pos)).health.presence
  | .wall =>
    match p.roleAt pos with
    | none => .absent
    | some (.display d) => (p.displayAt d).health.presence
    | some .ambient => p.ambient.health.presence
    | some (.partition k) => (p.partitionAt k).health.presence

/-! ### Rotation and the timebase -/

/-- A rotation runs while the bound zone is held by a LIVE floor and `content_b` is present (R139). -/
def Part.rotationRuns (p : Part) (cfg : DisplayConfig) : Bool :=
  cfg.contentB.isSome &&
    match cfg.binding.bind p.floorOfZone with
    | none => false
    | some f => decide ((p.floorAt f).state = .live)

/-- `n` seconds pass for an open-list entry (R104). -/
def OpenEntry.spend (n : Nat) (e : OpenEntry) : OpenEntry :=
  if e.cls = .delegate ∧ e.muted = false then { e with spokenS := sat 65535 (e.spokenS + n) } else e

/-- The dwell of a display's current phase (R139). -/
def Display.dwell (d : Display) : Nat := if d.phaseB then d.config.dwellB else d.config.dwellA

/-- The next second is the one at which a running rotation changes phase (R139). -/
def Display.turns (d : Display) : Bool := decide (d.dwell ≤ d.phaseElapsedS + 1)

/-- One second of a running rotation (R139): `phase_elapsed_s` rises, and at the dwell of the phase the phase changes. -/
def Display.passSecond (d : Display) : Display :=
  if d.turns then { d with phaseB := !d.phaseB, phaseElapsedS := 0 } else { d with phaseElapsedS := d.phaseElapsedS + 1 }

/-- `n` seconds of a running rotation, each compared with the dwell (R139). -/
def Display.passSeconds : Nat → Display → Display
  | 0, d => d
  | k + 1, d => Display.passSeconds k d.passSecond

/-- `n` seconds of the timebase pass: `spoken_s` (R104) and `waited_s` (R123) rise, and rotations go on (R139). -/
def Part.countSeconds (p : Part) (n : Nat) : Part :=
  { p with
    floors := p.floors.map (fun fl => { fl with openList := fl.openList.map (OpenEntry.spend n) })
    queues := p.queues.map
      (fun q => { q with entries := q.entries.map (fun e => { e with waitedS := sat 65535 (e.waitedS + n) }) })
    displays := p.displays.map
      (fun d => if p.rotationRuns d.config then Display.passSeconds n d else d) }

/-- A guard whose time the timebase has reached becomes absent (R66, R111). -/
def Seat.endGuard (now : Nat) (s : Seat) : Seat :=
  match s.guardUntil with
  | none => s
  | some g => if g ≤ now then { s with guardUntil := none } else s

/-- The timebase runs on to `t`: each whole second passed is counted, and guards whose time is reached end. A time that is
not ahead changes nothing: the timebase never goes back. -/
def Part.passTime (p : Part) (t : Nat) : Part :=
  if t ≤ p.now then p
  else
    let counted := p.countSeconds (t / Config.second - p.now / Config.second)
    { counted with now := t, seats := counted.seats.map (Seat.endGuard t) }

/-- A forced close sets the seat's guard 2 s ahead (R111). -/
def Part.setGuard (p : Part) (n : Nat) : Part :=
  p.updSeat n (fun s => { s with guardUntil := some (p.now + Config.guard) })

/-- The refused flash: `flash_due` of a seat that a POLL can reach becomes yes (R68). -/
def Part.flash (p : Part) (n : Nat) : Part :=
  p.updSeat n (fun s => if s.health.presence.polled then { s with flashDue := true } else s)

/-! ### Notice flags -/

/-- The bit of a notice kind (R198). -/
def NoticeKind.bit : NoticeKind → NoticeSet
  | .seat => 0x001
  | .floor => 0x002
  | .queue => 0x004
  | .booking => 0x008
  | .display => 0x010
  | .layout => 0x020
  | .link => 0x040
  | .settings => 0x080
  | .port => 0x100

/-- The flag of a kind becomes yes, while its notice enable is yes (R186). -/
def Part.raise (p : Part) (k : NoticeKind) : Part :=
  { p with notices := { p.notices with flags := p.notices.flags ||| (k.bit &&& p.notices.enables) } }

/-- A booking's mark set whether or not a field changed, with its notice (R184, R33, R37). -/
def Part.touchBooking (p : Part) (h : Nat) : Part :=
  match p.slotOf h with
  | none => p
  | some k => ({ p with marks := { p.marks with bookings := upd p.marks.bookings k (fun _ => true) } } : Part).raise .booking

/-- A floor's mark set whether or not a field changed, with its notice (R34). -/
def Part.touchFloor (p : Part) (f : Nat) : Part :=
  ({ p with marks := { p.marks with floors := upd p.marks.floors f (fun _ => true) } } : Part).raise .floor

/-- The table record's mark set whether or not a field changed, with its notice (R55, R56, R59). -/
def Part.touchTable (p : Part) : Part := ({ p with marks := { p.marks with table := true } } : Part).raise .link

/-- A seat's mark set whether or not a field changed, with its notice (R84). -/
def Part.touchSeat (p : Part) (n : Nat) : Part :=
  ({ p with marks := { p.marks with seats := upd p.marks.seats n (fun _ => true) } } : Part).raise .seat

/-! ### Urgent exchanges -/

/-- The position is in the round of its segment: every position in FULL scope, the sensor roles in SENSORS scope
(R162, R165). -/
def Part.inScope (p : Part) (seg : Segment) (pos : Nat) : Bool :=
  match (p.engine seg).scope with
  | .full => true
  | .sensors =>
    match p.roleAt pos with
    | some .ambient => true
    | some (.partition _) => true
    | some (.display _) => false
    | none => false

/-- A request for an urgent exchange (R162): listed once, at the tail, on a RUNNING segment whose round holds the position. -/
def Part.requestUrgent (p : Part) (seg : Segment) (pos : Nat) : Part :=
  if (p.engine seg).state = .running ∧ p.inScope seg pos = true ∧ pos ∉ (p.engine seg).urgent then
    p.updEngine seg (fun e => { e with urgent := e.urgent ++ [pos] })
  else p

def Part.requestSeat (p : Part) (n : Nat) : Part := p.requestUrgent (segmentOf n) (positionOf n)

/-- A display's request, where the display holds a WALL position (R141). -/
def Part.requestDisplay (p : Part) (d : Nat) : Part :=
  match (p.displayAt d).unitPosition with
  | none => p
  | some pos => p.requestUrgent .wall pos

end Sys2Proof.Machine
end

