-- ==== Sys2Proof/Machine/Queues.lean ====
section
/-! DEFINITION. The queue manager: joining, leaving, moving and emptying the floor queues (06). -/

namespace Sys2Proof.Machine

/-- The class a press gives an entry: that of the seat's role (R116). -/
def Role.queueClass : Role → QueueClass
  | .priority => .priority
  | .ordinary => .ordinary
  | .chair => .ordinary

/-- An entry placed by its class: PRIORITY behind the last PRIORITY entry, ORDINARY at the tail (R116). -/
def placeEntry (e : QueueEntry) (l : List QueueEntry) : List QueueEntry :=
  match e.cls with
  | .ordinary => l ++ [e]
  | .priority => l.takeWhile (fun x => decide (x.cls = .priority)) ++ e :: l.dropWhile (fun x => decide (x.cls = .priority))

/-- The two tests of an enqueue (R117): the queue is shorter than `queue_cap`, and the pool holds a free entry. -/
def Part.queueHasRoom (p : Part) (f : Nat) : Bool :=
  decide ((p.queueAt f).entries.length < (p.floorAt f).par.queueCap) && decide (0 < p.queueFree)

/-- An entry for seat `n` placed in the queue of floor `f` (R116). -/
def Part.joinQueue (p : Part) (f n : Nat) (cls : QueueClass) : Part :=
  p.updQueue f (fun q =>
    { entries := placeEntry { seat := n, cls := cls, arrival := wrapNext q.lastArrival, waitedS := 0 } q.entries
      lastArrival := wrapNext q.lastArrival })

/-- An enqueue (R117): none when it is refused with QUEUE_FULL. -/
def Part.enqueueSeat (p : Part) (f n : Nat) (cls : QueueClass) : Option Part :=
  if p.queueHasRoom f then some (p.joinQueue f n cls) else none

/-- The entry of seat `n` leaves the queue of floor `f` and returns to the pool (R119, R126). -/
def Part.leaveQueue (p : Part) (f n : Nat) : Part :=
  p.updQueue f (fun q => { q with entries := q.entries.filter (fun e => e.seat != n) })

/-- Every entry of the queue of floor `f` returns to the pool (R128). -/
def Part.emptyQueue (p : Part) (f : Nat) : Part := p.updQueue f (fun q => { q with entries := [] })

/-- The position of seat `n` in the queue of floor `f`, from 1 at the head; 0 when it stands not there (R115). -/
def Part.queuePosition (p : Part) (f n : Nat) : Nat :=
  match (p.queueAt f).entries.findIdx? (fun e => e.seat == n) with
  | none => 0
  | some i => i + 1

/-- An entry taken out of its place and put back at class position `pos` within its own class (R121). -/
def moveInClass (e : QueueEntry) (pos : Nat) (l : List QueueEntry) : List QueueEntry :=
  let others := (l.filter (fun x => decide (x.cls = e.cls))).filter (fun x => x.seat != e.seat)
  let same := others.insertIdx (min (pos - 1) others.length) e
  match e.cls with
  | .priority => same ++ l.filter (fun x => decide (x.cls = .ordinary))
  | .ordinary => l.filter (fun x => decide (x.cls = .priority)) ++ same

/-- MOVE_ENTRY's effect on the queue of floor `f` (R121). -/
def Part.moveQueued (p : Part) (f n pos : Nat) : Part :=
  p.updQueue f (fun q =>
    match q.entries.find? (fun e => e.seat == n) with
    | none => q
    | some e => { q with entries := moveInClass e pos q.entries })

/-- A queued seat's role changes between ORDINARY and PRIORITY: its entry takes the new class and is placed anew, with a new
arrival number and its `waited_s` (R127). -/
def Part.reclassQueued (p : Part) (f n : Nat) (cls : QueueClass) : Part :=
  p.updQueue f (fun q =>
    match q.entries.find? (fun e => e.seat == n) with
    | none => q
    | some e =>
      { entries := placeEntry { e with cls := cls, arrival := wrapNext q.lastArrival }
          (q.entries.filter (fun x => x.seat != n))
        lastArrival := wrapNext q.lastArrival })

/-- Entries that have waited the floor's non-zero lifetime expire, in one step (R123, R124). -/
def Part.expireQueue (p : Part) (f : Nat) : Part :=
  if (p.floorAt f).par.lifetime = 0 then p
  else p.updQueue f (fun q =>
    { q with entries := q.entries.filter (fun e => decide (e.waitedS < (p.floorAt f).par.lifetime * 60)) })

/-- A lowered `queue_cap` removes entries from the tail (R125). -/
def Part.trimQueue (p : Part) (f : Nat) : Part :=
  p.updQueue f (fun q => { q with entries := q.entries.take (p.floorAt f).par.queueCap })

end Sys2Proof.Machine
end

