-- ==== Sys2Proof/Machine/Floors.lean ====
section
/-! DEFINITION. The floor controller: openings, closes, holds, grants, presses, timers, live changes and suspension
(01 section 1.5, 05). -/

namespace Sys2Proof.Machine

/-! ### Openings and closes -/

/-- Seat `n` stands in some open list. -/
def Part.standsOpen (p : Part) (n : Nat) : Bool := floorNumbers.any (fun f => (p.openEntry f n).isSome)

/-- An opening may be made for seat `n` on floor `f` (R90): PRESENT or DEGRADED, in no open list, and admitted where the
booking is PRIVATE. -/
def Part.mayOpen (p : Part) (f n : Nat) : Bool :=
  p.inService n && !p.standsOpen n && (!p.isPrivate f || p.admitted n)

/-- The entry an opening adds (R90), warned at once when its allowance is not more than the warning lead (R105). -/
def newEntry (fl : Floor) (role : Role) (n : Nat) : OpenEntry :=
  let chair := decide (role = .chair)
  let used := if chair then 0 else fl.par.allowance
  { seat := n, cls := if chair then .chair else .delegate, openedOrder := wrapNext fl.openOrder, spokenS := 0,
    allowanceUsed := used, muted := !chair && decide (0 < fl.priorityHolders),
    warned := decide (used ≠ 0 ∧ used ≤ fl.par.warningLead), overtime := false }

/-- The opening of R90, its conditions tested: the entry at the tail with the next order number, and the seat's queue entry
back in the pool. -/
def Part.openSeat (p : Part) (f n : Nat) : Part :=
  if p.mayOpen f n then
    (p.updFloor f (fun fl =>
      { fl with openOrder := wrapNext fl.openOrder, openList := fl.openList ++ [newEntry fl (p.seatAt n).role n] })).leaveQueue f n
  else p

/-- An entry unmuted when the last hold ends (R100). -/
def OpenEntry.unmute (e : OpenEntry) : OpenEntry := { e with muted := false }

/-- A DELEGATE entry muted when the first hold starts (R99). -/
def OpenEntry.mute (e : OpenEntry) : OpenEntry := if e.cls = .delegate then { e with muted := true } else e

/-- One hold less on a floor; the last one unmutes (R100). -/
def Floor.dropHold (fl : Floor) : Floor :=
  { fl with
    priorityHolders := fl.priorityHolders - 1
    openList := if fl.priorityHolders ≤ 1 then fl.openList.map OpenEntry.unmute else fl.openList }

/-- The end of the hold of seat `n` on floor `f`, if it holds (R100). -/
def Part.endHold (p : Part) (f n : Nat) : Part :=
  if (p.seatAt n).priorityHeld then
    (p.updSeat n (fun s => { s with priorityHeld := false })).updFloor f Floor.dropHold
  else p

/-- The entry of seat `n` leaves the open list of floor `f`; the entries behind it keep their order (R91). -/
def Part.dropEntry (p : Part) (f n : Nat) : Part :=
  p.updFloor f (fun fl => { fl with openList := fl.openList.filter (fun e => e.seat != n) })

/-- An ordinary close (R91). -/
def Part.closeEntry (p : Part) (f n : Nat) : Part := (p.endHold f n).dropEntry f n

/-- A forced close (R91), with the guard (R111). -/
def Part.forceClose (p : Part) (f n : Nat) : Part := (p.closeEntry f n).setGuard n

/-- Seat `n` has a DELEGATE entry in the open list of floor `f`. -/
def Part.isDelegate (p : Part) (f n : Nat) : Bool :=
  ((p.openEntry f n).map (fun e => decide (e.cls = .delegate))).getD false

/-! ### Grants -/

/-- The head of the queue is taken and opened (R122). -/
def Part.grantHead (p : Part) (f : Nat) : Part :=
  match (p.queueAt f).entries with
  | [] => p
  | e :: _ => (p.leaveQueue f e.seat).openSeat f e.seat

/-- The mode is one that grants without a chair or host (R95). -/
def FloorParams.grantsItself (q : FloorParams) : Bool :=
  decide (q.mode = .autoQueue) || (decide (q.mode = .openFloor) && decide (q.overflow = .queue))

/-- The conditions of an auto grant (R95). -/
def Part.grantReady (p : Part) (f : Nat) : Bool :=
  decide ((p.floorAt f).state = .live) && !(p.floorAt f).suspended && (p.floorAt f).par.grantsItself &&
    decide ((p.floorAt f).delegates < (p.floorAt f).par.limit) && !(p.queueAt f).entries.isEmpty

/-- Auto grant, head after head (R95); every grant takes one entry from the queue. -/
def grantLoop : Nat → Nat → Part → Part
  | 0, _, p => p
  | k + 1, f, p => if p.grantReady f then grantLoop k f (p.grantHead f) else p

/-- Auto grant (R95). -/
def Part.autoGrant (p : Part) (f : Nat) : Part := grantLoop (p.queueAt f).entries.length f p

/-- A close that leads to auto grant when the entry was a DELEGATE (R91, R95). -/
def Part.closeThenGrant (p : Part) (f n : Nat) (forced : Bool) : Part :=
  let closed := if forced then p.forceClose f n else p.closeEntry f n
  if p.isDelegate f n then closed.autoGrant f else closed

/-! ### SPEAK presses -/

/-- An enqueue for a press: the refused flash when the queue manager refuses it (R93). -/
def Part.enqueueOrFlash (p : Part) (f n : Nat) : Part :=
  (p.enqueueSeat f n (p.seatAt n).role.queueClass).getD (p.flash n)

/-- A SPEAK press of a chair toggles its microphone (R94). -/
def Part.speakChair (p : Part) (f n : Nat) : Part :=
  if (p.openEntry f n).isSome then p.closeEntry f n else p.openSeat f n

/-- A SPEAK press of a CLOSED delegate at a full OPEN_FLOOR (R93). -/
def Part.speakOverflow (p : Part) (f n : Nat) : Part :=
  match (p.floorAt f).par.overflow with
  | .queue => p.enqueueOrFlash f n
  | .refuse => p.flash n
  | .replaceOldest =>
    match (p.floorAt f).oldestDelegate with
    | none => p.flash n
    | some oldest => (p.forceClose f oldest).openSeat f n

/-- A SPEAK press of a CLOSED delegate, by the floor's mode (R93). -/
def Part.speakClosed (p : Part) (f n : Nat) : Part :=
  match (p.floorAt f).par.mode with
  | .openFloor => if (p.floorAt f).delegates < (p.floorAt f).par.limit then p.openSeat f n else p.speakOverflow f n
  | .moderated => p.enqueueOrFlash f n
  | .autoQueue =>
    match p.enqueueSeat f n (p.seatAt n).role.queueClass with
    | none => p.flash n
    | some joined => joined.autoGrant f

/-- A SPEAK press of a seat of role ORDINARY or PRIORITY (R93). -/
def Part.speakDelegate (p : Part) (f n : Nat) : Part :=
  if (p.openEntry f n).isSome then
    if (p.floorAt f).par.selfClose then p.closeThenGrant f n false else p.flash n
  else if p.isQueued f n then p.leaveQueue f n
  else p.speakClosed f n

/-- A SPEAK press after the guard's test (R92, steps 2 to 4). -/
def Part.speakUnguarded (p : Part) (f n : Nat) : Part :=
  if (p.floorAt f).state ≠ .live ∨ ((p.floorAt f).suspended = true ∧ p.isQueued f n = false) then p.flash n
  else if p.isPrivate f && !p.admitted n then p.flash n
  else if (p.seatAt n).role = .chair then p.speakChair f n
  else p.speakDelegate f n

/-- A SPEAK press that reaches floor `f` (R92): discarded while the seat's guard is present. -/
def Part.speakPress (p : Part) (f n : Nat) : Part :=
  if (p.seatAt n).guardUntil.isSome then p else p.speakUnguarded f n

/-! ### Chair buttons -/

/-- The floor takes a chair button: LIVE (suspended or not, as `whileSuspended` says), and admission in a PRIVATE booking
(R10, R96). -/
def Part.chairTaken (p : Part) (f n : Nat) (whileSuspended : Bool) : Bool :=
  decide ((p.floorAt f).state = .live) && (whileSuspended || !(p.floorAt f).suspended) &&
    (!p.isPrivate f || p.admitted n)

/-- NEXT's grant of the head, making room at a full floor (R97). -/
def Part.nextSpeaker (p : Part) (f : Nat) : Part :=
  if (p.floorAt f).delegates < (p.floorAt f).par.limit then p.grantHead f
  else
    match (p.floorAt f).oldestDelegate with
    | none => p.grantHead f
    | some oldest => ((p.forceClose f oldest).grantHead f).autoGrant f

/-- A NEXT press (R96, R97). -/
def Part.nextPress (p : Part) (f n : Nat) : Part :=
  if p.chairTaken f n false && !(p.queueAt f).entries.isEmpty then p.nextSpeaker f else p.flash n

/-- Every DELEGATE entry of the open list of floor `f` closes as a forced close. -/
def Part.forceCloseAll (p : Part) (f : Nat) (seats : List Nat) : Part := seats.foldl (fun q n => q.forceClose f n) p

/-- The seats of the open list, oldest first. -/
def Floor.openSeats (fl : Floor) : List Nat := fl.openList.map (fun e => e.seat)

/-- The seats of the DELEGATE entries, oldest first. -/
def Floor.delegateSeats (fl : Floor) : List Nat :=
  (fl.openList.filter (fun e => decide (e.cls = .delegate))).map (fun e => e.seat)

/-- The effect of CANCEL_ALL and of CANCEL_FLOOR (R98, R103, R128). -/
def Part.cancelAll (p : Part) (f : Nat) : Part := (p.forceCloseAll f (p.floorAt f).delegateSeats).emptyQueue f

/-- A CANCEL_ALL press (R96, R98): taken while the floor is suspended too (R10). -/
def Part.cancelAllPress (p : Part) (f n : Nat) : Part :=
  if p.chairTaken f n true then p.cancelAll f else p.flash n

/-- A hold of seat `n` starts on floor `f` (R99). -/
def Part.startHold (p : Part) (f n : Nat) : Part :=
  let held := (p.updSeat n (fun s => { s with priorityHeld := true })).updFloor f
    (fun fl => { fl with priorityHolders := fl.priorityHolders + 1 })
  let chairOpen := if (p.openEntry f n).isSome then held else held.openSeat f n
  if (p.floorAt f).priorityHolders = 0 then
    chairOpen.updFloor f (fun fl => { fl with openList := fl.openList.map OpenEntry.mute })
  else chairOpen

/-- A PRIORITY press (R96, R99). -/
def Part.priorityPress (p : Part) (f n : Nat) : Part :=
  if p.chairTaken f n false then p.startHold f n else p.flash n

/-! ### Speaking timers -/

/-- The remaining time of an entry is at or below `lead`; entries with no allowance have none (R105). -/
def OpenEntry.within (e : OpenEntry) (lead : Nat) : Bool :=
  decide (e.cls = .delegate) && decide (e.allowanceUsed ≠ 0) && decide (e.allowanceUsed ≤ e.spokenS + lead)

/-- The entry of seat `n` on floor `f` written. -/
def Part.updEntry (p : Part) (f n : Nat) (g : OpenEntry → OpenEntry) : Part :=
  p.updFloor f (fun fl => { fl with openList := fl.openList.map (fun e => if e.seat = n then g e else e) })

/-- The entry of seat `n` becomes warned when its remaining time has reached the warning lead (R105). -/
def Part.warnEntry (p : Part) (f n : Nat) : Part :=
  match p.openEntry f n with
  | none => p
  | some e =>
    if e.within (p.floorAt f).par.warningLead && !e.warned then p.updEntry f n (fun e => { e with warned := true }) else p

/-- The entry of seat `n` expires when its remaining time has reached 0 (R106): overtime, or a forced close. Warning comes
first where both fall in one step (R105). -/
def Part.expireEntry (p : Part) (f n : Nat) : Part :=
  match p.openEntry f n with
  | none => p
  | some e =>
    if e.within 0 && !e.overtime then
      match (p.floorAt f).par.expiryAction with
      | .warnOnly => (p.warnEntry f n).updEntry f n (fun e => { e with overtime := true })
      | .close => p.closeThenGrant f n true
    else p

/-- The warning of seat `n`'s entry falls (R105). A warning lead of 0 makes it fall at the second of the expiry (R106), and
the two are taken in one step, warning first. -/
def Part.takeWarning (p : Part) (f n : Nat) : Part :=
  match p.openEntry f n with
  | none => p
  | some e =>
    if (p.floorAt f).par.warningLead = 0 ∧ e.warned = false then (p.warnEntry f n).expireEntry f n else p.warnEntry f n

/-! ### Live changes (R107 to R110) -/

/-- `allowance` NOW on one entry (R107): the new allowance, then `warned` and `overtime` anew. -/
def OpenEntry.rearm (allowance lead : Nat) (e : OpenEntry) : OpenEntry :=
  if e.cls = .delegate then
    let fresh := { e with allowanceUsed := allowance }
    { fresh with warned := fresh.within lead, overtime := e.overtime && fresh.within 0 }
  else e

/-- `warning_lead` on one entry (R107): warned at or below it, unwarned above it unless overtime. -/
def OpenEntry.rewarn (lead : Nat) (e : OpenEntry) : OpenEntry :=
  if e.cls = .delegate then { e with warned := e.within lead || (e.overtime && e.warned) } else e

/-- Entries that a timer change has brought to their expiry (R107): with `applied`, those whose remaining time is 0 or
less; and those already overtime when the action is CLOSE. Under CLOSE they close as forced closes, under WARN_ONLY they
become overtime. No auto grant here: it stands at the end of the step. -/
def Part.settleTimers (p : Part) (f : Nat) (applied : Bool) : Part :=
  match (p.floorAt f).par.expiryAction with
  | .warnOnly =>
    p.updFloor f (fun fl =>
      { fl with openList := fl.openList.map (fun e => if applied && e.within 0 then { e with overtime := true } else e) })
  | .close =>
    p.forceCloseAll f
      (((p.floorAt f).openList.filter (fun e => (applied && e.within 0) || e.overtime)).map (fun e => e.seat))

/-- The timer parameters change on floor `f`, which already holds the new values `new`; `old` are the values before, and
`now` says that the allowance applies at once (R107).

DESIGN CHOICE (log entry 38): R107 gives no order between its rows. Here `allowance` NOW re-arms the entries first, then a
changed `warning_lead` is applied, and expiries and `expiry_action` come last, so an overtime entry that a NOW change leaves
with time stays open when the same change makes the action CLOSE. A `warning_lead` that becomes 0 expires in the same step
the entries whose remaining time has reached 0, as R105 takes a warning and an expiry of one second together. -/
def Part.timerChange (p : Part) (f : Nat) (old new : FloorParams) (now : Bool) : Part :=
  let rearmed :=
    if now then
      p.updFloor f (fun fl => { fl with openList := fl.openList.map (OpenEntry.rearm new.allowance new.warningLead) })
    else p
  let rewarned :=
    if old.warningLead ≠ new.warningLead then
      rearmed.updFloor f (fun fl => { fl with openList := fl.openList.map (OpenEntry.rewarn new.warningLead) })
    else rearmed
  let leadGone := decide (old.warningLead ≠ 0 ∧ new.warningLead = 0)
  if now = true ∨ leadGone = true ∨ (old.expiryAction ≠ .close ∧ new.expiryAction = .close) then
    rewarned.settleTimers f (now || leadGone)
  else rewarned

/-- The most recently opened excess delegates close as forced closes (R108). -/
def closeExcess : Nat → Nat → Part → Part
  | 0, _, p => p
  | k + 1, f, p =>
    if (p.floorAt f).par.limit < (p.floorAt f).delegates then
      match (p.floorAt f).newestDelegate with
      | none => p
      | some n => closeExcess k f (p.forceClose f n)
    else p

/-- A lowered limit, or a role change above it (R108). -/
def Part.enforceLimit (p : Part) (f : Nat) : Part := closeExcess (p.floorAt f).delegates f p

/-- An open DELEGATE entry becomes CHAIR in its place (R110). -/
def OpenEntry.toChair (e : OpenEntry) : OpenEntry :=
  { e with cls := .chair, muted := false, spokenS := 0, allowanceUsed := 0, warned := false, overtime := false }

/-- An open CHAIR entry becomes DELEGATE in its place (R110). -/
def OpenEntry.toDelegate (fl : Floor) (e : OpenEntry) : OpenEntry :=
  { e with cls := .delegate, muted := decide (0 < fl.priorityHolders), spokenS := 0,
           allowanceUsed := fl.par.allowance, warned := false, overtime := false }

/-- A role change of an open seat (R110). -/
def Part.roleOfOpen (p : Part) (f n : Nat) (e : OpenEntry) (role : Role) : Part :=
  match e.cls, role with
  | .delegate, .chair => (p.updEntry f n OpenEntry.toChair).autoGrant f
  | .chair, .priority => (p.updFloor f (fun fl =>
      { fl with openList := fl.openList.map (fun e => if e.seat = n then e.toDelegate fl else e) })).enforceLimit f
  | .chair, .ordinary => (p.updFloor f (fun fl =>
      { fl with openList := fl.openList.map (fun e => if e.seat = n then e.toDelegate fl else e) })).enforceLimit f
  | .chair, .chair => p
  | .delegate, .priority => p
  | .delegate, .ordinary => p

/-- A role change of a queued seat (R110, R127). -/
def Part.roleOfQueued (p : Part) (f n : Nat) (role : Role) : Part :=
  match role with
  | .chair => if (p.floorAt f).suspended then p.leaveQueue f n else (p.leaveQueue f n).openSeat f n
  | .priority => p.reclassQueued f n .priority
  | .ordinary => p.reclassQueued f n .ordinary

/-- The floor and the queue take a change of the role of seat `n` from `old`, already written to the record (R77, R110):
a hold ends first when the role stops being CHAIR. -/
def Part.roleChanged (p : Part) (f n : Nat) (old : Role) : Part :=
  let role := (p.seatAt n).role
  if old = role then p
  else
    let held := if old = .chair then p.endHold f n else p
    match held.openEntry f n with
    | some e => held.roleOfOpen f n e role
    | none => if held.isQueued f n then held.roleOfQueued f n role else held

/-! ### Suspension (R14 to R17) -/

/-- Partition Pk is in breach: OPEN, with two different floors on its two sides (R14). -/
def Part.breach (p : Part) (k : Nat) : Bool :=
  p.wallOpen k &&
    match p.floorOfZone k, p.floorOfZone (k + 1) with
    | some a, some b => decide (a ≠ b)
    | _, _ => false

/-- Floor `f` holds a zone beside a partition in breach (R14). -/
def Part.besideBreach (p : Part) (f : Nat) : Bool :=
  [1, 2, 3].any (fun k => p.breach k && ((p.floorAt f).holds k || (p.floorAt f).holds (k + 1)))

/-- The condition of suspension (R14). -/
def Part.shouldSuspend (p : Part) (f : Nat) : Bool := decide ((p.floorAt f).state = .live) && p.besideBreach f

/-- Floor `f` takes suspension (R15). -/
def Part.takeSuspension (p : Part) (f : Nat) : Part :=
  let marked := p.updFloor f (fun fl => { fl with suspended := true })
  let closed := marked.forceCloseAll f (p.floorAt f).openSeats
  match (p.floorAt f).booking with
  | none => closed
  | some h => closed.updBooking h (fun b => { b with flags := { b.flags with wasSuspended := true } })

/-- Floor `f` resumes (R17). -/
def Part.resume (p : Part) (f : Nat) : Part := (p.updFloor f (fun fl => { fl with suspended := false })).autoGrant f

/-- The evaluation of one floor (R14). -/
def Part.evalSuspensionOf (p : Part) (f : Nat) : Part :=
  if p.shouldSuspend f && !(p.floorAt f).suspended then p.takeSuspension f
  else if !p.shouldSuspend f && (p.floorAt f).suspended then p.resume f
  else p

/-- The evaluation of every floor (R14). -/
def Part.evalSuspension (p : Part) : Part := floorNumbers.foldl Part.evalSuspensionOf p

/-! ### Loss of a seat or of its admission at the floor -/

/-- Seat `n` has lost its admission, or its admission was put into force: it leaves the open list as a forced close, and
the queue (R80, R35, R126). -/
def Part.removeUnadmitted (p : Part) (f n : Nat) : Part :=
  ((if (p.openEntry f n).isSome then p.forceClose f n else p)).leaveQueue f n

/-- The seats standing in the open list or queue of floor `f` that are not admitted. -/
def Part.unadmittedAt (p : Part) (f : Nat) : List Nat :=
  ((p.floorAt f).openSeats ++ (p.queueAt f).entries.map (fun e => e.seat)).filter (fun n => !p.admitted n)

/-- Admission is enforced at a LIVE floor serving a PRIVATE booking (R35, R80): every seat that stands there unadmitted
leaves. -/
def Part.enforceAdmission (p : Part) (f : Nat) : Part :=
  if decide ((p.floorAt f).state = .live) && p.isPrivate f then
    (p.unadmittedAt f).foldl (fun q n => q.removeUnadmitted f n) p
  else p

end Sys2Proof.Machine
end

