-- ==== Sys2Proof/Machine/Link.lean ====
section
/-! DEFINITION. The seat link's engines: a seat's image (R67), the outcomes (R152), the choice of the next exchange
(R162, R163, R165, R171), presence and health (R69, R71, R73, R74). -/

namespace Sys2Proof.Machine

/-! ### A seat's view and image (R67) -/

/-- The open-list entry of seat `n`, in whatever floor it stands. -/
def Part.openEntryOf (p : Part) (n : Nat) : Option OpenEntry := floorNumbers.findSome? (fun f => p.openEntry f n)

/-- The floor in whose queue seat `n` stands. -/
def Part.queueOf (p : Part) (n : Nat) : Option Nat := floorNumbers.find? (fun f => p.isQueued f n)

/-- Seat `n` stands at the head of the queue of floor `f`. -/
def Part.isHead (p : Part) (f n : Nat) : Bool :=
  match (p.queueAt f).entries with
  | [] => false
  | e :: _ => e.seat == n

/-- The derived `mic` view (R67). -/
def Part.micOf (p : Part) (n : Nat) : Mic :=
  match p.openEntryOf n with
  | some e => if e.muted then .muted else .live
  | none => if (p.queueOf n).isSome then .queued else .closed

/-- The commanded microphone state of a view (R67). -/
def Mic.command : Mic → MicCommand
  | .closed => .closed
  | .queued => .closed
  | .live => .live
  | .muted => .muted

/-- The ring lamp of an open-list entry (R67). -/
def OpenEntry.ring (e : OpenEntry) : Ring := if e.warned || e.overtime then .warning else .on

/-- The request lamp of R67's table, without the refused flash (R129). -/
def Part.lampOf (p : Part) (n : Nat) : Lamp :=
  match p.queueOf n with
  | none => .off
  | some f => if p.isHead f n then .steady else .blinking

/-- The image of seat `n` (R67, R68). -/
def Part.imageOf (p : Part) (n : Nat) : Image :=
  { mic := (p.micOf n).command
    ring := ((p.openEntryOf n).map OpenEntry.ring).getD .off
    lamp := if (p.seatAt n).flashDue then .refusedFlash else p.lampOf n
    occupant := (p.seatAt n).occupant.getD 0
    acks := (p.seatAt n).takenTags }

/-! ### Outcomes (R152) -/

inductive LinkOutcome where
  | good
  | timeout
  | checkError
  | conflict
  deriving DecidableEq, Repr

/-- The outcome of an exchange that was answered: GOOD when the answer meets every condition (`fits`: it names the
addressed position and has the sort of contents expected), even with a second transmitter sensed; otherwise CONFLICT with a
second transmitter and CHECK_ERROR without (R152). -/
def outcomeOf (rx : Reception) (fits : Bool) : LinkOutcome :=
  if rx.complete && rx.checkRight && rx.kindRight && fits then .good
  else if rx.secondTransmitter then .conflict else .checkError

/-- A CONFLICT raises the segment's count and the LINK flag (R153). -/
def Part.countConflict (p : Part) (seg : Segment) (o : LinkOutcome) : Part :=
  if o = .conflict then
    (p.updEngine seg (fun e => { e with conflicts := sat 65535 (e.conflicts + 1) })).raise .link
  else p

/-! ### Presence and health (R69, R71, R73, R74) -/

/-- The score step of one exchange (R69). -/
def Health.score (h : Health) (good : Bool) : Health :=
  { h with errorScore := if good then h.errorScore - 1 else sat 65535 (h.errorScore + 8) }

/-- The move of presence after the score step (R71); `need` is the presence settle count. -/
def Health.move (h : Health) (good : Bool) (need : Nat) : Health :=
  match h.presence, good with
  | .settling, true =>
    if need ≤ h.settleCount + 1 then
      { h with presence := if h.errorScore < 96 then .present else .degraded, settleCount := 0 }
    else { h with settleCount := sat 15 (h.settleCount + 1) }
  | .settling, false => { h with presence := if 256 ≤ h.errorScore then .cutOff else .settling, settleCount := 0 }
  | .present, false =>
    { h with presence := if 256 ≤ h.errorScore then .cutOff else if 96 ≤ h.errorScore then .degraded else .present }
  | .degraded, false => { h with presence := if 256 ≤ h.errorScore then .cutOff else .degraded }
  | .degraded, true => { h with presence := if h.errorScore ≤ 48 then .present else .degraded }
  | .present, true => h
  | .absent, _ => h
  | .cutOff, _ => h

/-- A unit's fields as it enters SETTLING anew (R75, R134, R3). -/
def Health.fresh : Health := { presence := .settling, settleCount := 0, errorScore := 0 }

/-- A GOOD PROBE of the same unit at a CUT_OFF position (R74): the eighth in a row brings SETTLING with score 0. -/
def Health.probeGood (h : Health) : Health :=
  if 8 ≤ h.settleCount + 1 then Health.fresh else { h with settleCount := h.settleCount + 1 }

/-- A failed PROBE (R73, R74): it clears the count of a CUT_OFF unit. -/
def Health.probeFailed (h : Health) : Health :=
  match h.presence with
  | .cutOff => { h with settleCount := 0 }
  | .absent => h
  | .settling => h
  | .present => h
  | .degraded => h

/-- The probe interval of a presence: 2 s for CUT_OFF, 1 s for ABSENT (R73, R163). R160 sets the `probe_due` of every position
from its presence, and no rule gives an interval for SETTLING, PRESENT and DEGRADED: 1 s is the model's choice (log entry
34). -/
def Presence.interval : Presence → Nat
  | .cutOff => 2 * Config.second
  | .absent => Config.second
  | .settling => Config.second
  | .present => Config.second
  | .degraded => Config.second

/-- A position's `probe_due` set to the current time plus the interval of its presence (R160, R163). -/
def Part.setProbeDue (p : Part) (seg : Segment) (pos : Nat) : Part :=
  p.updEngine seg (fun e =>
    { e with probeDue := upd e.probeDue pos (fun _ => p.now + (p.presenceAt seg pos).interval) })

/-! ### The choice of the next exchange (R162, R163) -/

/-- The round kind of a position: POLL for a seat, SHOW for a display, SENSE for a sensor (R162), with the contents as they
stand now (R154, R155). -/
def Part.roundExchange (p : Part) (seg : Segment) (pos : Nat) : Exchange :=
  match seg with
  | .left => .poll pos (p.imageOf (seatOn .left pos))
  | .right => .poll pos (p.imageOf (seatOn .right pos))
  | .wall =>
    match p.roleAt pos with
    | some (.display d) => .show pos (p.displayAt d).content (p.displayAt d).drive
    | some .ambient => .sense pos
    | some (.partition _) => .sense pos
    | none => .probe pos

/-- The exchange a position is due in the round, if any (R163). -/
def Part.dueExchange (p : Part) (seg : Segment) (pos : Nat) : Option Exchange :=
  if p.inScope seg pos then
    if (p.presenceAt seg pos).polled then some (p.roundExchange seg pos)
    else if (nth (p.engine seg).probeDue pos).getD 0 ≤ p.now ∧
        ((p.presenceAt seg pos = .cutOff) ∨ (p.engine seg).scope = .full) then some (.probe pos)
    else none
  else none

/-- An exchange put on a segment's line. -/
def Part.send (p : Part) (seg : Segment) (x : Exchange) : Part :=
  p.updEngine seg (fun e => { e with line := some { exchange := x, orphan := false } })

/-- The positions of a full turn from the pointer (R163). -/
def turnFrom (pointer positions : Nat) : List Nat :=
  List.range' (pointer + 1) (positions - pointer) ++ List.range' 1 (min pointer positions)

/-- The round serves the first due position after the pointer; a PROBE sets its next `probe_due` (R163). -/
def Part.serveRound (p : Part) (seg : Segment) : Part :=
  match (turnFrom (p.engine seg).pointer seg.positions).find? (fun pos => (p.dueExchange seg pos).isSome) with
  | none => p
  | some pos =>
    match p.dueExchange seg pos with
    | none => p
    | some x =>
      let sent := (p.updEngine seg (fun e => { e with pointer := pos })).send seg x
      match x with
      | .probe _ => sent.setProbeDue seg pos
      | _ => sent

/-- The oldest urgent position that is SETTLING, PRESENT or DEGRADED, with the rest of the list: the others before it are
dropped (R162). -/
def Part.takeUrgent (p : Part) (seg : Segment) : List Nat → Option (Nat × List Nat)
  | [] => none
  | pos :: rest => if (p.presenceAt seg pos).polled then some (pos, rest) else p.takeUrgent seg rest

/-- The next exchange of a RUNNING segment: the urgent list, then the round (R162, R163). -/
def Part.serveNext (p : Part) (seg : Segment) : Part :=
  match p.takeUrgent seg (p.engine seg).urgent with
  | some (pos, rest) =>
    (p.updEngine seg (fun e => { e with urgent := rest })).send seg (p.roundExchange seg pos)
  | none => (p.updEngine seg (fun e => { e with urgent := [] })).serveRound seg

def SleepRequests.of (r : SleepRequests) : Segment → Bool
  | .left => r.left
  | .right => r.right
  | .wall => r.wall

def SleepRequests.clear (r : SleepRequests) : Segment → SleepRequests
  | .left => { r with left := false }
  | .right => { r with right := false }
  | .wall => { r with wall := false }

/-- The urgent display positions of WALL, oldest first (R171). -/
def Part.urgentDisplays (p : Part) : List Nat :=
  p.wall.urgent.filter (fun pos =>
    match p.roleAt pos with
    | some (.display _) => true
    | some .ambient => false
    | some (.partition _) => false
    | none => false)

/-- WALL with a sleep request outstanding serves the display positions that were urgent when it took the request, one SHOW
each, and then waits for SLEEP (R171). -/
def Part.serveBlank (p : Part) : Part :=
  match p.takeUrgent .wall (p.wall.blankFirst.getD p.urgentDisplays) with
  | none => p.updEngine .wall (fun e => { e with blankFirst := some [] })
  | some (pos, rest) =>
    (p.updEngine .wall (fun e =>
      { e with urgent := e.urgent.filter (fun x => x != pos), blankFirst := some rest })).send .wall (p.roundExchange .wall pos)

/-- The engine of a segment takes its next exchange when its line is free (R162, R163); with a sleep request outstanding a
seat segment sends nothing more (R171), and a held segment waits for AWAKE (R173). -/
def Part.kick (p : Part) (seg : Segment) : Part :=
  if (p.engine seg).state = .running ∧ (p.engine seg).line = none ∧ (p.engine seg).held = false then
    if p.control.sleep.of seg then
      match seg with
      | .wall => p.serveBlank
      | .left => p
      | .right => p
    else p.serveNext seg
  else p

def Part.kickAll (p : Part) : Part := ((p.kick .left).kick .right).kick .wall

/-- A requested walk takes effect once no exchange is on the line (R151). R161 tests the floors when the request is taken and says
that the walk finds none holding the segment's seats when it begins; where one has been bound in between, while an exchange was
on the line, no rule says what happens: that the walk begins all the same is the model's choice (log entry 37). -/
def Part.takeWalk (p : Part) (seg : Segment) : Part :=
  if (p.engine seg).walkRequested = true ∧ (p.engine seg).line = none then
    p.updEngine seg (fun e => { e with state := .walking, walk := some walkToBegin, walkRequested := false, held := false })
  else p

def Part.takeWalks (p : Part) : Part := ((p.takeWalk .left).takeWalk .right).takeWalk .wall

end Sys2Proof.Machine
end

