-- ==== Sys2Proof/Machine/Screens.lean ====
section
/-! DEFINITION. The display controller's derived values: effective content, level and drive value, the recompute, the
ambient band (07). -/

namespace Sys2Proof.Machine

/-- The occupant tag of a seat, 0 when absent (R137, R138). -/
def Part.tagOf (p : Part) (n : Nat) : Tag := (p.seatAt n).occupant.getD 0

/-- The last entry of a class in an open list. -/
def lastOfClass (cls : OpenClass) (l : List OpenEntry) : Option OpenEntry :=
  (l.filter (fun e => decide (e.cls = cls))).getLast?

/-- FOLLOW_SPEAKER on floor `f` (R137). -/
def Part.followSpeaker (p : Part) (f : Nat) : Effective :=
  match lastOfClass .delegate (p.floorAt f).openList with
  | some e => .speaker e.seat (p.tagOf e.seat)
  | none =>
    match lastOfClass .chair (p.floorAt f).openList with
    | some e => .speaker e.seat (p.tagOf e.seat)
    | none => .floorCard f ((p.floorAt f).booking.getD 0)

/-- A content kind resolved on floor `f` (R137, R138). -/
def Part.resolveContent (p : Part) (f : Nat) : Content → Effective
  | .followSpeaker => p.followSpeaker f
  | .queueView =>
    .queueView (((p.queueAt f).entries.take 4).map (fun e => { seat := e.seat, tag := p.tagOf e.seat }))
  | .source n => .source n
  | .blank => .blank

/-- The table is in ENTERING_STANDBY or STANDBY (R136, R145). -/
def TableState.dark : TableState → Bool
  | .enteringStandby => true
  | .standby => true
  | .awake => false
  | .waking => false

/-- `effective_content` of a display bound to zone `z` and held by floor `f`, by the floor's state (R136). -/
def Part.heldContent (p : Part) (d : Display) (z f : Nat) : Effective :=
  match (p.floorAt f).state with
  | .free => .idle z
  | .closing => .idle z
  | .preparing => .reserved ((p.floorAt f).booking.getD 0) (((p.served f).map (fun b => b.startMinute)).getD 0)
  | .ready => .reserved ((p.floorAt f).booking.getD 0) (((p.served f).map (fun b => b.startMinute)).getD 0)
  | .live =>
    if p.isPrivate f && d.config.outsideVisible then .blank
    else p.resolveContent f (if d.phaseB then d.config.contentB.getD d.config.contentA else d.config.contentA)

/-- `effective_content` (R136). -/
def Part.contentFor (p : Part) (d : Display) : Effective :=
  if p.control.tableState.dark then .blank
  else
    match d.config.binding with
    | none => .blank
    | some z =>
      match p.floorOfZone z with
      | none => .idle z
      | some f => p.heldContent d z f

/-- `effective_level` (R145). -/
def Part.levelFor (p : Part) (d : Display) : Nat :=
  if p.control.tableState.dark then 0 else awakeLevel d.config p.settings p.ambient.band

/-- `drive_value` for a level (R145). -/
def Part.driveFor (p : Part) (level : Nat) : Nat := p.settings.brightness.getD level 0

/-- A rotation that does not run stands at phase A with 0 seconds (R139). -/
def Part.restRotation (p : Part) (d : Display) : Display :=
  if p.rotationRuns d.config then d else { d with phaseB := false, phaseElapsedS := 0 }

/-- One display recomputed (R141): new values are written, and `shown` becomes no when any of them changes. -/
def Part.recomputed (p : Part) (d : Display) : Display :=
  let r := p.restRotation d
  let level := p.levelFor r
  { r with content := p.contentFor r, level := level, drive := p.driveFor level,
           shown := r.shown && decide (p.contentFor r = r.content ∧ level = r.level ∧ p.driveFor level = r.drive) }

/-- Whether a recompute changes what a display must show (R141). -/
def Display.differs (a b : Display) : Bool := decide (a.content ≠ b.content ∨ a.level ≠ b.level ∨ a.drive ≠ b.drive)

/-- All displays recomputed, with an urgent exchange asked for each PRESENT or DEGRADED display that changes (R141). Several
are asked for by rising display number: the model's choice (log entry 33). -/
def Part.recomputeAll (p : Part) : Part :=
  let q := { p with displays := p.displays.map p.recomputed }
  displayNumbers.foldl (fun r d =>
    if (p.displayAt d).differs (q.displayAt d) && (p.displayAt d).health.presence.inService then r.requestDisplay d else r) q

/-- The rotations of the displays bound to the zones of a floor that becomes LIVE restart at phase A (R140). -/
def Part.restartRotations (p : Part) (f : Nat) : Part :=
  { p with displays := p.displays.map (fun d =>
      if (d.config.binding.map (p.floorAt f).holds).getD false then { d with phaseB := false, phaseElapsedS := 0 } else d) }

/-- Threshold k of the ambient settings (R143). -/
def thresholds (st : Settings) : List Nat := [st.t1, st.t2, st.t3]

/-- The band after a reading `r`, from the band `b` (R144): rising past a threshold by the hysteresis, falling as soon as
the reading is below one. -/
def bandAfter (st : Settings) (b r : Nat) : Nat :=
  let m := ((thresholds st).filter (fun t => decide (t + st.hysteresis ≤ r))).length
  let q := (((thresholds st).take b).filter (fun t => decide (t ≤ r))).length
  if b < m then m else if q < b then q else b

/-- The band evaluated against `last_reading`, where there is one (R144, R146). -/
def Part.evalBand (p : Part) : Part :=
  match p.ambient.lastReading with
  | none => p
  | some r => { p with ambient := { p.ambient with band := bandAfter p.settings p.ambient.band r } }

end Sys2Proof.Machine
end

