-- ==== Sys2Proof/Machine/Flags.lean ====
section
/-! DEFINITION. Every computation of a flag: changed marks (R184), notice flags (R186), `queue_alert` and `queue_pool_low`
(R130, R131), ATTN and RDY (R176, R186), and the end of a step, in which images, displays, marks and engines follow. -/

namespace Sys2Proof.Machine

/-! ### What a mark watches: the fields the host can read, less those whose changes set no mark (R184) -/

/-- A seat record as the host reads it (R66). -/
def Part.seatView (p : Part) (n : Nat) : Seat × Mic × Bool := (p.seatAt n, p.micOf n, p.admitted n)

/-- A floor record, without `spoken_s` (R8, R104). -/
def Part.floorView (p : Part) (f : Nat) : Floor × Bool :=
  ({ p.floorAt f with openList := (p.floorAt f).openList.map (fun e => { e with spokenS := 0 }) }, p.queueAlert f)

/-- A queue record, without `waited_s` (R114). -/
def Part.queueView (p : Part) (f : Nat) : Queue :=
  { p.queueAt f with entries := (p.queueAt f).entries.map (fun e => { e with waitedS := 0 }) }

/-- A display record, without `phase_elapsed_s` (R133). -/
def Part.displayView (p : Part) (d : Nat) : Display := { p.displayAt d with phaseElapsedS := 0 }

/-- The ambient record with its copies of settings, without `last_reading` (R143). -/
def Part.ambientView (p : Part) : Ambient × List Nat × List Nat :=
  ({ p.ambient with lastReading := none },
    [p.settings.t1, p.settings.t2, p.settings.t3, p.settings.hysteresis], p.settings.bandLevels)

/-- The layout record (R3, R7). -/
def Part.layoutView (p : Part) : List ZoneRanges × List Partition := (p.settings.zoneMap, p.partitions)

/-- The fields of a segment in the table record (R150). -/
structure SegmentView where
  state : SegmentState
  scope : RoundScope
  unitsFound : Nat
  unitsParked : Nat
  walkOverflow : Bool
  conflicts : Nat
  deriving DecidableEq, Repr

def Engine.view (e : Engine) : SegmentView :=
  { state := e.state, scope := e.scope, unitsFound := e.unitsFound, unitsParked := e.unitsParked,
    walkOverflow := e.walkOverflow, conflicts := e.conflicts }

/-- The table record (R21, R36, R113, R131, R150, R169). -/
structure TableView where
  state : TableState
  cause : WakeCause
  left : SegmentView
  right : SegmentView
  wall : SegmentView
  slotsFree : Nat
  rosterFree : Nat
  queueFree : Nat
  poolLow : Bool
  deriving DecidableEq, Repr

def Part.tableView (p : Part) : TableView :=
  { state := p.control.tableState, cause := p.control.lastWakeCause, left := p.left.view, right := p.right.view,
    wall := p.wall.view, slotsFree := p.slotsFree, rosterFree := p.rosterFree, queueFree := p.queueFree,
    poolLow := p.queuePoolLow }

/-- The settings record (R192). -/
def Part.settingsView (p : Part) : Settings × SettingsSource × Bool × LastStore × Bool :=
  (p.settings, p.store.source, p.store.copy.isSome, p.store.lastStore, p.store.liveDiffers)

/-! ### Marks and notices of one step -/

/-- Which of a list of marks a step sets: the records of the numbers for which `changed` holds. -/
def changedMarks (changed : Nat → Bool) (marks : List Bool) : List Bool := mapFrom (fun i m => m || changed i) 1 marks

/-- The mark of a slot after a step (R184): gone with a freed record, set by a created or changed one. -/
def slotMark (before after : Option Booking) (mark : Bool) : Bool :=
  match after with
  | none => false
  | some b => mark || decide (before ≠ some b)

/-- A slot holds a record that the step created or changed. -/
def slotChanged (before after : Option Booking) : Bool := after.isSome && decide (before ≠ after)

/-- Raise a kind when the step set a mark of it (R186). -/
def Part.raiseIf (p : Part) (c : Bool) (k : NoticeKind) : Part := if c then p.raise k else p

/-- The marks after the step from `old` to `p` (R184). -/
def Part.newMarks (old p : Part) : Marks :=
  { seats := changedMarks (fun n => decide (old.seatView n ≠ p.seatView n)) p.marks.seats
    floors := changedMarks (fun f => decide (old.floorView f ≠ p.floorView f)) p.marks.floors
    queues := changedMarks (fun f => decide (old.queueView f ≠ p.queueView f)) p.marks.queues
    bookings := mapFrom (fun k m => slotMark (old.slotAt k) (p.slotAt k) m) 1 p.marks.bookings
    displays := changedMarks (fun d => decide (old.displayView d ≠ p.displayView d)) p.marks.displays
    ambient := p.marks.ambient || decide (old.ambientView ≠ p.ambientView)
    layout := p.marks.layout || decide (old.layoutView ≠ p.layoutView)
    table := p.marks.table || decide (old.tableView ≠ p.tableView)
    clock := p.marks.clock || decide (old.clock ≠ p.clock)
    settings := p.marks.settings || decide (old.settingsView ≠ p.settingsView) }

/-- The kinds whose flag the step from `old` to `p` raises: those with a mark set in it, and QUEUE for a change of a floor's
`queue_alert` or of `queue_pool_low` (R186, R130, R131). The clock record belongs to no kind. -/
def Part.stepRaises (old p : Part) : NoticeKind → Bool
  | .seat => seatNumbers.any (fun n => decide (old.seatView n ≠ p.seatView n))
  | .floor => floorNumbers.any (fun f => decide (old.floorView f ≠ p.floorView f))
  | .queue =>
    floorNumbers.any (fun f => decide (old.queueView f ≠ p.queueView f)) ||
      floorNumbers.any (fun f => decide (old.queueAlert f ≠ p.queueAlert f)) ||
      decide (old.queuePoolLow ≠ p.queuePoolLow)
  | .booking => slotNumbers.any (fun k => slotChanged (old.slotAt k) (p.slotAt k))
  | .display =>
    displayNumbers.any (fun d => decide (old.displayView d ≠ p.displayView d)) || decide (old.ambientView ≠ p.ambientView)
  | .layout => decide (old.layoutView ≠ p.layoutView)
  | .link => decide (old.tableView ≠ p.tableView)
  | .settings => decide (old.settingsView ≠ p.settingsView)
  | .port => false

def noticeKinds : List NoticeKind := [.seat, .floor, .queue, .booking, .display, .layout, .link, .settings, .port]

/-- The set of the kinds for which `c` holds. -/
def kindSet (c : NoticeKind → Bool) : NoticeSet := noticeKinds.foldl (fun s k => if c k then s ||| k.bit else s) 0

/-- The marks and flags of the step from `old` to `p` (R184, R186). -/
def Part.noteChanges (old p : Part) : Part :=
  { p with
    marks := old.newMarks p
    notices := { p.notices with flags := p.notices.flags ||| (kindSet (old.stepRaises p) &&& p.notices.enables) } }

/-- Some kind has its flag and its signal enable yes. -/
def Notices.signal (n : Notices) : Bool := decide (n.flags &&& n.signals ≠ 0)

/-- The ATTN output (R176, R186). -/
def Part.attn (p : Part) : Bool := decide (p.power = .running) && p.notices.signal

/-! ### What follows a block's step, and the end of a command -/

/-- The image of seat `n` changed between two states (R67). -/
def imageChanged (old p : Part) (n : Nat) : Bool := decide (old.imageOf n ≠ p.imageOf n)

/-- `mic_confirmed` of every seat whose commanded microphone state changed becomes no (R70). -/
def Part.unconfirm (old p : Part) : Part :=
  { p with seats := mapFrom (fun n s =>
      if (old.imageOf n).mic = (p.imageOf n).mic then s else { s with micConfirmed := false }) 1 p.seats }

/-- Seats follow their floors and queues: unconfirmed microphones, and an urgent exchange for every PRESENT or DEGRADED seat
whose image changed (R67, R70, R129). Several are asked for by rising seat number: the model's choice (log entry 33). -/
def Part.syncSeats (old p : Part) : Part :=
  seatNumbers.foldl (fun q n => if imageChanged old p n && p.inService n then q.requestSeat n else q) (old.unconfirm p)

/-- What follows one block's step from `old` to `p` before the next block's step is taken: seat images, displays, marks and
notices (R67, R70, R89, R141, R184, R186). A command may make several such steps one after another. -/
def Part.follow (old p : Part) : Part := old.noteChanges (old.syncSeats p).recomputeAll

/-- The end of a command whose last block's step began in `old`: requested walks, what follows that step, and the engines'
next exchanges. -/
def Part.settle (old p : Part) : Part := (old.follow p.takeWalks).kickAll

end Sys2Proof.Machine
end

