-- ==== Sys2Proof/Machine/Events.lean ====
section
/-! DEFINITION. How an event is taken: by the running part alone, and with the end of a step after it. -/

namespace Sys2Proof.Machine

/-- An event at one block of the part, taken whole while the part runs (00, Events). Without supply, or with RESET low,
nothing is taken (R190, log entry 24). -/
def Part.event (p : Part) (g : Part → Part) : Part := if p.power = .running then p.settle (g p) else p

/-- One step of the timebase, 1 us (00, Time). -/
def Part.tick (p : Part) : Part := p.event (fun q => q.passTime (q.now + 1))

/-- A command's outcome: always a next state, in which the part is `p` and the queue is as it was. -/
def State.become (s : State) (p : Part) : Host.Outcome State Fault Refusal := .next { s with part := p }

end Sys2Proof.Machine
end

