-- ==== Sys2Proof/Machine/Operands.lean ====
section
/-! DEFINITION. Reading the bodies of the host's requests by the layouts of R198. A body that does not fit its layout reads as
none, which the control port answers with BAD_VALUE before dispatch (R180). -/

namespace Sys2Proof.Machine

/-! ### Bytes and numbers -/

/-- The value of bytes sent most significant byte first (R198). -/
def bigEndian (l : List Byte) : Nat := l.foldl (fun v b => v * 256 + b.toNat) 0

/-- A number of `n` bytes at the front of a body. -/
def readNat (n : Nat) (l : List Byte) : Option (Nat × List Byte) :=
  if n ≤ l.length then some (bigEndian (l.take n), l.drop n) else none

/-- A tag, a code or a mask: 2 bytes. -/
def readTag (l : List Byte) : Option (Tag × List Byte) := (readNat 2 l).map (fun (v, l) => (BitVec.ofNat 16 v, l))

/-- An enumerated byte: none where the code names no value of its kind (R180). -/
def readCode {α : Type} (code : Nat → Option α) (l : List Byte) : Option (α × List Byte) := do
  let (v, l) ← readNat 1 l
  let a ← code v
  return (a, l)

/-- The whole body has been read: nothing may follow (R180). -/
def whole {α : Type} : Option (α × List Byte) → Option α
  | some (a, []) => some a
  | _ => none

/-- `n` items, one after another. -/
def readMany {α : Type} (item : List Byte → Option (α × List Byte)) : Nat → List Byte → Option (List α × List Byte)
  | 0, l => some ([], l)
  | n + 1, l => do
    let (a, l) ← item l
    let (rest, l) ← readMany item n l
    return (a :: rest, l)

/-- A group that a mask bit says is there (R198). -/
def readIf {α : Type} (present : Bool) (item : List Byte → Option (α × List Byte)) (l : List Byte) :
    Option (Option α × List Byte) :=
  if present then (item l).map (fun (a, l) => (some a, l)) else some (none, l)

/-! ### Codes (R198) -/

def yesNo : Nat → Option Bool
  | 0 => some false
  | 1 => some true
  | _ => none

def modeOf : Nat → Option Mode
  | 1 => some .openFloor
  | 2 => some .autoQueue
  | 3 => some .moderated
  | _ => none

def overflowOf : Nat → Option Overflow
  | 1 => some .queue
  | 2 => some .replaceOldest
  | 3 => some .refuse
  | _ => none

def expiryOf : Nat → Option ExpiryAction
  | 1 => some .warnOnly
  | 2 => some .close
  | _ => none

def confidentialityOf : Nat → Option Confidentiality
  | 1 => some .openMeeting
  | 2 => some .privateMeeting
  | _ => none

def roleOf : Nat → Option Role
  | 1 => some .chair
  | 2 => some .priority
  | 3 => some .ordinary
  | _ => none

/-- A stated class of ENQUEUE; 0 for none stated (R118, R198). -/
def statedClassOf : Nat → Option (Option QueueClass)
  | 0 => some none
  | 2 => some (some .priority)
  | 3 => some (some .ordinary)
  | _ => none

def segmentCode : Nat → Option Segment
  | 1 => some .left
  | 2 => some .right
  | 3 => some .wall
  | _ => none

/-- `brightness_mode`, as whether it is AUTO. -/
def autoOf : Nat → Option Bool
  | 0 => some true
  | 1 => some false
  | _ => none

/-- The apply mode, as whether it is NOW. -/
def applyNowOf : Nat → Option Bool
  | 0 => some false
  | 1 => some true
  | _ => none

/-- The record kinds (R182). -/
inductive RecordKind where
  | seat
  | floor
  | queue
  | booking
  | display
  | ambient
  | layout
  | table
  | clock
  | settings
  deriving DecidableEq, Repr

def kindOf : Nat → Option RecordKind
  | 1 => some .seat
  | 2 => some .floor
  | 3 => some .queue
  | 4 => some .booking
  | 5 => some .display
  | 6 => some .ambient
  | 7 => some .layout
  | 8 => some .table
  | 9 => some .clock
  | 10 => some .settings
  | _ => none

/-! ### Blocks (R198) -/

/-- The floor parameters, 11 bytes. -/
def readParams (l : List Byte) : Option (FloorParams × List Byte) := do
  let (mode, l) ← readCode modeOf l
  let (limit, l) ← readNat 1 l
  let (overflow, l) ← readCode overflowOf l
  let (selfClose, l) ← readCode yesNo l
  let (allowance, l) ← readNat 2 l
  let (warningLead, l) ← readNat 1 l
  let (expiryAction, l) ← readCode expiryOf l
  let (queueCap, l) ← readNat 1 l
  let (alertLevel, l) ← readNat 1 l
  let (lifetime, l) ← readNat 1 l
  return ({ mode, limit, overflow, selfClose, allowance, warningLead, expiryAction, queueCap, alertLevel, lifetime }, l)

/-- A roster entry, 4 bytes. -/
def readEntry (l : List Byte) : Option (RosterEntry × List Byte) := do
  let (seat, l) ← readNat 1 l
  let (tag, l) ← readTag l
  let (role, l) ← readCode roleOf l
  return ({ seat, tag, role }, l)

/-- A seat range, 2 bytes; 0, 0 for an empty one. -/
def readRange (l : List Byte) : Option (Option (Nat × Nat) × List Byte) := do
  let (first, l) ← readNat 1 l
  let (last, l) ← readNat 1 l
  return (if first = 0 ∧ last = 0 then none else some (first, last), l)

def readZone (l : List Byte) : Option (ZoneRanges × List Byte) := do
  let (left, l) ← readRange l
  let (right, l) ← readRange l
  return ({ left, right }, l)

/-- A content of 2 bytes by its kind and second byte, which is 0 but for SOURCE; kind 0 is absent. -/
def contentOf : Nat → Nat → Option (Option Content)
  | 0, 0 => some none
  | 1, 0 => some (some .followSpeaker)
  | 2, 0 => some (some .queueView)
  | 3, n => some (some (.source n))
  | 4, 0 => some (some .blank)
  | _, _ => none

def readContent (l : List Byte) : Option (Option Content × List Byte) := do
  let (kind, l) ← readNat 1 l
  let (n, l) ← readNat 1 l
  let c ← contentOf kind n
  return (c, l)

/-- A binding: 0 stands for NONE. -/
def readBinding (l : List Byte) : Option (Option Nat × List Byte) :=
  (readNat 1 l).map (fun (z, l) => (if z = 0 then none else some z, l))

/-- A display configuration, 12 bytes, with `content_a` present. -/
def readConfig (l : List Byte) : Option (DisplayConfig × List Byte) := do
  let (binding, l) ← readBinding l
  let (a, l) ← readContent l
  let contentA ← a
  let (contentB, l) ← readContent l
  let (dwellA, l) ← readNat 2 l
  let (dwellB, l) ← readNat 2 l
  let (outsideVisible, l) ← readCode yesNo l
  let (auto, l) ← readCode autoOf l
  let (fixedLevel, l) ← readNat 1 l
  return ({ binding, contentA, contentB, dwellA, dwellB, outsideVisible, auto, fixedLevel }, l)

/-! ### Request bodies -/

/-- READ: kind, index or handle, and the page of a BOOKING. -/
structure ReadRequest where
  kind : RecordKind
  index : Nat
  page : Nat
  deriving DecidableEq, Repr

def parseRead (body : List Byte) : Option ReadRequest := whole do
  let (kind, l) ← readCode kindOf body
  let (index, l) ← readNat 2 l
  let (page, l) ← readIf (decide (kind = .booking)) (readNat 1) l
  return ({ kind, index, page := page.getD 0 }, l)

def parseFind (body : List Byte) : Option (RecordKind × Nat) := whole do
  let (kind, l) ← readCode kindOf body
  let (index, l) ← readNat 1 l
  return ((kind, index), l)

/-- A notice set: bits 9 to 15 must be 0. -/
def readSet (l : List Byte) : Option (NoticeSet × List Byte) := do
  let (v, l) ← readNat 2 l
  if v < 512 then some (BitVec.ofNat 9 v, l) else none

def parseClear (body : List Byte) : Option NoticeSet := whole (readSet body)

def parseEnables (body : List Byte) : Option (NoticeSet × NoticeSet) := whole do
  let (enables, l) ← readSet body
  let (signals, l) ← readSet l
  return ((enables, signals), l)

def parseClock (body : List Byte) : Option (Nat × Nat) := whole do
  let (minute, l) ← readNat 3 body
  let (second, l) ← readNat 1 l
  return ((minute, second), l)

/-- `lead` and `grace`. -/
def readMargins (l : List Byte) : Option ((Nat × Nat) × List Byte) := do
  let (lead, l) ← readNat 1 l
  let (grace, l) ← readNat 1 l
  return ((lead, grace), l)

/-- The admission group. -/
structure Admission where
  confidentiality : Confidentiality
  guestCode : Tag
  guestMask : Tag
  deriving DecidableEq, Repr

def readAdmission (l : List Byte) : Option (Admission × List Byte) := do
  let (confidentiality, l) ← readCode confidentialityOf l
  let (guestCode, l) ← readTag l
  let (guestMask, l) ← readTag l
  return ({ confidentiality, guestCode, guestMask }, l)

def readRun (l : List Byte) : Option (ZoneRun × List Byte) := do
  let (first, l) ← readNat 1 l
  let (last, l) ← readNat 1 l
  return ({ first, last }, l)

/-- A mask byte of `n` bits: a bit beyond them names nothing. -/
def readMask (n : Nat) (l : List Byte) : Option (Nat × List Byte) := do
  let (m, l) ← readNat 1 l
  if m < 2 ^ n then some (m, l) else none

structure CreateRequest where
  zones : ZoneRun
  startMinute : Nat
  endMinute : Nat
  margins : Option (Nat × Nat)
  params : Option FloorParams
  admission : Option Admission
  roster : List RosterEntry
  deriving DecidableEq, Repr

def parseCreate (body : List Byte) : Option CreateRequest := whole do
  let (zones, l) ← readRun body
  let (startMinute, l) ← readNat 3 l
  let (endMinute, l) ← readNat 3 l
  let (mask, l) ← readMask 3 l
  let (margins, l) ← readIf (mask.testBit 0) readMargins l
  let (params, l) ← readIf (mask.testBit 1) readParams l
  let (admission, l) ← readIf (mask.testBit 2) readAdmission l
  let (count, l) ← readNat 1 l
  let (roster, l) ← readMany readEntry count l
  if count ≤ 96 then some ({ zones, startMinute, endMinute, margins, params, admission, roster }, l) else none

/-- The span group of CHANGE_BOOKING. -/
structure SpanGroup where
  zones : ZoneRun
  startMinute : Nat
  lead : Nat
  deriving DecidableEq, Repr

def readSpan (l : List Byte) : Option (SpanGroup × List Byte) := do
  let (zones, l) ← readRun l
  let (startMinute, l) ← readNat 3 l
  let (lead, l) ← readNat 1 l
  return ({ zones, startMinute, lead }, l)

/-- The end group of CHANGE_BOOKING. -/
structure EndGroup where
  endMinute : Nat
  grace : Nat
  deriving DecidableEq, Repr

def readEnd (l : List Byte) : Option (EndGroup × List Byte) := do
  let (endMinute, l) ← readNat 3 l
  let (grace, l) ← readNat 1 l
  return ({ endMinute, grace }, l)

structure ChangeRequest where
  handle : Nat
  now : Bool
  span : Option SpanGroup
  ending : Option EndGroup
  params : Option FloorParams
  admission : Option Admission
  deriving DecidableEq, Repr

def parseChange (body : List Byte) : Option ChangeRequest := whole do
  let (handle, l) ← readNat 2 body
  let (mask, l) ← readMask 4 l
  let (now, l) ← readCode applyNowOf l
  let (span, l) ← readIf (mask.testBit 0) readSpan l
  let (ending, l) ← readIf (mask.testBit 1) readEnd l
  let (params, l) ← readIf (mask.testBit 2) readParams l
  let (admission, l) ← readIf (mask.testBit 3) readAdmission l
  if mask ≠ 0 then some ({ handle, now, span, ending, params, admission }, l) else none

def parseRetire (body : List Byte) : Option (Nat × Bool) := whole do
  let (handle, l) ← readNat 2 body
  let (keep, l) ← readCode yesNo l
  return ((handle, keep), l)

/-- A handle, a count of 1 to 96 and that many items. -/
def parseList {α : Type} (item : List Byte → Option (α × List Byte)) (body : List Byte) : Option (Nat × List α) := whole do
  let (handle, l) ← readNat 2 body
  let (count, l) ← readNat 1 l
  let (items, l) ← readMany item count l
  if 1 ≤ count ∧ count ≤ 96 then some ((handle, items), l) else none

def parseRosterPut (body : List Byte) : Option (Nat × List RosterEntry) := parseList readEntry body
def parseRosterDrop (body : List Byte) : Option (Nat × List Nat) := parseList (readNat 1) body

def parseGrant (body : List Byte) : Option (Nat × Bool) := whole do
  let (seat, l) ← readNat 1 body
  let (replace, l) ← readCode yesNo l
  return ((seat, replace), l)

/-- One number of one byte: a seat, a floor. -/
def parseByte (body : List Byte) : Option Nat := whole (readNat 1 body)

def parseEnqueue (body : List Byte) : Option (Nat × Option QueueClass) := whole do
  let (seat, l) ← readNat 1 body
  let (cls, l) ← readCode statedClassOf l
  return ((seat, cls), l)

def parseMove (body : List Byte) : Option (Nat × Nat) := whole do
  let (seat, l) ← readNat 1 body
  let (pos, l) ← readNat 1 l
  return ((seat, pos), l)

def parseWalk (body : List Byte) : Option Segment := whole (readCode segmentCode body)

/-- CHANGE_DISPLAY: the named fields; the bytes of the others are not looked at. -/
structure DisplayRequest where
  display : Nat
  binding : Option (Option Nat)
  contentA : Option Content
  contentB : Option (Option Content)
  dwellA : Option Nat
  dwellB : Option Nat
  outsideVisible : Option Bool
  auto : Option Bool
  fixedLevel : Option Nat
  deriving DecidableEq, Repr

/-- A field of `n` bytes, read by `item` when it is named and passed over when it is not. -/
def readNamed {α : Type} (named : Bool) (n : Nat) (item : List Byte → Option (α × List Byte)) (l : List Byte) :
    Option (Option α × List Byte) :=
  if named then (item l).map (fun (a, l) => (some a, l))
  else (readNat n l).map (fun (_, l) => (none, l))

/-- `content_a`, which cannot be absent. -/
def readPresentContent (l : List Byte) : Option (Content × List Byte) := do
  let (c, l) ← readContent l
  let c ← c
  return (c, l)

def parseDisplay (body : List Byte) : Option DisplayRequest := whole do
  let (display, l) ← readNat 1 body
  let (mask, l) ← readNat 1 l
  let (binding, l) ← readNamed (mask.testBit 0) 1 readBinding l
  let (contentA, l) ← readNamed (mask.testBit 1) 2 readPresentContent l
  let (contentB, l) ← readNamed (mask.testBit 2) 2 readContent l
  let (dwellA, l) ← readNamed (mask.testBit 3) 2 (readNat 2) l
  let (dwellB, l) ← readNamed (mask.testBit 4) 2 (readNat 2) l
  let (outsideVisible, l) ← readNamed (mask.testBit 5) 1 (readCode yesNo) l
  let (auto, l) ← readNamed (mask.testBit 6) 1 (readCode autoOf) l
  let (fixedLevel, l) ← readNamed (mask.testBit 7) 1 (readNat 1) l
  if mask ≠ 0 then
    some ({ display, binding, contentA, contentB, dwellA, dwellB, outsideVisible, auto, fixedLevel }, l)
  else none

/-- One item of CHANGE_SETTINGS: a group with a value for every setting of it (R193). -/
inductive SettingsItem where
  | zoneMap (map : List ZoneRanges)
  | counts (partitionSettle presenceSettle badgeSettle : Nat)
  | booking (defaults : BookingDefaults)
  | adHoc (allowed : Bool) (length : Nat) (params : FloorParams)
  | standby (allowed : Bool) (idleDelay standbyLead : Nat)
  | ambient (t1 t2 t3 hysteresis : Nat) (levels : List Nat)
  | brightness (levels : List Nat)
  | displays (configs : List DisplayConfig)
  deriving DecidableEq, Repr

/-- The group code of an item. -/
def SettingsItem.code : SettingsItem → Nat
  | .zoneMap _ => 1
  | .counts _ _ _ => 2
  | .booking _ => 3
  | .adHoc _ _ _ => 4
  | .standby _ _ _ => 5
  | .ambient _ _ _ _ _ => 6
  | .brightness _ => 7
  | .displays _ => 8

def readCounts (l : List Byte) : Option (SettingsItem × List Byte) := do
  let (partitionSettle, l) ← readNat 1 l
  let (presenceSettle, l) ← readNat 1 l
  let (badgeSettle, l) ← readNat 1 l
  return (.counts partitionSettle presenceSettle badgeSettle, l)

def readBooking (l : List Byte) : Option (SettingsItem × List Byte) := do
  let ((lead, grace), l) ← readMargins l
  let (params, l) ← readParams l
  let (a, l) ← readAdmission l
  return (.booking { lead, grace, params, confidentiality := a.confidentiality, guestCode := a.guestCode,
                     guestMask := a.guestMask }, l)

def readAdHoc (l : List Byte) : Option (SettingsItem × List Byte) := do
  let (allowed, l) ← readCode yesNo l
  let (length, l) ← readNat 1 l
  let (params, l) ← readParams l
  return (.adHoc allowed length params, l)

def readStandby (l : List Byte) : Option (SettingsItem × List Byte) := do
  let (allowed, l) ← readCode yesNo l
  let (idleDelay, l) ← readNat 1 l
  let (standbyLead, l) ← readNat 1 l
  return (.standby allowed idleDelay standbyLead, l)

def readAmbient (l : List Byte) : Option (SettingsItem × List Byte) := do
  let (t1, l) ← readNat 2 l
  let (t2, l) ← readNat 2 l
  let (t3, l) ← readNat 2 l
  let (hysteresis, l) ← readNat 1 l
  let (levels, l) ← readMany (readNat 1) 4 l
  return (.ambient t1 t2 t3 hysteresis levels, l)

/-- The block of a group by its code (R198). -/
def readGroup (code : Nat) (l : List Byte) : Option (SettingsItem × List Byte) :=
  match code with
  | 1 => (readMany readZone 4 l).map (fun (m, l) => (.zoneMap m, l))
  | 2 => readCounts l
  | 3 => readBooking l
  | 4 => readAdHoc l
  | 5 => readStandby l
  | 6 => readAmbient l
  | 7 => (readMany (readNat 1) 16 l).map (fun (v, l) => (.brightness v, l))
  | 8 => (readMany readConfig 8 l).map (fun (c, l) => (.displays c, l))
  | _ => none

/-- Items to the end of the body; every item is at least 4 bytes long, so a body's length is fuel enough. -/
def readItems : Nat → List Byte → Option (List SettingsItem)
  | _, [] => some []
  | 0, _ :: _ => none
  | k + 1, l => do
    let (code, l) ← readNat 1 l
    let (item, l) ← readGroup code l
    let rest ← readItems k l
    return item :: rest

/-- CHANGE_SETTINGS: one or more items. -/
def parseSettings (body : List Byte) : Option (List SettingsItem) :=
  if body = [] then none else readItems body.length body

end Sys2Proof.Machine
end

