-- ==== Sys2Proof/Machine/Images.lean ====
section
/-! DEFINITION. The record images that READ answers with, laid out as R198 gives, and the codes they carry. -/

namespace Sys2Proof.Machine

/-! ### Bytes -/

/-- A number in `n` bytes, most significant byte first (R198). -/
def bytes (n v : Nat) : List Byte := (List.range n).reverse.map (fun i => BitVec.ofNat 8 (v / 256 ^ i))

def byte (v : Nat) : List Byte := [BitVec.ofNat 8 v]
def flagByte (b : Bool) : List Byte := if b then [1] else [0]
def tagBytes (t : Tag) : List Byte := bytes 2 t.toNat

/-- An absent tag is sent as 0 (R198). -/
def optTag (t : Option Tag) : List Byte := tagBytes (t.getD 0)

/-- An absent number that stands for a seat, a floor, a zone, a handle or a position is sent as 0 (R198, log entry 17). -/
def optByte (v : Option Nat) : List Byte := byte (v.getD 0)

/-- The four bytes of a serial; for an absent one the manual gives none (log entry 17). -/
def serialBytes (s : Option Serial) : List Byte := bytes 4 (s.getD Config.absentSerial).toNat

/-! ### Codes (R198) -/

def presenceCode : Presence → Nat
  | .absent => 0
  | .settling => 1
  | .present => 2
  | .degraded => 3
  | .cutOff => 4

def unitKindCode : Option UnitKind → Nat
  | none => 0
  | some .delegate => 1
  | some .chair => 2
  | some .display => 3
  | some .ambient => 4
  | some .partition => 5

def roleCode : Role → Nat
  | .chair => 1
  | .priority => 2
  | .ordinary => 3

def queueClassCode : QueueClass → Nat
  | .priority => 2
  | .ordinary => 3

def openClassCode : OpenClass → Nat
  | .chair => 1
  | .delegate => 2

def micCode : Mic → Nat
  | .closed => 0
  | .queued => 1
  | .live => 2
  | .muted => 3

def floorStateCode : FloorState → Nat
  | .free => 0
  | .preparing => 1
  | .ready => 2
  | .live => 3
  | .closing => 4

def bookingStateCode : BookingState → Nat
  | .pending => 0
  | .waiting => 1
  | .preparing => 2
  | .ready => 3
  | .live => 4
  | .closing => 5
  | .ended => 6

def modeCode : Mode → Nat
  | .openFloor => 1
  | .autoQueue => 2
  | .moderated => 3

def overflowCode : Overflow → Nat
  | .queue => 1
  | .replaceOldest => 2
  | .refuse => 3

def expiryCode : ExpiryAction → Nat
  | .warnOnly => 1
  | .close => 2

def originCode : Origin → Nat
  | .host => 1
  | .adHoc => 2

def confidentialityCode : Confidentiality → Nat
  | .openMeeting => 1
  | .privateMeeting => 2

def outcomeCode : Option BookingOutcome → Nat
  | none => 0
  | some .completed => 1
  | some .endedEarly => 2
  | some .missed => 3
  | some .bumped => 4
  | some .cutByReset => 5

def bit (b : Bool) (v : Nat) : Nat := if b then v else 0

/-- `outcome_flags`, bit by bit. -/
def outcomeFlagsCode (g : OutcomeFlags) : Nat :=
  bit g.rosterUnseated 1 + bit g.wasSuspended 2 + bit g.closeUnconfirmed 4 + bit g.lateApply 8

def contentBytes : Option Content → List Byte
  | none => [0, 0]
  | some .followSpeaker => [1, 0]
  | some .queueView => [2, 0]
  | some (.source n) => 3 :: byte n
  | some .blank => [4, 0]

def segmentStateCode : SegmentState → Nat
  | .idle => 0
  | .walking => 1
  | .running => 2

def scopeCode : RoundScope → Nat
  | .full => 0
  | .sensors => 1

def tableStateCode : TableState → Nat
  | .awake => 0
  | .enteringStandby => 1
  | .standby => 2
  | .waking => 3

def wakeCauseCode : WakeCause → Nat
  | .none => 0
  | .wakeLine => 1
  | .host => 2
  | .bookingDue => 3
  | .partition => 4
  | .press => 5
  | .settings => 6
  | .reset => 7

def wallStateCode : WallState → Nat
  | .closed => 0
  | .opened => 1

/-- A partition's candidate; 0xFF while absent. -/
def candidateCode : Option WallState → Nat
  | none => 0xFF
  | some w => wallStateCode w

def lastStoreCode : LastStore → Nat
  | .none => 0
  | .done => 1
  | .failed => 2

/-! ### Blocks (R198) -/

/-- The floor parameters, 11 bytes. -/
def paramsBytes (q : FloorParams) : List Byte :=
  byte (modeCode q.mode) ++ byte q.limit ++ byte (overflowCode q.overflow) ++ flagByte q.selfClose ++ bytes 2 q.allowance ++
    byte q.warningLead ++ byte (expiryCode q.expiryAction) ++ byte q.queueCap ++ byte q.alertLevel ++ byte q.lifetime

/-- Floor parameters that are absent are sent as 0. -/
def optParams (q : Option FloorParams) : List Byte := (q.map paramsBytes).getD (List.replicate 11 0)

def entryBytes (e : RosterEntry) : List Byte := byte e.seat ++ tagBytes e.tag ++ byte (roleCode e.role)

def rangeBytes : Option (Nat × Nat) → List Byte
  | none => [0, 0]
  | some (a, b) => byte a ++ byte b

def zoneMapBytes (m : List ZoneRanges) : List Byte := m.flatMap (fun z => rangeBytes z.left ++ rangeBytes z.right)

/-- `brightness_mode`. -/
def autoBytes (auto : Bool) : List Byte := if auto then [0] else [1]

/-- A display configuration, 12 bytes. -/
def configBytes (c : DisplayConfig) : List Byte :=
  optByte c.binding ++ contentBytes (some c.contentA) ++ contentBytes c.contentB ++ bytes 2 c.dwellA ++ bytes 2 c.dwellB ++
    flagByte c.outsideVisible ++ autoBytes c.auto ++ byte c.fixedLevel

def queueItemBytes (i : QueueItem) : List Byte := byte i.seat ++ tagBytes i.tag

/-- The fields of an effective content. -/
def effectiveFields : Effective → List Byte
  | .idle z => 5 :: byte z
  | .reserved h start => 6 :: (bytes 2 h ++ bytes 3 start)
  | .floorCard f h => 7 :: (byte f ++ bytes 2 h)
  | .speaker n t => 8 :: (byte n ++ tagBytes t)
  | .queueView items => 2 :: (byte items.length ++ items.flatMap queueItemBytes)
  | .source n => 3 :: byte n
  | .blank => [4]

/-- `l` with bytes 0 behind it up to a length. -/
def padTo (n : Nat) (l : List Byte) : List Byte := l ++ List.replicate (n - l.length) 0

/-- An effective content, 14 bytes. -/
def effectiveBytes (c : Effective) : List Byte := padTo 14 (effectiveFields c)

def healthBytes (h : Health) : List Byte := byte (presenceCode h.presence) ++ byte h.settleCount ++ bytes 2 h.errorScore

def runBytes : Option ZoneRun → List Byte
  | none => [0, 0]
  | some r => byte r.first ++ byte r.last

/-! ### Images -/

def tagCode : Option PressTag → List Byte
  | none => [0xFF]
  | some t => byte t.toNat

/-- The guard remaining in ms, rounded up; 0 when absent. -/
def guardMs (now : Nat) : Option Nat → Nat
  | none => 0
  | some g => (g - now + 999) / 1000

/-- SEAT. -/
def Part.seatImage (p : Part) (n : Nat) : List Byte :=
  let s := p.seatAt n
  byte n ++ byte (unitKindCode s.unitKind) ++ serialBytes s.unitSerial ++ healthBytes s.health ++ optTag s.badge ++
    optTag s.badgeCandidate ++ byte s.badgeRepeat ++ optTag s.occupant ++ byte (roleCode s.role) ++
    flagByte (p.admitted n) ++ byte (micCode (p.micOf n)) ++ flagByte s.micConfirmed ++ tagCode s.takenTags.speak ++
    tagCode s.takenTags.next ++ tagCode s.takenTags.cancelAll ++ flagByte s.priorityUp ++ flagByte s.priorityHeld ++
    flagByte s.flashDue ++ byte s.lostPresses ++ bytes 2 (guardMs p.now s.guardUntil)

def openEntryBytes (e : OpenEntry) : List Byte :=
  byte e.seat ++ byte (openClassCode e.cls) ++ bytes 2 e.openedOrder ++ bytes 2 e.spokenS ++ bytes 2 e.allowanceUsed ++
    byte (bit e.muted 1 + bit e.warned 2 + bit e.overtime 4)

/-- FLOOR. -/
def Part.floorImage (p : Part) (f : Nat) : List Byte :=
  let fl := p.floorAt f
  byte f ++ byte (floorStateCode fl.state) ++ flagByte fl.suspended ++ runBytes fl.zones ++ bytes 2 (fl.booking.getD 0) ++
    optParams fl.params ++ byte fl.priorityHolders ++ bytes 2 fl.openOrder ++ flagByte (p.queueAlert f) ++
    byte fl.openList.length ++ fl.openList.flatMap openEntryBytes

def queueEntryBytes (e : QueueEntry) : List Byte :=
  byte e.seat ++ byte (queueClassCode e.cls) ++ bytes 2 e.arrival ++ bytes 2 e.waitedS

/-- QUEUE. -/
def Part.queueImage (p : Part) (f : Nat) : List Byte :=
  let q := p.queueAt f
  byte f ++ byte q.entries.length ++ bytes 2 q.lastArrival ++ q.entries.flatMap queueEntryBytes

/-- The roster entries of a page, 32 to a page (R183). -/
def rosterPage (b : Booking) (page : Nat) : List RosterEntry := (b.roster.drop (32 * (page - 1))).take 32

/-- BOOKING, with the entries of a page (R183). -/
def bookingImage (slot page : Nat) (b : Booking) : List Byte :=
  byte slot ++ bytes 2 b.handle ++ byte (originCode b.origin) ++ byte (bookingStateCode b.state) ++ runBytes (some b.zones) ++
    bytes 3 b.startMinute ++ bytes 3 b.endMinute ++ byte b.lead ++ byte b.grace ++ paramsBytes b.params ++
    byte (confidentialityCode b.confidentiality) ++ tagBytes b.guestCode ++ tagBytes b.guestMask ++ optByte b.floor ++
    flagByte b.startNoted ++ flagByte b.closeNoted ++ byte (outcomeCode b.pendingOutcome) ++
    flagByte b.retireOnCompletion ++ optByte b.pendingSeat ++ byte (outcomeCode b.outcome) ++
    byte (outcomeFlagsCode b.flags) ++ byte b.roster.length ++ byte page ++ (rosterPage b page).flatMap entryBytes

/-- DISPLAY. -/
def displayImage (d : Nat) (r : Display) : List Byte :=
  byte d ++ optByte r.unitPosition ++ serialBytes r.unitSerial ++ healthBytes r.health ++ configBytes r.config ++
    flagByte r.phaseB ++ bytes 2 r.phaseElapsedS ++ effectiveBytes r.content ++ byte r.level ++ byte r.drive ++
    flagByte r.shown

/-- T1, T2, T3, the hysteresis and the band levels. -/
def ambientSettingsBytes (st : Settings) : List Byte :=
  bytes 2 st.t1 ++ bytes 2 st.t2 ++ bytes 2 st.t3 ++ byte st.hysteresis ++ st.bandLevels.flatMap byte

/-- AMBIENT. -/
def Part.ambientImage (p : Part) : List Byte :=
  optByte p.ambient.sensorPosition ++ serialBytes p.ambient.sensorSerial ++ healthBytes p.ambient.health ++
    bytes 2 (p.ambient.lastReading.getD 0xFFFF) ++ byte p.ambient.band ++ ambientSettingsBytes p.settings

def partitionBytes (q : Partition) : List Byte :=
  byte (wallStateCode q.state) ++ optByte q.sensorPosition ++ serialBytes q.sensorSerial ++ healthBytes q.health ++
    byte (candidateCode q.candidate) ++ byte q.repeatCount

/-- LAYOUT. -/
def Part.layoutImage (p : Part) : List Byte :=
  zoneMapBytes p.settings.zoneMap ++ p.partitions.flatMap partitionBytes ++ byte p.rooms.length ++
    p.rooms.flatMap (fun r => runBytes (some r))

def segmentBytes (e : Engine) : List Byte :=
  byte (segmentStateCode e.state) ++ byte (scopeCode e.scope) ++ byte e.unitsFound ++ byte e.unitsParked ++
    flagByte e.walkOverflow ++ bytes 2 e.conflicts

/-- TABLE. -/
def Part.tableImage (p : Part) : List Byte :=
  byte (tableStateCode p.control.tableState) ++ byte (wakeCauseCode p.control.lastWakeCause) ++ segmentBytes p.left ++
    segmentBytes p.right ++ segmentBytes p.wall ++ byte p.slotsFree ++ bytes 2 p.rosterFree ++ byte p.queueFree ++
    flagByte p.queuePoolLow

/-- CLOCK. -/
def clockImage (c : Clock) : List Byte := flagByte c.valid ++ bytes 3 c.minute ++ byte c.second

def bookingDefaultsBytes (b : BookingDefaults) : List Byte :=
  byte b.lead ++ byte b.grace ++ paramsBytes b.params ++ byte (confidentialityCode b.confidentiality) ++
    tagBytes b.guestCode ++ tagBytes b.guestMask

/-- The settings, group by group. -/
def settingsBytes (st : Settings) : List Byte :=
  zoneMapBytes st.zoneMap ++ byte st.partitionSettle ++ byte st.presenceSettle ++ byte st.badgeSettle ++
    bookingDefaultsBytes st.booking ++ flagByte st.adHocAllowed ++ byte st.adHocLength ++ paramsBytes st.adHocParams ++
    flagByte st.standbyAllowed ++ byte st.idleDelay ++ byte st.standbyLead ++ ambientSettingsBytes st ++
    st.brightness.flatMap byte ++ st.displays.flatMap configBytes

/-- SETTINGS. -/
def Part.settingsImage (p : Part) : List Byte :=
  [p.store.source.code] ++ flagByte p.store.copy.isSome ++ byte (lastStoreCode p.store.lastStore) ++
    flagByte p.store.liveDiffers ++ settingsBytes p.settings

end Sys2Proof.Machine
end

