-- ==== Sys2Proof/Machine/Port.lean ====
section
/-! DEFINITION. The control port: frames and their check word (R177), the answer and its frame (R179, R180), how a request is
taken (R178), the port's own requests (R181 to R188), BAD_FRAME's answer and what busy writes do. -/

namespace Sys2Proof.Machine

/-! ### Frames (R177, R179) -/

/-- `k` bits of the check word's register, polynomial 0x1021 (R177). -/
def crcShift : Nat → BitVec 16 → BitVec 16
  | 0, c => c
  | k + 1, c => crcShift k (if c.msb then (c <<< 1) ^^^ 0x1021#16 else c <<< 1)

/-- One byte enters the register, most significant bit first. -/
def crcByte (c : BitVec 16) (b : Byte) : BitVec 16 := crcShift 8 (c ^^^ (b.zeroExtend 16 <<< 8))

/-- The check word of bytes: initial value 0xFFFF, no final inversion (R177). -/
def crc16 (l : List Byte) : BitVec 16 := l.foldl crcByte 0xFFFF#16

def crcBytes (l : List Byte) : List Byte := bytes 2 (crc16 l).toNat

/-- The bytes after the marker pass the three checks, in their order (R177). -/
def frameOk (received : List Byte) : Bool :=
  let length := bigEndian (received.take 2)
  decide (5 ≤ received.length ∧ length ≤ Config.largestBody) && decide (received.length = 5 + length) &&
    decide (received.drop (3 + length) = crcBytes (received.take (3 + length)))

/-- The code byte of a frame, 0 when the transaction ended before it (R177). -/
def frameCode (received : List Byte) : Byte := received.getD 2 0

/-- The body of a frame that passes. -/
def frameBody (received : List Byte) : List Byte := (received.drop 3).take (bigEndian (received.take 2))

def Status.code : Status → Byte
  | .done => 0x00
  | .accepted => 0x01
  | .busy => 0x10
  | .notAllowed => 0x11
  | .badValue => 0x12
  | .noRecord => 0x13
  | .conflict => 0x14
  | .tableFull => 0x15
  | .floorFull => 0x16
  | .queueFull => 0x17
  | .notAdmitted => 0x18
  | .badFrame => 0x19
  | .unknownRequest => 0x1A

/-- An answer frame: status, echoed code, length, body and check word (R179). -/
def Answer.frame (a : Answer) : List Byte :=
  let front := [a.status.code, a.code] ++ bytes 2 a.body.length ++ a.body
  front ++ crcBytes front

/-- The busy image, echoed code `code` (R178). -/
def busyImage (code : Byte) : Answer := { status := .busy, code := code, body := [] }

/-- The answer that a read transaction returns while the request with code `inHand`, if any, is in hand: the one in the buffer,
the busy image of the request in hand, or the busy image with code 0 while RESET is low (R178, R179). -/
def Part.portAnswer (p : Part) (inHand : Option Byte) : Answer :=
  if p.power = .running then
    match inHand with
    | none => p.answer
    | some code => busyImage code
  else busyImage 0

/-- The first `n` bytes that a read transaction returns for an answer: its frame, and 0xFF after it (R179). -/
def Answer.transaction (a : Answer) (n : Nat) : List Byte := (a.frame ++ List.replicate (n - a.frame.length) 0xFF).take n

/-- The first `n` bytes on the data output during a write transaction (R176). -/
def writeTransactionOutput (n : Nat) : List Byte := List.replicate n 0x00

/-! ### Taking a request (R178, R180) -/

/-- What an owner answers: the status, the body, and the part as its step leaves it. -/
structure Reply where
  status : Status
  body : List Byte
  part : Part
  deriving DecidableEq, Repr

/-- A refusal: nothing changes (R180). -/
def Part.refuse (p : Part) (st : Status) : Reply := { status := st, body := [], part := p }

/-- DONE with an empty body. -/
def Part.done (p : Part) : Reply := { status := .done, body := [], part := p }

/-- DONE with a body. -/
def Part.doneWith (p : Part) (body : List Byte) : Reply := { status := .done, body := body, part := p }

/-- ACCEPTED: the work goes on after the answer. -/
def Part.accepted (p : Part) : Reply := { status := .accepted, body := [], part := p }

/-- DONE and ACCEPTED have been taken (R180). -/
def Status.taken : Status → Bool
  | .done => true
  | .accepted => true
  | .busy => false
  | .notAllowed => false
  | .badValue => false
  | .noRecord => false
  | .conflict => false
  | .tableFull => false
  | .floorFull => false
  | .queueFull => false
  | .notAdmitted => false
  | .badFrame => false
  | .unknownRequest => false

/-- An answer put in the buffer, with the request code `code` echoed. -/
def Part.setAnswer (p : Part) (code : Byte) (st : Status) (body : List Byte) : Part :=
  { p with answer := { status := st, code := code, body := body } }

/-- A write transaction that is not taken: PORT is raised, subject to its enable (R178). -/
def Part.writeIgnored (p : Part) : Part :=
  match p.power with
  | .off => p
  | .offResetLow => p
  | .resetLow => p.raise .port
  | .running => p.raise .port

/-- A reply written to the buffer, the records changed when the request was taken (R180). -/
def Part.finish (p : Part) (code : Byte) (r : Reply) : Part :=
  (if r.status.taken then p.settle r.part else p).setAnswer code r.status r.body

/-- A request dispatched to its owner: BAD_VALUE when the body does not fit its code (R178, R180). A part that does not run has
lost it, without an answer (R190; log entry 24). -/
def Part.request {α : Type} (p : Part) (code : Byte) (operands : Option α) (owner : α → Part → Reply) : Part :=
  if p.power = .running then
    match operands with
    | none => p.setAnswer code .badValue []
    | some a => p.finish code (owner a p)
  else p

/-- A request of the control port's own, which reaches no other block. -/
def Part.portRequest {α : Type} (p : Part) (code : Byte) (operands : Option α) (owner : α → Part → Reply) : Part :=
  if p.power = .running then
    match operands with
    | none => p.setAnswer code .badValue []
    | some a => (owner a p).part.setAnswer code (owner a p).status (owner a p).body
  else p

/-- The operands of a request whose body is empty. -/
def noBody (body : List Byte) : Option Unit := if body = [] then some () else none

/-! ### IDENTIFY (R181) -/

/-- The counts of the part, in R181's order. -/
def identity : List Byte :=
  bytes 2 Config.partCode.toNat ++ byte Config.revision ++ byte Config.seats ++ byte Config.seatPositions ++
    byte Config.wallPositions ++ byte Config.displays ++ byte Config.zones ++ byte Config.partitions ++ byte Config.floors ++
    byte Config.bookingSlots ++ bytes 2 Config.rosterPool ++ byte Config.queuePool ++ byte Config.hostSources ++
    bytes 2 Config.largestBody

def identifyOwner (_ : Unit) (p : Part) : Reply := p.doneWith identity

/-! ### READ (R182, R183) -/

/-- How many records a kind has; a BOOKING's index is a slot here (R182, R185). -/
def RecordKind.count : RecordKind → Nat
  | .seat => 96
  | .floor => 4
  | .queue => 4
  | .booking => 48
  | .display => 8
  | .ambient => 1
  | .layout => 1
  | .table => 1
  | .clock => 1
  | .settings => 1

def RecordKind.holds (k : RecordKind) (i : Nat) : Bool := decide (1 ≤ i ∧ i ≤ k.count)

/-- The image of a record other than a booking, as the READ finds it. -/
def Part.imageOfRecord (p : Part) (k : RecordKind) (i : Nat) : List Byte :=
  match k with
  | .seat => p.seatImage i
  | .floor => p.floorImage i
  | .queue => p.queueImage i
  | .booking => []
  | .display => displayImage i (p.displayAt i)
  | .ambient => p.ambientImage
  | .layout => p.layoutImage
  | .table => p.tableImage
  | .clock => clockImage p.clock
  | .settings => p.settingsImage

/-- One mark written (R184). -/
def Marks.set (m : Marks) (k : RecordKind) (i : Nat) (v : Bool) : Marks :=
  match k with
  | .seat => { m with seats := upd m.seats i (fun _ => v) }
  | .floor => { m with floors := upd m.floors i (fun _ => v) }
  | .queue => { m with queues := upd m.queues i (fun _ => v) }
  | .booking => { m with bookings := upd m.bookings i (fun _ => v) }
  | .display => { m with displays := upd m.displays i (fun _ => v) }
  | .ambient => { m with ambient := v }
  | .layout => { m with layout := v }
  | .table => { m with table := v }
  | .clock => { m with clock := v }
  | .settings => { m with settings := v }

/-- One mark read (R184). -/
def Marks.get (m : Marks) (k : RecordKind) (i : Nat) : Bool :=
  match k with
  | .seat => (nth m.seats i).getD false
  | .floor => (nth m.floors i).getD false
  | .queue => (nth m.queues i).getD false
  | .booking => (nth m.bookings i).getD false
  | .display => (nth m.displays i).getD false
  | .ambient => m.ambient
  | .layout => m.layout
  | .table => m.table
  | .clock => m.clock
  | .settings => m.settings

/-- A READ clears the mark of its record (R182). -/
def Part.clearMark (p : Part) (k : RecordKind) (i : Nat) : Part := { p with marks := p.marks.set k i false }

/-- READ of a booking's page; only page 1 clears the mark (R182, R183). -/
def Part.readBooking (p : Part) (handle page : Nat) : Reply :=
  if 3 < page ∨ handle = 0 then p.refuse .badValue
  else
    match p.slotOf handle, p.bookingOf handle with
    | some slot, some b =>
      (if page ≤ 1 then p.clearMark .booking slot else p).doneWith (bookingImage slot (max page 1) b)
    | _, _ => p.refuse .noRecord

/-- READ (R182). -/
def readOwner (r : ReadRequest) (p : Part) : Reply :=
  if r.kind = .booking then p.readBooking r.index r.page
  else if r.kind.holds r.index then (p.clearMark r.kind r.index).doneWith (p.imageOfRecord r.kind r.index)
  else p.refuse .badValue

/-! ### FIND_CHANGED (R185) -/

/-- The lowest index at or above `start` whose mark is set; for BOOKING, of a slot that holds a record. -/
def Part.findMark (p : Part) (k : RecordKind) (start : Nat) : Option Nat :=
  (List.range' 1 k.count).find? (fun i =>
    decide (start ≤ i) && p.marks.get k i && (decide (k ≠ .booking) || (p.slotAt i).isSome))

/-- FIND_CHANGED's body: the index, and for BOOKING the handle. -/
def Part.foundBody (p : Part) (k : RecordKind) (i : Nat) : List Byte :=
  byte i ++ if k = .booking then bytes 2 (((p.slotAt i).map (fun b => b.handle)).getD 0) else []

def findOwner (r : RecordKind × Nat) (p : Part) : Reply :=
  if r.1.holds r.2 then
    match p.findMark r.1 r.2 with
    | none => p.refuse .noRecord
    | some i => p.doneWith (p.foundBody r.1 i)
  else p.refuse .badValue

/-! ### CLEAR_NOTICES and SET_NOTICE_ENABLES (R187, R188) -/

def setBytes (s : NoticeSet) : List Byte := bytes 2 s.toNat

def clearOwner (named : NoticeSet) (p : Part) : Reply :=
  ({ p with notices := { p.notices with flags := p.notices.flags &&& ~~~named } } : Part).doneWith
    (setBytes p.notices.flags ++ setBytes (p.notices.flags &&& ~~~named))

def enablesOwner (r : NoticeSet × NoticeSet) (p : Part) : Reply :=
  ({ p with notices := { p.notices with enables := r.1, signals := r.2 } } : Part).doneWith (setBytes r.1 ++ setBytes r.2)

/-! ### The commands -/

/-- IDENTIFY (R181). -/
def execIdentify (body : List Byte) (s : State) : Host.Outcome State Fault Refusal :=
  s.become (s.part.portRequest 0x01 (noBody body) identifyOwner)

/-- READ (R182, R183). -/
def execRead (body : List Byte) (s : State) : Host.Outcome State Fault Refusal :=
  s.become (s.part.portRequest 0x02 (parseRead body) readOwner)

/-- FIND_CHANGED (R185). -/
def execFindChanged (body : List Byte) (s : State) : Host.Outcome State Fault Refusal :=
  s.become (s.part.portRequest 0x03 (parseFind body) findOwner)

/-- CLEAR_NOTICES (R187). -/
def execClearNotices (body : List Byte) (s : State) : Host.Outcome State Fault Refusal :=
  s.become (s.part.portRequest 0x04 (parseClear body) clearOwner)

/-- SET_NOTICE_ENABLES (R188). -/
def execSetNoticeEnables (body : List Byte) (s : State) : Host.Outcome State Fault Refusal :=
  s.become (s.part.portRequest 0x05 (parseEnables body) enablesOwner)

/-- WRITE_WHILE_BUSY: a write transaction begun while RDY is low (R178). -/
def execWriteWhileBusy (s : State) : Host.Outcome State Fault Refusal := s.become s.part.writeIgnored

/-- UNKNOWN_MARKER (R176): a marker that opens a transaction of another kind is no such event (log entry 26). -/
def execUnknownMarker (marker : Byte) (s : State) : Host.Outcome State Fault Refusal :=
  s.become (if marker = 0x5A ∨ marker = 0xA5 then s.part else s.part.writeIgnored)

end Sys2Proof.Machine
end

