-- ==== Sys2Proof/Machine/Ranges.lean ====
section
/-! DEFINITION. The range checks of the manual's tables: zone maps (R1), floor parameters (R8), rosters (R36), display
configurations (R133), ambient settings (R146) and settings groups (R192). -/

namespace Sys2Proof.Machine

/-- The non-empty ranges of one side, taken in zone order, cover `next` to `last` without gap or overlap (R1). -/
def covers : Nat → Nat → List (Option (Nat × Nat)) → Bool
  | next, last, [] => decide (next = last + 1)
  | next, last, none :: rest => covers next last rest
  | next, last, some (a, b) :: rest => decide (a = next ∧ a ≤ b ∧ b ≤ last) && covers (b + 1) last rest

/-- A valid zone map (R1). -/
def zoneMapOk (map : List ZoneRanges) : Bool :=
  decide (map.length = 4) && covers 1 48 (map.map (fun z => z.left)) && covers 49 96 (map.map (fun z => z.right)) &&
    map.all (fun z => z.left.isSome || z.right.isSome)

/-- Floor parameters in their ranges, with `warning_lead` less than a non-zero `allowance` (R8). -/
def FloorParams.ok (q : FloorParams) : Bool :=
  decide (1 ≤ q.limit ∧ q.limit ≤ 6) && decide (q.allowance = 0 ∨ (10 ≤ q.allowance ∧ q.allowance ≤ 3600)) &&
    decide (q.warningLead ≤ 120) && decide (q.allowance = 0 ∨ q.warningLead < q.allowance) &&
    decide (1 ≤ q.queueCap ∧ q.queueCap ≤ 32) && decide (1 ≤ q.alertLevel ∧ q.alertLevel ≤ 32) &&
    decide (q.lifetime ≤ 120)

/-- A booking's span (R21): `start` at least `lead`, a length of 1 to 1440 minutes, and `end` plus `grace` a minute. -/
def spanOk (startMinute endMinute lead grace : Nat) : Bool :=
  decide (lead ≤ 30 ∧ grace ≤ 30) && decide (lead ≤ startMinute) && decide (startMinute + 1 ≤ endMinute) &&
    decide (endMinute ≤ startMinute + 1440) && decide (endMinute + grace ≤ Config.lastMinute)

/-- No value stands twice. -/
def noRepeats {α : Type} [DecidableEq α] : List α → Bool
  | [] => true
  | a :: l => decide (a ∉ l) && noRepeats l

/-- A roster that may stand in a record: no seat and no tag twice, at most 4 CHAIR roles (R36). -/
def rosterOk (roster : List RosterEntry) : Bool :=
  noRepeats (roster.map (fun e => e.seat)) && noRepeats (roster.map (fun e => e.tag)) &&
    decide ((roster.filter (fun e => decide (e.role = .chair))).length ≤ 4)

/-- A roster entry a request may carry: a seat of the zones under the current zone map, and a tag other than 0
(R29, R37). -/
def Part.entryOk (p : Part) (run : ZoneRun) (e : RosterEntry) : Bool :=
  decide (1 ≤ e.seat ∧ e.seat ≤ 96) && p.seatIn run e.seat && decide (e.tag ≠ 0)

/-- Insert a roster entry in rising seat order, replacing the entry of its seat (R36, R37). -/
def putEntry (e : RosterEntry) : List RosterEntry → List RosterEntry
  | [] => [e]
  | x :: l => if e.seat < x.seat then e :: x :: l else if e.seat = x.seat then e :: l else x :: putEntry e l

/-- A roster with the entries put in, one after another (R37). -/
def putEntries (roster entries : List RosterEntry) : List RosterEntry := entries.foldl (fun r e => putEntry e r) roster

def contentOk : Content → Bool
  | .source n => decide (1 ≤ n ∧ n ≤ 16)
  | .followSpeaker => true
  | .queueView => true
  | .blank => true

def dwellOk (dwell : Nat) : Bool := decide (5 ≤ dwell ∧ dwell ≤ 600)

def bindingOk : Option Nat → Bool
  | none => true
  | some z => decide (1 ≤ z ∧ z ≤ 4)

/-- A display configuration in its ranges (R133). -/
def DisplayConfig.ok (c : DisplayConfig) : Bool :=
  bindingOk c.binding && contentOk c.contentA && (c.contentB.map contentOk).getD true && dwellOk c.dwellA &&
    dwellOk c.dwellB && decide (c.fixedLevel ≤ 15)

/-- Ambient settings: thresholds strictly rising, apart by more than the hysteresis (R146). -/
def ambientOk (t1 t2 t3 h : Nat) (levels : List Nat) : Bool :=
  decide (t1 < t2 ∧ t2 < t3 ∧ t3 ≤ 4095) && decide (h ≤ 255) && decide (t1 + h < t2 ∧ t2 + h < t3) &&
    decide (levels.length = 4) && levels.all (fun v => decide (v ≤ 15))

/-- Booking defaults in their ranges (R192). -/
def BookingDefaults.ok (b : BookingDefaults) : Bool := decide (b.lead ≤ 30 ∧ b.grace ≤ 30) && b.params.ok

/-- Settings with every value in its range and every combination valid (R192). -/
def Settings.ok (s : Settings) : Bool :=
  zoneMapOk s.zoneMap && decide (1 ≤ s.partitionSettle ∧ s.partitionSettle ≤ 15) &&
    decide (1 ≤ s.presenceSettle ∧ s.presenceSettle ≤ 15) && decide (1 ≤ s.badgeSettle ∧ s.badgeSettle ≤ 8) &&
    s.booking.ok && decide (15 ≤ s.adHocLength ∧ s.adHocLength ≤ 240) && s.adHocParams.ok &&
    decide (1 ≤ s.idleDelay ∧ s.idleDelay ≤ 60) && decide (1 ≤ s.standbyLead ∧ s.standbyLead ≤ 60) &&
    ambientOk s.t1 s.t2 s.t3 s.hysteresis s.bandLevels && decide (s.brightness.length = 16) &&
    s.brightness.all (fun v => decide (v ≤ 255)) && decide (s.displays.length = 8) && s.displays.all DisplayConfig.ok

end Sys2Proof.Machine
end

