-- ==== Sys2Proof/Machine/Bookings.lean ====
section
/-! DEFINITION. The booking controller: time events, apply, close-out, bumps, chaining and outcomes (02, 03). The operations
that one event can set off one after another are tasks, run depth first. -/

namespace Sys2Proof.Machine

/-! ### Small facts of a booking -/

/-- The first minute of the occupation span (R25). -/
def Booking.occStart (b : Booking) : Nat := b.startMinute - b.lead

/-- The end of the occupation span (R25). -/
def Booking.occEnd (b : Booking) : Nat := b.endMinute + b.grace

/-- Two half-open spans overlap (02 section 2.3). -/
def spansOverlap (a b c d : Nat) : Bool := decide (a < d ∧ c < b)

/-- A booking overlaps a span of minutes on a run of zones (R25). -/
def Booking.overlaps (b : Booking) (run : ZoneRun) (a e : Nat) : Bool :=
  b.zones.meets run && spansOverlap b.occStart b.occEnd a e

/-- A HOST booking, not ENDED and not the one with handle `h`, that overlaps (R25). -/
def conflictsWith (h : Nat) (run : ZoneRun) (a e : Nat) : Option Booking → Bool
  | none => false
  | some b =>
    decide (b.handle ≠ h) && decide (b.origin = .host) && decide (b.state ≠ .ended) && b.overlaps run a e

/-- The overlap check (R25): does the proposal of the booking with handle `h` (0 for a new one) meet a conflict? -/
def Part.overlapConflict (p : Part) (h : Nat) (run : ZoneRun) (a e : Nat) : Bool :=
  slotNumbers.any (fun k => conflictsWith h run a e (p.slotAt k))

/-- An AD_HOC booking that a HOST booking's span on `run` bumps (R25, R31): not ENDED, not CLOSING. -/
def bumpedBy (run : ZoneRun) (a e : Nat) : Option Booking → Bool
  | none => false
  | some b =>
    decide (b.origin = .adHoc) && decide (b.state ≠ .ended) && decide (b.state ≠ .closing) && b.overlaps run a e

/-- The handles of the AD_HOC bookings to bump, in rising slot order: R31 gives no order, and this one is the model's choice
(log entry 36). -/
def Part.toBump (p : Part) (run : ZoneRun) (a e : Nat) : List Nat :=
  (slotNumbers.filter (fun k => bumpedBy run a e (p.slotAt k))).filterMap (fun k => (p.slotAt k).map (fun b => b.handle))

/-- A booking becomes ENDED with an outcome (R43). -/
def Booking.finish (b : Booking) (o : BookingOutcome) : Booking :=
  { b with state := .ended, outcome := some o, pendingOutcome := none, floor := none, startNoted := false,
           closeNoted := false, retireOnCompletion := false, pendingSeat := none }

def noFlags : OutcomeFlags :=
  { rosterUnseated := false, wasSuspended := false, closeUnconfirmed := false, lateApply := false }

/-- ROSTER_UNSEATED added (R44). -/
def Booking.unseated (b : Booking) : Booking := { b with flags := { b.flags with rosterUnseated := true } }

/-- CLOSE_UNCONFIRMED added (R44). -/
def Booking.unconfirmed (b : Booking) : Booking := { b with flags := { b.flags with closeUnconfirmed := true } }

/-- An outcome flag added to a booking, once: the record's mark and the BOOKING notice are set as it is added, and the notice
stays when the same event goes on to free the record (R44, R65). -/
def Part.addFlag (p : Part) (h : Nat) (flag : Booking → Booking) : Part :=
  if (p.bookingOf h).map flag = p.bookingOf h then p else (p.updBooking h flag).touchBooking h

/-- The lowest free slot (R22). -/
def Part.freeSlot (p : Part) : Option Nat := slotNumbers.find? (fun k => (p.slotAt k).isNone)

/-- The first handle after `h` that no record holds, counting upward and wrapping (R22); 48 records leave one free among
any 49 in a row. -/
def Part.nextHandleFrom (p : Part) : Nat → Nat → Nat
  | 0, h => wrapNext h
  | k + 1, h => if (p.slotOf (wrapNext h)).isNone then wrapNext h else p.nextHandleFrom k (wrapNext h)

/-- The handle of the next new booking (R22). -/
def Part.nextHandle (p : Part) : Nat := p.nextHandleFrom 48 p.lastHandle

/-- A new record in the lowest free slot, with the next handle (R22, R30). -/
def Part.addBooking (p : Part) (b : Booking) : Part :=
  match p.freeSlot with
  | none => p
  | some k =>
    { p with slots := upd p.slots k (fun _ => some { b with handle := p.nextHandle }), lastHandle := p.nextHandle }

/-! ### Occupants and roles (R76) -/

/-- Occupant and role written from a roster entry, or absent and ORDINARY (R76). -/
def Seat.take (s : Seat) (e : Option RosterEntry) : Seat :=
  { s with occupant := e.map (fun e => e.tag), role := (e.map (fun e => e.role)).getD .ordinary }

/-- Every seat of a run written from a roster (R50), or cleared with an empty one (R55, R58). -/
def Part.writeSeats (p : Part) (run : ZoneRun) (entryOf : Nat → Option RosterEntry) : Part :=
  { p with seats := mapFrom (fun n s => if p.seatIn run n then s.take (entryOf n) else s) 1 p.seats }

/-- A POLL of seat `n` is on the line now (log entry 12). -/
def Part.pollOnLine (p : Part) (n : Nat) : Bool :=
  match (p.engine (segmentOf n)).line with
  | none => false
  | some l =>
    match l.exchange with
    | .poll pos _ => decide (pos = positionOf n)
    | _ => false

/-- A new AWAITING entry (R50, R56, R58). -/
def Part.newWork (p : Part) (n : Nat) : WorkEntry :=
  { seat := n, attempts := 0, status := .awaiting, sentBefore := p.pollOnLine n }

/-- Urgent exchanges asked for a list of seats. -/
def Part.requestSeats (p : Part) (l : List Nat) : Part := l.foldl Part.requestSeat p

/-- The seats of a run that are PRESENT or DEGRADED, in rising order. -/
def Part.servedSeats (p : Part) (run : ZoneRun) : List Nat := (p.seatsIn run).filter p.inService

/-- A roster has an entry that finds no working seat in the run: SETTLING, ABSENT, CUT_OFF or outside (R50). -/
def Part.rosterUnseated (p : Part) (run : ZoneRun) (roster : List RosterEntry) : Bool :=
  roster.any (fun e => !(p.seatIn run e.seat && p.inService e.seat))

/-! ### Apply -/

/-- The lowest-numbered FREE floor (R11). -/
def Part.freeFloor (p : Part) : Option Nat := floorNumbers.find? (fun f => decide ((p.floorAt f).state = .free))

/-- A floor bound to a booking (R11). -/
def boundFloor (b : Booking) : Floor :=
  { state := .preparing, suspended := false, zones := some b.zones, booking := some b.handle, params := some b.params,
    priorityHolders := 0, openOrder := 0, openList := [] }

/-- R28's condition: WAITING, its zones unheld, the table AWAKE. -/
def Part.canBegin (p : Part) (b : Booking) : Bool :=
  decide (b.state = .waiting) && p.unheld b.zones && decide (p.control.tableState = .awake)

/-- The push phase begins (R50): the records of the zones written, the flag, the work list and its urgent exchanges, asked for
by rising seat number (the model's choice, log entry 33). -/
def Part.beginPush (p : Part) (f : Nat) (b : Booking) : Part :=
  let written := p.writeSeats b.zones b.entryOf
  let flagged := if p.rosterUnseated b.zones b.roster then written.addFlag b.handle Booking.unseated else written
  let work := (p.servedSeats b.zones).map p.newWork
  (flagged.setContext f (some { booking := b.handle, phase := .push, work := work })).requestSeats (p.servedSeats b.zones)

/-- Apply begins for a booking on floor `f` (R49): the bind (R11), the evaluation of the other floors (R14), the push. -/
def Part.beginApply (p : Part) (f : Nat) (b : Booking) : Part :=
  let noted := p.updBooking b.handle (fun b => { b with state := .preparing, floor := some f })
  let bound := (noted.updFloor f (fun _ => boundFloor b)).updQueue f (fun _ => startQueue)
  bound.evalSuspension.beginPush f b

/-- The floor becomes LIVE: rotations restart (R140), suspension is evaluated (R14). -/
def Part.floorLive (p : Part) (f : Nat) : Part :=
  ((p.updFloor f (fun fl => { fl with state := .live })).restartRotations f).evalSuspension

/-- The pending press of an ad hoc booking is dropped with the refused flash for a seat in service, or without (R52, R55). -/
def Part.dropPending (p : Part) (b : Booking) : Part :=
  match b.pendingSeat with
  | none => p
  | some n => if p.inService n then p.flash n else p

/-- The pending press of an ad hoc booking taken as a SPEAK press without the guard's test (R52). -/
def Part.takePending (p : Part) (f : Nat) (b : Booking) : Part :=
  match b.pendingSeat with
  | none => p
  | some n => if p.inService n then p.speakUnguarded f n else p

/-- Apply completes with `start_noted` yes: LIVE with LATE_APPLY (R51), then the pending press (R52). -/
def Part.applyLive (p : Part) (f : Nat) (b : Booking) : Part :=
  let live := (p.updBooking b.handle
    (fun b => { b with state := .live, flags := { b.flags with lateApply := true } })).floorLive f
  let pressed := if b.closeNoted then live.dropPending b else live.takePending f b
  pressed.updBooking b.handle (fun b => { b with pendingSeat := none })

/-- Apply completes (R51). -/
def Part.completeApply (p : Part) (f : Nat) (b : Booking) : Part :=
  let done := p.setContext f none
  if b.startNoted then done.applyLive f b
  else
    (done.updBooking b.handle (fun b => { b with state := .ready })).updFloor f (fun fl => { fl with state := .ready })

/-! ### Close-out -/

/-- A floor becomes FREE (R12); `open_order` is kept until the next bind. -/
def Floor.freed (fl : Floor) : Floor :=
  { state := .free, suspended := false, zones := none, booking := none, params := none, priorityHolders := 0,
    openOrder := fl.openOrder, openList := [] }

/-- The release of a floor (R12): its queue back in the pool, the idle mark, the other floors evaluated (R14). -/
def Part.releaseFloor (p : Part) (f : Nat) : Part :=
  let freed := (p.updFloor f Floor.freed).emptyQueue f
  ({ freed with control := { freed.control with idleMark := freed.now } } : Part).evalSuspension

/-- Close-out begins (R56). The closed seats ask for their urgent exchanges in open-list order, before the other seats whose
images changed (the model's choice, log entry 33). The table record's mark is set whether or not the queue was empty. -/
def Part.beginCloseOut (p : Part) (f : Nat) (h : Nat) : Part :=
  let open' := (p.floorAt f).openSeats
  let closing := (p.updBooking h (fun b => { b with state := .closing })).updFloor f
    (fun fl => { fl with state := .closing, suspended := false })
  let closed := (closing.forceCloseAll f open').emptyQueue f
  let work := (seatNumbers.filter (fun n => decide (n ∈ open'))).map closed.newWork
  ((closed.setContext f (some { booking := h, phase := .close, work := work })).requestSeats open').evalSuspension.touchTable

/-- The clear phase begins (R58), its urgent exchanges asked for by rising seat number (the model's choice, log entry 33). -/
def Part.beginClear (p : Part) (f : Nat) (b : Booking) : Part :=
  let written := p.writeSeats b.zones (fun _ => none)
  let work := (p.servedSeats b.zones).map p.newWork
  (written.setContext f (some { booking := b.handle, phase := .clear, work := work })).requestSeats (p.servedSeats b.zones)

/-- Close-out completes (R59): the record freed or ENDED, the floor released, and the table record's mark set. -/
def Part.completeCloseOut (p : Part) (f : Nat) (b : Booking) : Part :=
  let done := p.setContext f none
  let ended :=
    if b.retireOnCompletion then done.freeBooking b.handle
    else done.updBooking b.handle (fun b => b.finish (b.pendingOutcome.getD .completed))
  (ended.releaseFloor f).touchTable

/-- The PRESENT or DEGRADED seats of a run whose records a clearing changes, `admitted` among their fields (R55). -/
def Part.clearedSeats (p : Part) (run : ZoneRun) : List Nat :=
  (p.servedSeats run).filter (fun n => decide ((p.seatAt n).take none ≠ p.seatAt n) || p.admitted n)

/-- Apply aborted by RETIRE_BOOKING (R55), up to the release of the floor; the table record's mark is set, kept or not. -/
def Part.abortApply (p : Part) (f : Nat) (b : Booking) (keep : Bool) : Part :=
  let cleared := (p.setContext f none).writeSeats b.zones (fun _ => none)
  let flashed := cleared.dropPending b
  let ended := if keep then flashed.updBooking b.handle (fun b => b.finish .endedEarly) else flashed.freeBooking b.handle
  ((ended.requestSeats (p.clearedSeats b.zones)).releaseFloor f).touchTable

/-! ### Tasks -/

/-- What one event can set off at the booking controller. -/
inductive Task where
  /-- the occupation start of a booking is tested (R27) -/
  | occStart (h : Nat)
  /-- its `start` is tested (R27) -/
  | startReached (h : Nat)
  /-- its `end` + `grace` is tested (R27) -/
  | endReached (h : Nat)
  /-- R28's condition is tested for it -/
  | tryBegin (h : Nat)
  /-- the operation in flight on a floor is tested for a complete phase (R47) -/
  | advance (f : Nat)
  /-- close-out begins for a booking (R56) -/
  | closeOut (h : Nat)
  /-- the WAITING bookings from a slot upward are tested (R62) -/
  | chain (k : Nat)
  deriving DecidableEq, Repr

/-- The three thresholds of a booking, in R26's order. -/
def timeEvents (h : Nat) : List Task := [.occStart h, .startReached h, .endReached h]

/-- The occupation start taken (R27): PENDING becomes WAITING, and R28 is tested. -/
def Part.takeOccStart (p : Part) (h : Nat) : Part × List Task :=
  match p.bookingOf h with
  | none => (p, [])
  | some b =>
    if b.state = .pending ∧ b.occStart ≤ p.clock.minute then
      (p.updBooking h (fun b => { b with state := .waiting }), [.tryBegin h])
    else (p, [])

/-- `start` taken (R27). -/
def Part.takeStart (p : Part) (h : Nat) : Part × List Task :=
  match p.bookingOf h with
  | none => (p, [])
  | some b =>
    if b.startMinute ≤ p.clock.minute then
      match b.state with
      | .waiting => (p.updBooking h (fun b => { b with startNoted := true }), [])
      | .preparing => (p.updBooking h (fun b => { b with startNoted := true }), [])
      | .ready =>
        match b.floor with
        | none => (p, [])
        | some f => ((p.updBooking h (fun b => { b with state := .live })).floorLive f, [])
      | .pending => (p, [])
      | .live => (p, [])
      | .closing => (p, [])
      | .ended => (p, [])
    else (p, [])

/-- `end` + `grace` taken (R27). -/
def Part.takeEnd (p : Part) (h : Nat) : Part × List Task :=
  match p.bookingOf h with
  | none => (p, [])
  | some b =>
    if b.occEnd ≤ p.clock.minute then
      match b.state with
      | .pending => (p.updBooking h (fun b => b.finish (b.pendingOutcome.getD .missed)), [])
      | .waiting => (p.updBooking h (fun b => b.finish (b.pendingOutcome.getD .missed)), [])
      | .preparing => (p.updBooking h (fun b => { b with closeNoted := true }), [])
      | .ready => (p, [.closeOut h])
      | .live => (p, [.closeOut h])
      | .closing => (p, [])
      | .ended => (p, [])
    else (p, [])

/-- Apply begins for booking `b` on the lowest FREE floor (R28, R49). -/
def Part.startApply (p : Part) (b : Booking) : Part × List Task :=
  match p.freeFloor with
  | none => (p, [])
  | some f => (p.beginApply f b, [.advance f])

/-- R28's test (R28). -/
def Part.takeTry (p : Part) (h : Nat) : Part × List Task :=
  match p.bookingOf h with
  | none => (p, [])
  | some b => if p.canBegin b then p.startApply b else (p, [])

/-- Close-out begins, where a floor serves the booking (R56). -/
def Part.takeCloseOut (p : Part) (h : Nat) : Part × List Task :=
  match p.bookingOf h with
  | none => (p, [])
  | some b =>
    match b.floor with
    | none => (p, [])
    | some f => (p.beginCloseOut f h, [.advance f])

/-- Every entry of a work list is settled (R47). -/
def settledWork (l : List WorkEntry) : Bool := l.all (fun w => decide (w.status ≠ .awaiting))

/-- The operation on floor `f` goes on when its phase is complete (R50, R51, R57, R58, R59). -/
def Part.takeAdvance (p : Part) (f : Nat) : Part × List Task :=
  match p.contextAt f with
  | none => (p, [])
  | some c =>
    match p.bookingOf c.booking with
    | none => (p, [])
    | some b =>
      if settledWork c.work then
        match c.phase with
        | .push => (p.completeApply f b, if b.startNoted && b.closeNoted then [.closeOut b.handle] else [])
        | .close => (p.beginClear f b, [.advance f])
        | .clear => (p.completeCloseOut f b, [.chain 1])
      else (p, [])

/-- The WAITING bookings from slot `k` upward: the first that can begin begins, and the rest are tested after it (R62). -/
def Part.takeChain (p : Part) (k : Nat) : Part × List Task :=
  match slotNumbers.find? (fun i => decide (k ≤ i) && ((p.slotAt i).map p.canBegin).getD false) with
  | none => (p, [])
  | some i =>
    match p.slotAt i with
    | none => (p, [])
    | some b => ((p.startApply b).1, (p.startApply b).2 ++ [.chain (i + 1)])

/-- One task: what it does now, and the tasks it sets off, which come before every other. -/
def Part.doTask (p : Part) : Task → Part × List Task
  | .occStart h => p.takeOccStart h
  | .startReached h => p.takeStart h
  | .endReached h => p.takeEnd h
  | .tryBegin h => p.takeTry h
  | .advance f => p.takeAdvance f
  | .closeOut h => p.takeCloseOut h
  | .chain k => p.takeChain k

/-- Tasks run depth first, each a step that seats, displays, marks and notices follow (R89, R141, R184, R186); every booking
begins, closes and ends at most once in a step, so the fuel is never used up (log entry 23). -/
def runFuel : Nat → List Task → Part → Part
  | 0, _, p => p
  | _ + 1, [], p => p
  | k + 1, t :: ts, p => runFuel k ((p.doTask t).2 ++ ts) (p.follow (p.doTask t).1)

def taskFuel : Nat := 4096

def Part.runTasks (p : Part) (ts : List Task) : Part := runFuel taskFuel ts p

/-- The time events of every booking not ENDED, in rising slot order (R26). -/
def Part.allTimeEvents (p : Part) : List Task :=
  (slotNumbers.filterMap (fun k => (p.slotAt k).map (fun b => b.handle))).flatMap timeEvents

/-- The time events of every booking evaluated, while the clock is valid (R23, R26). -/
def Part.evalTimes (p : Part) : Part := if p.clock.valid then p.runTasks p.allTimeEvents else p

/-! ### Bumps and ad hoc bookings -/

/-- The record of a bumped booking (R31): `end` is the later of the current minute and the HOST occupation start, where
that is not later than the present `end`. -/
def Booking.bump (b : Booking) (minute occ : Nat) : Booking :=
  { b with endMinute := min b.endMinute (max minute occ), grace := 0, pendingOutcome := some .bumped }

/-- One bump, its time events evaluated at once (R31). -/
def Part.bumpOne (occ : Nat) (p : Part) (h : Nat) : Part :=
  ((p.updBooking h (fun b => b.bump p.clock.minute occ)).touchBooking h).runTasks (timeEvents h)

/-- Every AD_HOC booking that overlaps a HOST booking's span is bumped (R30, R31, R33). R31 says "for each such booking" and no
order: that they are bumped by rising slot, each with its time events and the close-out they begin before the next, is the
model's choice (log entry 36). -/
def Part.bumpAll (p : Part) (run : ZoneRun) (occ occEnd : Nat) : Part :=
  (p.toBump run occ occEnd).foldl (Part.bumpOne occ) p

/-- The earliest occupation start among non-ENDED bookings that share a zone with the room, and the cut of R41. -/
def Part.adHocEnd (p : Part) (room : ZoneRun) : Nat :=
  slotNumbers.foldl (fun e k =>
    match p.slotAt k with
    | none => e
    | some b => if b.state ≠ .ended ∧ b.zones.meets room then min e b.occStart else e)
    (min (p.clock.minute + p.settings.adHocLength) Config.lastMinute)

/-- The record of an ad hoc booking (R42), WAITING with `start_noted` yes. -/
def Part.adHocRecord (p : Part) (room : ZoneRun) (n : Nat) : Booking :=
  { handle := p.nextHandle, origin := .adHoc, state := .waiting, zones := room, startMinute := p.clock.minute,
    endMinute := p.adHocEnd room, lead := 0, grace := 0, params := p.settings.adHocParams,
    confidentiality := .openMeeting, guestCode := 0, guestMask := 0xFFFF, roster := [], floor := none,
    startNoted := true, closeNoted := false, pendingOutcome := none, retireOnCompletion := false,
    pendingSeat := some n, outcome := none, flags := noFlags }

/-- The six tests of R41 for a press from a seat in the room. -/
def Part.adHocPasses (p : Part) (room : ZoneRun) : Bool :=
  p.settings.adHocAllowed && p.clock.valid && decide (p.control.tableState = .awake) && p.unheld room &&
    decide (p.clock.minute + 5 ≤ p.adHocEnd room) && p.freeSlot.isSome

/-- A SPEAK press from a seat whose zone no floor holds (R41, R42). -/
def Part.adHocPress (p : Part) (n : Nat) : Part :=
  match p.zoneOf n with
  | none => p.flash n
  | some z =>
    if p.adHocPasses (p.roomOf z) then
      (p.addBooking (p.adHocRecord (p.roomOf z) n)).runTasks [.tryBegin p.nextHandle]
    else p.flash n

/-! ### Work entries (R48) -/

/-- The floor whose operation holds an AWAITING entry for seat `n` (R61). -/
def Part.workFloor (p : Part) (n : Nat) : Option Nat :=
  floorNumbers.find? (fun f =>
    ((p.contextAt f).map (fun c => c.work.any (fun w => w.seat == n && decide (w.status = .awaiting)))).getD false)

/-- The work entry of a seat written. -/
def OpContext.updWork (c : OpContext) (n : Nat) (g : WorkEntry → WorkEntry) : OpContext :=
  { c with work := c.work.map (fun w => if w.seat = n ∧ w.status = .awaiting then g w else w) }

/-- An attempt of an AWAITING entry (R48): confirmed, failed for the third time, or to be tried again. A POLL that was on
the line before the entry was placed is no attempt (log entry 12). -/
def WorkEntry.attempt (w : WorkEntry) (confirms : Bool) : WorkEntry :=
  if w.sentBefore then { w with sentBefore := false }
  else if confirms then { w with attempts := w.attempts + 1, status := .confirmed }
  else { w with attempts := w.attempts + 1, status := if 3 ≤ w.attempts + 1 then .failed else .awaiting }

/-- The entry of seat `n` in a context. -/
def OpContext.workOf (c : OpContext) (n : Nat) : Option WorkEntry := c.work.find? (fun w => w.seat == n)

/-- An entry of seat `n` ended FAILED: the phase's flag (R50, R57); none in the clear phase (R58). -/
def Part.workFailed (p : Part) (c : OpContext) : Part :=
  match c.phase with
  | .push => p.addFlag c.booking Booking.unseated
  | .close => p.addFlag c.booking Booking.unconfirmed
  | .clear => p

/-- What follows an attempt for seat `n`: a further urgent exchange, or the flag of a failure (R48). -/
def Part.afterAttempt (p : Part) (c : OpContext) (n : Nat) : Part :=
  match c.workOf n with
  | none => p
  | some w =>
    match w.status with
    | .awaiting => p.requestSeat n
    | .failed => p.workFailed c
    | .confirmed => p
    | .skipped => p

/-- The outcome of a POLL of seat `n` reported to the operation that holds its AWAITING entry (R48, R86 step 2):
`good`, and whether the uplink echoes CLOSED. -/
def Part.workOutcome (p : Part) (n : Nat) (good echoClosed : Bool) : Part :=
  match p.workFloor n with
  | none => p
  | some f =>
    match p.contextAt f with
    | none => p
    | some c =>
      let confirms := good && (decide (c.phase ≠ .close) || echoClosed)
      let c' := c.updWork n (fun w => w.attempt confirms)
      ((p.setContext f (some c')).afterAttempt c' n).runTasks [.advance f]

/-- The flag of a skipped entry (R54, R57, R58). -/
def Part.workSkipped (p : Part) (c : OpContext) (n : Nat) : Part :=
  match c.phase with
  | .push =>
    if ((p.bookingOf c.booking).map (fun b => (b.entryOf n).isSome)).getD false then
      p.addFlag c.booking Booking.unseated
    else p
  | .close => p.addFlag c.booking Booking.unconfirmed
  | .clear => p

/-- A seat with an AWAITING entry has left PRESENT or DEGRADED (R54, R57, R58). -/
def Part.workLost (p : Part) (n : Nat) : Part :=
  match p.workFloor n with
  | none => p
  | some f =>
    match p.contextAt f with
    | none => p
    | some c =>
      ((p.setContext f (some (c.updWork n (fun w => { w with status := .skipped })))).workSkipped c n).runTasks [.advance f]

end Sys2Proof.Machine
end

