-- ==== Sys2Proof/Machine/Power.lean ====
section
/-! DEFINITION. The power controller: wake causes, waking, the way to AWAKE, entry into standby and sleep (08 section 8.6,
09). -/

namespace Sys2Proof.Machine

/-! ### Waking -/

/-- LEFT, RIGHT and WALL are all RUNNING (R173). -/
def Part.allRunning (p : Part) : Bool :=
  decide (p.left.state = .running ∧ p.right.state = .running ∧ p.wall.state = .running)

/-- The table becomes AWAKE (R173): the idle mark, the held segments released, the WAITING bookings tested. -/
def Part.becomeAwake (p : Part) : Part :=
  ({ p with
      control := { p.control with tableState := .awake, idleMark := p.now }
      left := { p.left with held := false }
      right := { p.right with held := false } } : Part).runTasks [.chain 1]

/-- WAKING ends in the step in which every segment is RUNNING (R173). -/
def Part.checkAwake (p : Part) : Part :=
  if p.control.tableState = .waking ∧ p.allRunning = true then p.becomeAwake else p

/-- An IDLE seat segment is asked to walk (R151, R173). -/
def Engine.wakeUp (e : Engine) : Engine :=
  if e.state = .idle then { e with state := .walking, walk := some walkToBegin } else e

/-- WAKING begins (R173), up to the test for AWAKE: requests to sleep withdrawn, WALL back in FULL scope, sleeping seat
segments walked. -/
def Part.toWaking (p : Part) (c : WakeCause) : Part :=
  { p with
    control := { p.control with tableState := .waking, lastWakeCause := c, sleep := noSleep }
    left := p.left.wakeUp
    right := p.right.wakeUp
    wall := { p.wall with scope := .full, blankFirst := none } }

/-- A wake cause taken by the table state (R172): nothing in AWAKE and WAKING. -/
def Part.wake (p : Part) (c : WakeCause) : Part :=
  if p.control.tableState.dark then (p.toWaking c).checkAwake else p

/-- A booking is due within the standby lead (R172). -/
def Part.isDue (p : Part) : Option Booking → Bool
  | none => false
  | some b =>
    (decide (b.state = .pending) || decide (b.state = .waiting)) &&
      decide (b.occStart ≤ p.clock.minute + p.settings.standbyLead)

/-- The booking cause tested (R172). -/
def Part.dueTest (p : Part) : Part :=
  if p.clock.valid && p.slots.any p.isDue then p.wake .bookingDue else p

/-! ### Entering standby -/

/-- A booking that keeps the table from standby (R170): WAITING to CLOSING, or PENDING and due within the lead. -/
def Part.keepsAwake (p : Part) : Option Booking → Bool
  | none => false
  | some b =>
    match b.state with
    | .waiting => true
    | .preparing => true
    | .ready => true
    | .live => true
    | .closing => true
    | .pending => p.clock.valid && decide (b.occStart ≤ p.clock.minute + p.settings.standbyLead)
    | .ended => false

/-- The entry condition (R170). -/
def Part.mayStandBy (p : Part) : Bool :=
  decide (p.control.tableState = .awake) && p.settings.standbyAllowed && p.allFloorsFree &&
    !p.slots.any p.keepsAwake && decide (p.control.idleMark + p.settings.idleDelay * (60 * Config.second) ≤ p.now)

def allSleep : SleepRequests := { left := true, right := true, wall := true }

/-- Entry into standby begins (R171). -/
def Part.beginStandby (p : Part) : Part :=
  { p with control := { p.control with tableState := .enteringStandby, sleep := allSleep } }

/-! ### Sleep -/

/-- A segment may send SLEEP (R151, R165, R171): asked to, RUNNING, nothing on its line, and on WALL the displays that were
urgent served. -/
def Part.maySleep (p : Part) (seg : Segment) : Bool :=
  p.control.sleep.of seg && decide ((p.engine seg).state = .running) && decide ((p.engine seg).line = none) &&
    (decide (seg ≠ .wall) || decide (p.wall.blankFirst = some []))

/-- An entry of the urgent list that stays in SENSORS scope (R165). -/
def Part.isSensorAt (p : Part) (pos : Nat) : Bool :=
  match p.roleAt pos with
  | some .ambient => true
  | some (.partition _) => true
  | some (.display _) => false
  | none => false

/-- SLEEP's effect on a seat segment (R165). -/
def Engine.toIdle (e : Engine) : Engine := { e with state := .idle, urgent := [] }

/-- SLEEP's effect at the engine that sends it (R165). -/
def Part.sendSleep (p : Part) : Segment → Part
  | .left => { p with left := p.left.toIdle }
  | .right => { p with right := p.right.toIdle }
  | .wall =>
    { p with wall := { p.wall with scope := .sensors, blankFirst := none, urgent := p.wall.urgent.filter p.isSensorAt } }

/-- The request of a segment is no longer outstanding; with none left the table is in STANDBY (R171). -/
def PowerControl.slept (c : PowerControl) (seg : Segment) : PowerControl :=
  { c with sleep := c.sleep.clear seg, tableState := if c.sleep.clear seg = noSleep then .standby else c.tableState }

/-- A segment that has become IDLE finds its wake line already raised (R166). -/
def Part.seeWakeLine (p : Part) (seg : Segment) : Part :=
  if (p.engine seg).state = .idle ∧ (p.engine seg).wakeLine = true then p.wake .wakeLine else p

/-- SLEEP taken by a segment (R165, R171). -/
def Part.takeSleep (p : Part) (seg : Segment) : Part :=
  if p.maySleep seg then
    let sent := p.sendSleep seg
    ({ sent with control := sent.control.slept seg } : Part).seeWakeLine seg
  else p

/-- The wake line of a segment rises: an IDLE segment reports a wake cause, once for the rise (R166). -/
def Part.raiseWakeLine (p : Part) (seg : Segment) : Part :=
  if (p.engine seg).wakeLine then p
  else (p.updEngine seg (fun e => { e with wakeLine := true })).seeWakeLine seg

/-! ### The commands -/

/-- SLEEP: a segment engine that has been asked to sleep sends the broadcast (R165). -/
def execSleep (seg : Segment) (s : State) : Host.Outcome State Fault Refusal :=
  s.become (s.part.event (fun p => p.takeSleep seg))

/-- WAKE_LINE_RISE (R166). -/
def execWakeLineRise (seg : Segment) (s : State) : Host.Outcome State Fault Refusal :=
  s.become (s.part.event (fun p => p.raiseWakeLine seg))

/-- ENTER_STANDBY: the entry test of R170, and R171 where it holds. -/
def execEnterStandby (s : State) : Host.Outcome State Fault Refusal :=
  s.become (s.part.event (fun p => if p.mayStandBy then p.beginStandby else p))

end Sys2Proof.Machine
end

