-- ==== Sys2Proof/Machine/Seats.lean ====
section
/-! DEFINITION. The seat manager: the outcome and uplink of a POLL, the outcome of a PROBE and a walk's report at one seat
(04). -/

namespace Sys2Proof.Machine

/-! ### Loss of a seat (R72) -/

/-- The fields a lost seat gives up (R72). -/
def Seat.lose (s : Seat) : Seat :=
  { s with badge := none, badgeCandidate := none, badgeRepeat := 0, flashDue := false, priorityHeld := false }

/-- The floor takes the loss of seat `n` (R72, 1): the hold ends and the entry is removed, without a guard; a DELEGATE's
place may be granted again (R95). -/
def Part.floorLoses (p : Part) (f n : Nat) : Part :=
  let dropped := ((p.endHold f n).updSeat n Seat.lose).dropEntry f n
  if p.isDelegate f n then dropped.autoGrant f else dropped

/-- The loss of seat `n`, its presence already moved (R72): record, floor, queue, operation. -/
def Part.loseSeat (p : Part) (n : Nat) : Part :=
  match p.floorOf n with
  | none => (p.updSeat n Seat.lose).workLost n
  | some f => ((p.floorLoses f n).leaveQueue f n).workLost n

/-! ### Presence and the roster entry (R71, R76) -/

/-- The roster entry that the floor holding a seat's zone offers it (R76). -/
def Part.offeredEntry (p : Part) (n : Nat) : Option RosterEntry :=
  match p.floorOf n with
  | none => none
  | some f => if (p.floorAt f).state.offersRoster then (p.served f).bind (fun b => b.entryOf n) else none

/-- The consequences of a move of presence of seat `n` from `old` (R72, R76, R163). -/
def Part.presenceMoved (p : Part) (n : Nat) (old : Presence) : Part :=
  let new := (p.seatAt n).health.presence
  let lost := if old.inService && !new.inService then p.loseSeat n else p
  let seated := if old = .settling ∧ new.inService = true then lost.updSeat n (fun s => s.take (p.offeredEntry n)) else lost
  if old ≠ .cutOff ∧ new = .cutOff then seated.setProbeDue (segmentOf n) (positionOf n) else seated

/-- The score step of a POLL (R69). -/
def Part.scoreSeat (p : Part) (n : Nat) (good : Bool) : Part :=
  p.updSeat n (fun s => { s with health := s.health.score good })

/-- The move of presence after a POLL (R71). -/
def Part.moveSeat (p : Part) (n : Nat) (good : Bool) : Part :=
  (p.updSeat n (fun s => { s with health := s.health.move good p.settings.presenceSettle })).presenceMoved n
    (p.seatAt n).health.presence

/-- A hold of seat `n` ends at the floor holding its zone (R85). -/
def Part.stopHold (p : Part) (n : Nat) : Part :=
  match p.floorOf n with
  | none => p
  | some f => p.endHold f n

/-! ### What a GOOD uplink carries -/

/-- The flash carried and the microphone confirmed by a GOOD POLL whose downlink carried `img` (R68, R70). -/
def Seat.carried (img : Image) (echo : MicCommand) (s : Seat) : Seat :=
  { s with
    flashDue := s.flashDue && decide (img.lamp ≠ .refusedFlash)
    micConfirmed := decide (echo = img.mic) }

/-- A badge reading, 0 for none, against the badge settle count `need` (R78). -/
def Seat.readBadge (need : Nat) (reading : Tag) (s : Seat) : Seat :=
  if reading = 0 then { s with badge := none, badgeCandidate := none, badgeRepeat := 0 }
  else if s.badge = some reading then { s with badgeCandidate := none, badgeRepeat := 0 }
  else
    let agreeing := if s.badgeCandidate = some reading then s.badgeRepeat + 1 else 1
    if need ≤ agreeing then { s with badge := some reading, badgeCandidate := none, badgeRepeat := 0 }
    else { s with badgeCandidate := some reading, badgeRepeat := agreeing }

/-- Seat `n` has lost its admission at the LIVE floor `f` serving a PRIVATE booking (R80); a DELEGATE's place may be granted
again (R95). -/
def Part.admissionLost (p : Part) (f n : Nat) : Part :=
  let out := p.removeUnadmitted f n
  if p.isDelegate f n then out.autoGrant f else out

/-- R80's report, when the admission of seat `n` fell, `before` being what it was. -/
def Part.reportAdmission (p : Part) (n : Nat) (before : Bool) : Part :=
  match p.floorOf n with
  | none => p
  | some f =>
    if before && !p.admitted n && decide ((p.floorAt f).state = .live) && p.isPrivate f then p.follow (p.admissionLost f n)
    else p

/-- The badge reading of a GOOD POLL taken (R78, R80). -/
def Part.takeBadge (p : Part) (n : Nat) (reading : Tag) : Part :=
  (p.updSeat n (Seat.readBadge p.settings.badgeSettle reading)).reportAdmission n (p.admitted n)

/-! ### Presses (R81 to R85) -/

/-- The tagged buttons, in the order in which one uplink's presses are dispatched (R83). -/
inductive Button where
  | speak
  | next
  | cancelAll
  deriving DecidableEq, Repr

def TakenTags.get (t : TakenTags) : Button → Option PressTag
  | .speak => t.speak
  | .next => t.next
  | .cancelAll => t.cancelAll

def TakenTags.put (t : TakenTags) (b : Button) (tag : PressTag) : TakenTags :=
  match b with
  | .speak => { t with speak := some tag }
  | .next => { t with next := some tag }
  | .cancelAll => { t with cancelAll := some tag }

/-- The tag of a new press recorded (R81). -/
def Part.recordTag (p : Part) (n : Nat) (b : Button) (tag : PressTag) : Part :=
  p.updSeat n (fun s => { s with takenTags := s.takenTags.put b tag })

/-- The overrun of a new press counted (R84). -/
def Part.countOverrun (p : Part) (n : Nat) (overrun : Bool) : Part :=
  if overrun then (p.updSeat n (fun s => { s with lostPresses := sat 255 (s.lostPresses + 1) })).touchSeat n else p

/-- Seat `n` has chair buttons that act: a CHAIR unit and role CHAIR (R83, R85). -/
def Part.chairButtons (p : Part) (n : Nat) : Bool :=
  decide ((p.seatAt n).unitKind = some .chair ∧ (p.seatAt n).role = .chair)

/-- A new press of a seat in service, by its button and the floor holding its zone (R83). -/
def Part.pressAt (p : Part) (n : Nat) (b : Button) : Part :=
  match b, p.floorOf n with
  | .speak, some f => p.speakPress f n
  | .speak, none => p.adHocPress n
  | .next, some f => if p.chairButtons n then p.nextPress f n else p.flash n
  | .next, none => p.flash n
  | .cancelAll, some f => if p.chairButtons n then p.cancelAllPress f n else p.flash n
  | .cancelAll, none => p.flash n

/-- A new press dispatched (R83). -/
def Part.dispatch (p : Part) (n : Nat) (b : Button) : Part := if p.inService n then p.pressAt n b else p.flash n

/-- A new press reported to the power controller (R83, R169, R171). -/
def Part.notePress (p : Part) : Part :=
  let marked := { p with control := { p.control with idleMark := p.now } }
  if marked.control.tableState = .enteringStandby then marked.wake .press else marked

/-- One button event taken: a new press by its tag, or a repeat, which changes nothing (R81). -/
def Part.takeEvent (p : Part) (n : Nat) (b : Button) (ev : Option PressEvent) : Part :=
  match ev with
  | none => p
  | some e =>
    if (p.seatAt n).takenTags.get b = some e.tag then p
    else p.follow (((p.recordTag n b e.tag).countOverrun n e.overrun).dispatch n b).notePress

/-- The button events of one uplink (R81, R83). -/
def Part.takeEvents (p : Part) (n : Nat) (up : Uplink) : Part :=
  ((p.takeEvent n .speak up.speak).takeEvent n .next up.next).takeEvent n .cancelAll up.cancelAll

/-- A rising edge of the PRIORITY level dispatched (R85). -/
def Part.risingEdge (p : Part) (n : Nat) : Part :=
  match p.floorOf n with
  | none => p.flash n
  | some f => if p.inService n && p.chairButtons n then p.priorityPress f n else p.flash n

/-- The PRIORITY level of a GOOD POLL taken (R85). -/
def Part.takeLevel (p : Part) (n : Nat) (level : Bool) : Part :=
  let noted := p.updSeat n (fun s => { s with priorityUp := level })
  match level, (p.seatAt n).priorityUp with
  | true, false => p.follow (noted.risingEdge n)
  | false, true => p.follow (noted.stopHold n)
  | true, true => p
  | false, false => p

/-! ### A POLL's end (R86) -/

/-- Steps 1 to 3 of R86: score, operation, presence, and the hold that a failed POLL ends. -/
def Part.pollMoves (p : Part) (n : Nat) (good echoClosed : Bool) : Part :=
  let moved := ((p.scoreSeat n good).workOutcome n good echoClosed).moveSeat n good
  if good then moved else moved.stopHold n

/-- Steps 4 to 7 of R86, for a GOOD POLL whose downlink carried `img`; each press and each edge of the level is a step of its
own (R83, R89). -/
def Part.pollTakes (p : Part) (n : Nat) (img : Image) (up : Uplink) : Part :=
  (((p.follow (p.updSeat n (Seat.carried img up.echo))).takeBadge n up.badge).takeEvents n up).takeLevel n up.priorityUp

/-- A GOOD POLL of seat `n`, from the state `old` in which it was taken: the image that stands after step 3 is the one that
the later steps change (R70, R86), and the marks and flags are those of the whole event (R184, R186). -/
def Part.pollGood (old p : Part) (n : Nat) (img : Image) (up : Uplink) : Part :=
  let moved := old.follow (p.pollMoves n true (decide (up.echo = .closed)))
  old.noteChanges (moved.settle (moved.pollTakes n img up))

/-- A failed POLL of seat `n` (R86). -/
def Part.pollFailed (old p : Part) (n : Nat) : Part := old.settle (p.pollMoves n false false)

/-- A POLL that ends for a seat that is SETTLING, PRESENT or DEGRADED (R69). -/
def Part.pollEnd (old p : Part) (n : Nat) (img : Image) (o : LinkOutcome) (up : Uplink) : Part :=
  if (p.seatAt n).health.presence.polled then
    if o = .good then old.pollGood p n img up else old.pollFailed p n
  else old.settle p

/-! ### PROBEs and walks (R73 to R75) -/

/-- A record re-initialised with the kind and serial reported (R75); the guard is kept. -/
def Seat.renew (s : Seat) (r : UnitReport) : Seat :=
  { startSeat with unitKind := some r.kind, unitSerial := some r.serial, health := .fresh, guardUntil := s.guardUntil }

/-- The unit is the one the record names (R74, R75). -/
def Seat.isUnit (s : Seat) (r : UnitReport) : Bool :=
  decide (s.unitKind = some r.kind ∧ s.unitSerial = some r.serial)

/-- A GOOD PROBE at a seat record (R73, R74). -/
def Seat.probed (r : UnitReport) (s : Seat) : Seat :=
  match s.health.presence with
  | .absent => s.renew r
  | .cutOff => if s.isUnit r then { s with health := s.health.probeGood } else s.renew r
  | .settling => s
  | .present => s
  | .degraded => s

/-- A failed PROBE at a seat record (R73, R74). -/
def Part.seatProbeFailed (p : Part) (n : Nat) : Part := p.updSeat n (fun s => { s with health := s.health.probeFailed })

/-- A seat that a walk takes away from a working unit is lost first, at the presence it goes to (R75). -/
def Part.loseByWalk (p : Part) (n : Nat) (new : Presence) : Part :=
  if p.inService n then
    p.follow ((p.updSeat n (fun s => { s with health := { s.health with presence := new } })).loseSeat n)
  else p

/-- A record, not ABSENT before the walk, whose unit the walk has not found (R75). -/
def Seat.vanish (s : Seat) : Seat :=
  { s with unitKind := none, unitSerial := none, health := { s.health with presence := .absent, settleCount := 0 } }

/-- A walk's report at seat `n` (R75). -/
def Part.walkSeat (p : Part) (n : Nat) (found : Option UnitReport) : Part :=
  match found with
  | none => if (p.seatAt n).health.presence = .absent then p else (p.loseByWalk n .absent).updSeat n Seat.vanish
  | some r =>
    if decide ((p.seatAt n).health.presence ≠ .absent) && (p.seatAt n).isUnit r then p
    else (p.loseByWalk n .settling).updSeat n (fun s => s.renew r)

end Sys2Proof.Machine
end

