-- ==== Sys2Proof/Machine/BookingRequests.lean ====
section
/-! DEFINITION. The host's requests to the booking controller: SET_CLOCK, CREATE_BOOKING, CHANGE_BOOKING, RETIRE_BOOKING,
ROSTER_PUT and ROSTER_DROP (02). -/

namespace Sys2Proof.Machine

/-! ### SET_CLOCK (R24) -/

/-- A minute and a second in their ranges (R24). -/
def clockOk (minute second : Nat) : Bool := decide (minute ≤ Config.lastMinute ∧ second ≤ 59)

/-- SET_CLOCK (R24): the time events of every booking, and then the booking wake cause (R172), tested after them (the model's
choice, log entry 35). -/
def clockOwner (r : Nat × Nat) (p : Part) : Reply :=
  if clockOk r.1 r.2 then
    ({ p with clock := { valid := true, minute := r.1, second := r.2 } } : Part).evalTimes.dueTest.done
  else p.refuse .badValue

/-! ### CREATE_BOOKING (R29, R30) -/

/-- The record that CREATE_BOOKING builds, with the defaults of omitted groups (R29, R30); its handle comes with its slot. -/
def Part.created (p : Part) (r : CreateRequest) : Booking :=
  let d := p.settings.booking
  let a := r.admission.getD { confidentiality := d.confidentiality, guestCode := d.guestCode, guestMask := d.guestMask }
  { handle := p.nextHandle, origin := .host, state := .pending, zones := r.zones, startMinute := r.startMinute,
    endMinute := r.endMinute, lead := (r.margins.getD (d.lead, d.grace)).1, grace := (r.margins.getD (d.lead, d.grace)).2,
    params := r.params.getD d.params, confidentiality := a.confidentiality, guestCode := a.guestCode,
    guestMask := a.guestMask, roster := putEntries [] r.roster, floor := none, startNoted := false, closeNoted := false,
    pendingOutcome := none, retireOnCompletion := false, pendingSeat := none, outcome := none, flags := noFlags }

/-- R29's second test: every field in its range. -/
def Part.createInRange (p : Part) (r : CreateRequest) : Bool :=
  let b := p.created r
  b.zones.ok && spanOk b.startMinute b.endMinute b.lead b.grace && b.params.ok && r.roster.all (p.entryOk b.zones) &&
    rosterOk r.roster && decide (p.clock.minute < b.endMinute)

/-- The refusal of a CREATE_BOOKING, if any: R29's tests in their order. -/
def Part.createRefusal (p : Part) (r : CreateRequest) : Option Status :=
  let b := p.created r
  if p.clock.valid = false then some .notAllowed
  else if p.createInRange r = false then some .badValue
  else if p.freeSlot = none then some .tableFull
  else if p.rosterFree < r.roster.length then some .tableFull
  else if p.overlapConflict 0 b.zones b.occStart b.occEnd then some .conflict
  else none

/-- The times of a new booking (R30): WAITING when its occupation start has passed, `start_noted` when `start` has, and then
R28's test (log entry 21). -/
def Part.newTimes (p : Part) (h : Nat) : Part :=
  match p.bookingOf h with
  | none => p
  | some b =>
    if b.occStart ≤ p.clock.minute then
      (p.updBooking h (fun b => { b with state := .waiting, startNoted := decide (b.startMinute ≤ p.clock.minute) })).runTasks
        [.tryBegin h]
    else p

/-- A CREATE_BOOKING that has passed its tests (R30). -/
def Part.create (p : Part) (b : Booking) : Part :=
  (((p.addBooking b).bumpAll b.zones b.occStart b.occEnd).newTimes b.handle).dueTest

/-- CREATE_BOOKING's body: the handle and the slot. -/
def Part.createdBody (p : Part) : List Byte := bytes 2 p.nextHandle ++ byte (p.freeSlot.getD 0)

def createOwner (r : CreateRequest) (p : Part) : Reply :=
  match p.createRefusal r with
  | some st => p.refuse st
  | none => (p.create (p.created r)).doneWith p.createdBody

/-! ### What a booking's state allows (R32) -/

/-- The span group (R32's table): the refusal, if any. -/
def spanRefusal : BookingState → Option Status
  | .pending => none
  | .preparing => some .busy
  | .waiting => some .notAllowed
  | .ready => some .notAllowed
  | .live => some .notAllowed
  | .closing => some .notAllowed
  | .ended => some .notAllowed

/-- Every other group and the roster (R32's table). -/
def groupRefusal : BookingState → Option Status
  | .pending => none
  | .waiting => none
  | .ready => none
  | .live => none
  | .preparing => some .busy
  | .closing => some .notAllowed
  | .ended => some .notAllowed

/-! ### CHANGE_BOOKING (R32 to R35) -/

/-- The booking after the change. -/
def Booking.changed (b : Booking) (r : ChangeRequest) : Booking :=
  let span := r.span.getD { zones := b.zones, startMinute := b.startMinute, lead := b.lead }
  let ending := r.ending.getD { endMinute := b.endMinute, grace := b.grace }
  let a := r.admission.getD
    { confidentiality := b.confidentiality, guestCode := b.guestCode, guestMask := b.guestMask }
  { b with
    zones := span.zones, startMinute := span.startMinute, lead := span.lead, endMinute := ending.endMinute
    grace := ending.grace, params := r.params.getD b.params, confidentiality := a.confidentiality
    guestCode := a.guestCode, guestMask := a.guestMask }

/-- The span group or the end group is named. -/
def ChangeRequest.movesTimes (r : ChangeRequest) : Bool := r.span.isSome || r.ending.isSome

/-- R32's second test: BUSY before NOT_ALLOWED. -/
def changeStateRefusal (b : Booking) (r : ChangeRequest) : Option Status :=
  let span := if r.span.isSome then spanRefusal b.state else none
  let others := if r.ending.isSome || r.params.isSome || r.admission.isSome then groupRefusal b.state else none
  if span = some .busy ∨ others = some .busy then some .busy
  else if span = some .notAllowed ∨ others = some .notAllowed then some .notAllowed
  else none

/-- The end after the change lies ahead (R32): a different `end`, and `end` + `grace` when the end group is named. -/
def Part.endAhead (p : Part) (b c : Booking) (r : ChangeRequest) : Bool :=
  (decide (c.endMinute = b.endMinute) || decide (p.clock.minute < c.endMinute)) &&
    (r.ending.isNone || decide (p.clock.minute < c.occEnd))

/-- Changed zones contain the seat of every roster entry (R32). -/
def Part.rosterInside (p : Part) (b c : Booking) : Bool :=
  decide (c.zones = b.zones) || c.roster.all (fun e => p.seatIn c.zones e.seat)

/-- R32's third test: every value and combination judged as the change would leave them, whatever groups are named. -/
def Part.changeInRange (p : Part) (b : Booking) (r : ChangeRequest) : Bool :=
  let c := b.changed r
  c.zones.ok && spanOk c.startMinute c.endMinute c.lead c.grace && c.params.ok && p.endAhead b c r && p.rosterInside b c

/-- The refusal of a CHANGE_BOOKING of record `b`, if any: R32's tests 2 to 4. -/
def Part.changeRefusal (p : Part) (b : Booking) (r : ChangeRequest) : Option Status :=
  match changeStateRefusal b r with
  | some st => some st
  | none =>
    let c := b.changed r
    if p.changeInRange b r = false then some .badValue
    else if r.movesTimes && p.overlapConflict b.handle c.zones c.occStart c.occEnd then some .conflict
    else none

/-- The lifetime became one that may expire entries at once (R124). -/
def lifetimeLowered (old new : FloorParams) : Bool :=
  decide (new.lifetime ≠ 0) && (decide (old.lifetime = 0) || decide (new.lifetime < old.lifetime))

/-- The changes of parameters after which R95 is tested (R108, R109). -/
def FloorParams.opensPlaces (old new : FloorParams) : Bool :=
  decide (old.limit < new.limit) || (new.grantsItself && !old.grantsItself)

/-- New parameters copied into the floor, and what the timers, the limit and the queue do about it (R34, R107 to R109, R124,
R125); auto grant stands at the end of the step. -/
def Part.copyParams (p : Part) (f : Nat) (old new : FloorParams) (now : Bool) : Part :=
  let copied := p.updFloor f (fun fl => { fl with params := some new })
  let timed := (copied.timerChange f old new now).enforceLimit f
  let lived := if lifetimeLowered old new then timed.expireQueue f else timed
  (if new.queueCap < old.queueCap then lived.trimQueue f else lived).touchFloor f

/-- A change reaches the floor of a READY or LIVE booking (R34, R35); R95 is tested when a delegate closed or a place
opened. -/
def Part.changeAtFloor (p : Part) (f : Nat) (old new : FloorParams) (r : ChangeRequest) : Part :=
  let copied := if r.params.isSome then p.copyParams f old new r.now else p
  let admitted := if r.admission.isSome then copied.enforceAdmission f else copied
  if (admitted.floorAt f).delegates < (p.floorAt f).delegates ∨ FloorParams.opensPlaces old new = true then
    admitted.autoGrant f
  else admitted

/-- A HOST booking's span or zones changed (R33). -/
def Booking.moved (b c : Booking) : Bool :=
  decide (b.origin = .host) && (decide (c.zones ≠ b.zones) || decide (c.occStart ≠ b.occStart) || decide (c.occEnd ≠ b.occEnd))

/-- A CHANGE_BOOKING that has passed its tests (R33). -/
def Part.change (p : Part) (b : Booking) (r : ChangeRequest) : Part :=
  let c := b.changed r
  let written := p.updBooking b.handle (fun _ => c)
  let atFloor :=
    match b.floor with
    | none => written
    | some f => written.changeAtFloor f b.params c.params r
  let bumped := if b.moved c then atFloor.bumpAll c.zones c.occStart c.occEnd else atFloor
  ((bumped.runTasks (timeEvents b.handle)).dueTest).touchBooking b.handle

def changeOwner (r : ChangeRequest) (p : Part) : Reply :=
  match p.bookingOf r.handle with
  | none => p.refuse .noRecord
  | some b =>
    match p.changeRefusal b r with
    | some st => p.refuse st
    | none => (p.change b r).done

/-! ### RETIRE_BOOKING (R40) -/

/-- A booking that stands outside every operation, retired (R40). -/
def Part.retireIdle (p : Part) (b : Booking) (keep : Bool) : Reply :=
  if keep then (p.updBooking b.handle (fun b => b.finish .endedEarly)).done else (p.freeBooking b.handle).done

/-- A READY or LIVE booking retired: close-out begins (R40, R56). -/
def Part.retireRunning (p : Part) (b : Booking) (keep : Bool) : Reply :=
  ((p.updBooking b.handle (fun b =>
    { b with pendingOutcome := some .endedEarly, retireOnCompletion := !keep })).runTasks [.closeOut b.handle]).accepted

/-- A PREPARING booking retired: apply is aborted (R55), and the release is chained (R62). -/
def Part.retirePreparing (p : Part) (b : Booking) (keep : Bool) : Reply :=
  match b.floor with
  | none => p.done
  | some f => ((p.abortApply f b keep).runTasks [.chain 1]).done

/-- R40's table. -/
def Part.retire (p : Part) (b : Booking) (keep : Bool) : Reply :=
  match b.state with
  | .pending => p.retireIdle b keep
  | .waiting => p.retireIdle b keep
  | .preparing => p.retirePreparing b keep
  | .ready => p.retireRunning b keep
  | .live => p.retireRunning b keep
  | .closing =>
    if keep then p.done else (p.updBooking b.handle (fun b => { b with retireOnCompletion := true })).accepted
  | .ended => if keep then p.done else (p.freeBooking b.handle).done

def retireOwner (r : Nat × Bool) (p : Part) : Reply :=
  match p.bookingOf r.1 with
  | none => p.refuse .noRecord
  | some b => p.retire b r.2

/-! ### Rosters (R36 to R39) -/

/-- A booking whose roster changes reach its seats at once (R39). -/
def BookingState.reachesSeats : BookingState → Bool
  | .ready => true
  | .live => true
  | .pending => false
  | .waiting => false
  | .preparing => false
  | .closing => false
  | .ended => false

/-- The changed seats of a READY or LIVE booking written from its roster (R39, R76). -/
def Part.writeChanged (p : Part) (b : Booking) (seats : List Nat) : Part :=
  { p with seats := mapFrom (fun n s =>
      if decide (n ∈ seats) && p.seatIn b.zones n then s.take (b.entryOf n) else s) 1 p.seats }

/-- The seats in the order in which their role changes are reported (R110): those that lose CHAIR, then the others, each in
rising order. -/
def Part.reportOrder (old p : Part) (seats : List Nat) : List Nat :=
  let loses := fun n => decide ((old.seatAt n).role = .chair) && decide ((p.seatAt n).role ≠ .chair)
  (seats.filter loses) ++ seats.filter (fun n => !loses n)

/-- The change of the role of seat `n` since `old` reported to the floor, as a step of its own (R77, R110). -/
def Part.tellRole (old q : Part) (f n : Nat) : Part :=
  if (old.seatAt n).role = (q.seatAt n).role then q else q.follow (q.roleChanged f n (old.seatAt n).role)

/-- The named seats written, and an urgent exchange asked for each PRESENT or DEGRADED one, whether or not its image changed
(R39). -/
def Part.seatsTakeRoster (p : Part) (b : Booking) (seats : List Nat) : Part :=
  p.follow ((p.writeChanged b seats).requestSeats (seats.filter (fun n => p.seatIn b.zones n && p.inService n)))

/-- A roster change reaches the seats, and by them the floor and the queue (R39, R77, R80); `old` is the part
before the request, `p` the one with the new roster in the record. -/
def Part.rosterToSeats (p old : Part) (f : Nat) (b : Booking) (seats : List Nat) : Part :=
  let rising := seatNumbers.filter (fun n => decide (n ∈ seats))
  let written := p.seatsTakeRoster b rising
  let told := (old.reportOrder written rising).foldl (fun q n => old.tellRole q f n) written
  rising.foldl (fun q n => q.reportAdmission n (old.admitted n)) told

/-- A changed roster written to its booking, and to the seats of a READY or LIVE one (R37 to R39). -/
def Part.setRoster (p : Part) (b : Booking) (roster : List RosterEntry) (seats : List Nat) : Part :=
  let written := p.updBooking b.handle (fun b => { b with roster := roster })
  match b.floor with
  | none => written
  | some f => if b.state.reachesSeats then written.rosterToSeats p f { b with roster := roster } seats else written

/-- How many seats of a request the roster does not hold (R36, R37). -/
def newSeats (b : Booking) (entries : List RosterEntry) : Nat :=
  (entries.filter (fun e => (b.entryOf e.seat).isNone)).length

/-- The refusal of a ROSTER_PUT of record `b`, if any: R37's tests 2 to 5. -/
def Part.putRefusal (p : Part) (b : Booking) (entries : List RosterEntry) : Option Status :=
  match groupRefusal b.state with
  | some st => some st
  | none =>
    if (noRepeats (entries.map (fun e => e.seat)) && entries.all (p.entryOk b.zones)) = false then some .badValue
    else if rosterOk (putEntries b.roster entries) = false then some .badValue
    else if p.rosterFree < newSeats b entries then some .tableFull
    else none

def putOwner (r : Nat × List RosterEntry) (p : Part) : Reply :=
  match p.bookingOf r.1 with
  | none => p.refuse .noRecord
  | some b =>
    match p.putRefusal b r.2 with
    | some st => p.refuse st
    | none =>
      ((p.setRoster b (putEntries b.roster r.2) (r.2.map (fun e => e.seat))).touchBooking b.handle).done

/-- The refusal of a ROSTER_DROP of record `b`, if any (R38). -/
def dropRefusal (b : Booking) (seats : List Nat) : Option Status :=
  match groupRefusal b.state with
  | some st => some st
  | none => if seats.all seatFits then none else some .badValue

/-- The roster without the named seats (R38). -/
def dropEntries (roster : List RosterEntry) (seats : List Nat) : List RosterEntry :=
  roster.filter (fun e => decide (e.seat ∉ seats))

def dropOwner (r : Nat × List Nat) (p : Part) : Reply :=
  match p.bookingOf r.1 with
  | none => p.refuse .noRecord
  | some b =>
    match dropRefusal b r.2 with
    | some st => p.refuse st
    | none =>
      (p.setRoster b (dropEntries b.roster r.2) (r.2.filter (fun n => (b.entryOf n).isSome))).done

/-! ### The commands -/

/-- SET_CLOCK (R24). -/
def execSetClock (body : List Byte) (s : State) : Host.Outcome State Fault Refusal :=
  s.become (s.part.request 0x09 (parseClock body) clockOwner)

/-- CREATE_BOOKING (R29, R30). -/
def execCreateBooking (body : List Byte) (s : State) : Host.Outcome State Fault Refusal :=
  s.become (s.part.request 0x10 (parseCreate body) createOwner)

/-- CHANGE_BOOKING (R32 to R35). -/
def execChangeBooking (body : List Byte) (s : State) : Host.Outcome State Fault Refusal :=
  s.become (s.part.request 0x11 (parseChange body) changeOwner)

/-- RETIRE_BOOKING (R40). -/
def execRetireBooking (body : List Byte) (s : State) : Host.Outcome State Fault Refusal :=
  s.become (s.part.request 0x12 (parseRetire body) retireOwner)

/-- ROSTER_PUT (R37). -/
def execRosterPut (body : List Byte) (s : State) : Host.Outcome State Fault Refusal :=
  s.become (s.part.request 0x13 (parseRosterPut body) putOwner)

/-- ROSTER_DROP (R38). -/
def execRosterDrop (body : List Byte) (s : State) : Host.Outcome State Fault Refusal :=
  s.become (s.part.request 0x14 (parseRosterDrop body) dropOwner)

end Sys2Proof.Machine
end

