-- ==== Sys2Proof/Machine/FloorRequests.lean ====
section
/-! DEFINITION. The host's requests to the floor controller and the queue manager: GRANT, CLOSE_MIC, ENQUEUE, WITHDRAW,
MOVE_ENTRY and CANCEL_FLOOR (05 section 5.5, 06), and the timed events at a floor: SPEAKING_WARNING, ALLOWANCE_EXPIRY,
LIFETIME_EXPIRY. -/

namespace Sys2Proof.Machine

/-- The table is AWAKE and floor `f` is LIVE, suspended only where `whileSuspended` allows it (R10, R175). -/
def Part.floorTakes (p : Part) (f : Nat) (whileSuspended : Bool) : Bool :=
  decide (p.control.tableState = .awake) && decide ((p.floorAt f).state = .live) &&
    (whileSuspended || !(p.floorAt f).suspended)

/-- The floor that takes a request for seat `n`: the one holding its zone, where R10 lets it (R10, R175). -/
def Part.takingFloor (p : Part) (n : Nat) (whileSuspended : Bool) : Option Nat :=
  match p.floorOf n with
  | none => none
  | some f => if p.floorTakes f whileSuspended then some f else none

/-- A PRIVATE booking to which seat `n` is not admitted. -/
def Part.shutOut (p : Part) (f n : Nat) : Bool := p.isPrivate f && !p.admitted n

/-! ### GRANT (R101) -/

/-- GRANT's steps 5 to 9, at the floor. -/
def Part.grantAt (p : Part) (f n : Nat) (replace : Bool) : Reply :=
  if (p.openEntry f n).isSome then p.done
  else if (p.seatAt n).role = .chair then (p.openSeat f n).done
  else if (p.floorAt f).delegates < (p.floorAt f).par.limit then (p.openSeat f n).done
  else if replace then
    match (p.floorAt f).oldestDelegate with
    | none => p.refuse .floorFull
    | some oldest => ((p.forceClose f oldest).openSeat f n).done
  else p.refuse .floorFull

def grantOwner (r : Nat × Bool) (p : Part) : Reply :=
  if seatFits r.1 = false then p.refuse .badValue
  else
    match p.takingFloor r.1 false with
    | none => p.refuse .notAllowed
    | some f =>
      if p.inService r.1 = false then p.refuse .notAllowed
      else if p.shutOut f r.1 then p.refuse .notAdmitted
      else p.grantAt f r.1 r.2

/-! ### CLOSE_MIC (R102) -/

def closeOwner (n : Nat) (p : Part) : Reply :=
  if seatFits n = false then p.refuse .badValue
  else
    match p.takingFloor n true with
    | none => p.refuse .notAllowed
    | some f => if (p.openEntry f n).isSome then (p.closeThenGrant f n false).done else p.done

/-! ### ENQUEUE (R118) -/

/-- ENQUEUE's steps 5 to 7, at the floor and its queue. -/
def Part.enqueueAt (p : Part) (f n : Nat) (cls : QueueClass) : Reply :=
  if (p.openEntry f n).isSome then p.refuse .notAllowed
  else if p.isQueued f n then p.doneWith (byte (p.queuePosition f n))
  else
    match p.enqueueSeat f n cls with
    | none => p.refuse .queueFull
    | some joined => joined.doneWith (byte (joined.queuePosition f n))

def enqueueOwner (r : Nat × Option QueueClass) (p : Part) : Reply :=
  if seatFits r.1 = false then p.refuse .badValue
  else
    match p.takingFloor r.1 false with
    | none => p.refuse .notAllowed
    | some f =>
      if p.inService r.1 = false ∨ (p.seatAt r.1).role = .chair then p.refuse .notAllowed
      else if p.shutOut f r.1 then p.refuse .notAdmitted
      else p.enqueueAt f r.1 (r.2.getD (p.seatAt r.1).role.queueClass)

/-! ### WITHDRAW (R120), MOVE_ENTRY (R121), CANCEL_FLOOR (R103) -/

def withdrawOwner (n : Nat) (p : Part) : Reply :=
  if seatFits n = false then p.refuse .badValue
  else
    match p.takingFloor n true with
    | none => p.refuse .notAllowed
    | some f => if p.isQueued f n then (p.leaveQueue f n).done else p.done

def moveOwner (r : Nat × Nat) (p : Part) : Reply :=
  if (seatFits r.1 && decide (1 ≤ r.2 ∧ r.2 ≤ 32)) = false then p.refuse .badValue
  else
    match p.takingFloor r.1 true with
    | none => p.refuse .notAllowed
    | some f =>
      if p.isQueued f r.1 then
        let moved := p.moveQueued f r.1 r.2
        moved.doneWith (byte (moved.queuePosition f r.1))
      else p.refuse .notAllowed

def cancelOwner (f : Nat) (p : Part) : Reply :=
  if floorFits f = false then p.refuse .badValue
  else if p.floorTakes f true then (p.cancelAll f).done
  else p.refuse .notAllowed

/-! ### Timed events at a floor -/

/-- The floor is LIVE: its entries' timers run (R104 to R106, R123). -/
def Part.isLive (p : Part) (f : Nat) : Bool := decide ((p.floorAt f).state = .live)

/-! ### The commands -/

/-- GRANT (R101). -/
def execGrant (body : List Byte) (s : State) : Host.Outcome State Fault Refusal :=
  s.become (s.part.request 0x20 (parseGrant body) grantOwner)

/-- CLOSE_MIC (R102). -/
def execCloseMic (body : List Byte) (s : State) : Host.Outcome State Fault Refusal :=
  s.become (s.part.request 0x21 (parseByte body) closeOwner)

/-- ENQUEUE (R118). -/
def execEnqueue (body : List Byte) (s : State) : Host.Outcome State Fault Refusal :=
  s.become (s.part.request 0x22 (parseEnqueue body) enqueueOwner)

/-- WITHDRAW (R120). -/
def execWithdraw (body : List Byte) (s : State) : Host.Outcome State Fault Refusal :=
  s.become (s.part.request 0x23 (parseByte body) withdrawOwner)

/-- MOVE_ENTRY (R121). -/
def execMoveEntry (body : List Byte) (s : State) : Host.Outcome State Fault Refusal :=
  s.become (s.part.request 0x24 (parseMove body) moveOwner)

/-- CANCEL_FLOOR (R103). -/
def execCancelFloor (body : List Byte) (s : State) : Host.Outcome State Fault Refusal :=
  s.become (s.part.request 0x25 (parseByte body) cancelOwner)

/-- SPEAKING_WARNING: the entry of `seat` is warned when its remaining time has reached the warning lead, and expires in the
same step where that lead is 0 (R105, R106). -/
def execSpeakingWarning (floor seat : Nat) (s : State) : Host.Outcome State Fault Refusal :=
  s.become (s.part.event (fun p => if p.isLive floor then p.takeWarning floor seat else p))

/-- ALLOWANCE_EXPIRY: the entry of `seat` expires when its remaining time has reached 0 (R106). -/
def execAllowanceExpiry (floor seat : Nat) (s : State) : Host.Outcome State Fault Refusal :=
  s.become (s.part.event (fun p => if p.isLive floor then p.expireEntry floor seat else p))

/-- LIFETIME_EXPIRY: the entries of the floor's queue that have waited its lifetime leave it (R123). -/
def execLifetimeExpiry (floor : Nat) (s : State) : Host.Outcome State Fault Refusal :=
  s.become (s.part.event (fun p => p.expireQueue floor))

end Sys2Proof.Machine
end

