-- ==== Sys2Proof/Machine/Wall.lean ====
section
/-! DEFINITION. The units of WALL: the display units (R134, R142), the partition sensors (R3 to R6, R13) and the ambient
sensor (R143, R144), at the end of an exchange, at a probe and at a walk. -/

namespace Sys2Proof.Machine

/-- A position on WALL whose unit has been cut off is probed after its interval (R163). -/
def Part.wallMoved (p : Part) (pos : Nat) (old : Presence) : Part :=
  if old ≠ .cutOff ∧ p.presenceAt .wall pos = .cutOff then p.setProbeDue .wall pos else p

/-! ### Displays -/

/-- A SHOW's outcome at a display record (R134, R142): score and presence, then `shown` when the values carried are the
values that stand. -/
def Display.showEnd (need : Nat) (good : Bool) (content : Effective) (drive : Nat) (d : Display) : Display :=
  let health := (d.health.score good).move good need
  let kept := d.shown && (!d.health.presence.inService || health.presence.inService)
  { d with
    health := health
    shown := if good then decide (content = d.content ∧ drive = d.drive) else kept }

/-- A SHOW of display `d` ended (R142, R163). -/
def Part.showEnded (p : Part) (pos d : Nat) (good : Bool) (content : Effective) (drive : Nat) : Part :=
  let old := (p.displayAt d).health.presence
  if old.polled then
    (p.updDisplay d (Display.showEnd p.settings.presenceSettle good content drive)).wallMoved pos old
  else p

/-- A display's unit fields taken from a unit at `pos` (R134). -/
def Display.renew (pos : Nat) (serial : Serial) (d : Display) : Display :=
  { d with unitPosition := some pos, unitSerial := some serial, health := .fresh, shown := false }

/-- A walk found no unit for a display (R134). -/
def Display.vanish (d : Display) : Display :=
  { d with
    unitPosition := none, unitSerial := none, shown := false
    health := { d.health with presence := .absent, settleCount := 0 } }

/-- A display's record has this unit at this place and is not ABSENT (R134). -/
def Display.isUnit (d : Display) (pos : Nat) (serial : Serial) : Bool :=
  decide (d.health.presence ≠ .absent ∧ d.unitPosition = some pos ∧ d.unitSerial = some serial)

/-- A walk's report for a display (R134). -/
def Display.walked (found : Option (Nat × Serial)) (d : Display) : Display :=
  match found with
  | none => d.vanish
  | some (pos, serial) => if d.isUnit pos serial then d else d.renew pos serial

/-- A GOOD PROBE of a display at `pos` (R134, R164). -/
def Display.probed (pos : Nat) (serial : Serial) (d : Display) : Display :=
  match d.health.presence with
  | .absent => d.renew pos serial
  | .cutOff => if d.unitSerial = some serial then { d with health := d.health.probeGood } else d.renew pos serial
  | .settling => d
  | .present => d
  | .degraded => d

/-! ### Partition sensors -/

/-- A settle in progress dropped (R4, R6). -/
def Partition.clear (q : Partition) : Partition := { q with candidate := none, repeatCount := 0 }

/-- A reading of a partition sensor against the partition settle count `need` (R4). -/
def Partition.read (need : Nat) (reading : WallState) (q : Partition) : Partition :=
  if reading = q.state then q.clear
  else
    let agreeing := if q.candidate = some reading then q.repeatCount + 1 else 1
    if need ≤ agreeing then { q.clear with state := reading } else { q with candidate := some reading, repeatCount := agreeing }

/-- A SENSE's outcome at a partition record (R3, R4, R6); `reading` is none for a failed exchange. -/
def Partition.sensed (needPresence needWall : Nat) (reading : Option WallState) (q : Partition) : Partition :=
  let scored := { q with health := (q.health.score reading.isSome).move reading.isSome needPresence }
  match reading with
  | some r => scored.read needWall r
  | none => if scored.health.presence = .cutOff then scored.clear else scored

/-- The FLOOR condition of a settled change inside a floor's zones (R13). -/
def Part.noteInside (p : Part) (k : Nat) : Part :=
  if floorNumbers.any (fun f => (p.floorAt f).holds k && (p.floorAt f).holds (k + 1)) then p.raise .floor else p

/-- The consequences of a settled change of partition Pk (R5). -/
def Part.partitionSettled (p : Part) (k : Nat) : Part := (p.evalSuspension.noteInside k).wake .partition

/-- A SENSE of partition Pk's sensor ended (R4, R5). -/
def Part.partitionSensed (p : Part) (pos k : Nat) (reading : Option WallState) : Part :=
  let old := p.partitionAt k
  if old.health.presence.polled then
    let sensed := (p.updPartition k (Partition.sensed p.settings.presenceSettle p.settings.partitionSettle reading)).wallMoved
      pos old.health.presence
    if (sensed.partitionAt k).state = old.state then sensed else sensed.partitionSettled k
  else p

/-- A partition's sensor fields taken from a unit at `pos` (R3). -/
def Partition.renew (pos : Nat) (serial : Serial) (q : Partition) : Partition :=
  { q.clear with sensorPosition := some pos, sensorSerial := some serial, health := .fresh }

/-- A walk found no sensor for a partition (R3). -/
def Partition.vanish (q : Partition) : Partition :=
  { q.clear with
    sensorPosition := none, sensorSerial := none
    health := { q.health with presence := .absent, settleCount := 0 } }

/-- A partition's record has this sensor at this place (R3). -/
def Partition.isUnit (q : Partition) (pos : Nat) (serial : Serial) : Bool :=
  decide (q.health.presence ≠ .absent ∧ q.sensorPosition = some pos ∧ q.sensorSerial = some serial)

/-- A walk's report for a partition (R3). -/
def Partition.walked (found : Option (Nat × Serial)) (q : Partition) : Partition :=
  match found with
  | none => q.vanish
  | some (pos, serial) => if q.isUnit pos serial then q else q.renew pos serial

/-- A GOOD PROBE of a partition's sensor at `pos` (R3, R164). -/
def Partition.probed (pos : Nat) (serial : Serial) (q : Partition) : Partition :=
  match q.health.presence with
  | .absent => q.renew pos serial
  | .cutOff => if q.sensorSerial = some serial then { q with health := q.health.probeGood } else q.renew pos serial
  | .settling => q
  | .present => q
  | .degraded => q

/-! ### The ambient sensor -/

/-- A SENSE's outcome at the ambient record (R143, R144); `reading` is none for a failed exchange. -/
def Part.ambientSensed (p : Part) (pos : Nat) (reading : Option Nat) : Part :=
  let old := p.ambient.health.presence
  if old.polled then
    let health := (p.ambient.health.score reading.isSome).move reading.isSome p.settings.presenceSettle
    let scored : Part := { p with ambient := { p.ambient with health := health } }
    let read : Part :=
      match reading with
      | none => scored
      | some r => ({ scored with ambient := { scored.ambient with lastReading := some r } } : Part).evalBand
    read.wallMoved pos old
  else p

/-- The ambient sensor's fields taken from a unit at `pos` (R143). -/
def Ambient.renew (pos : Nat) (serial : Serial) (a : Ambient) : Ambient :=
  { a with sensorPosition := some pos, sensorSerial := some serial, health := .fresh }

/-- A walk found no ambient sensor (R143). -/
def Ambient.vanish (a : Ambient) : Ambient :=
  { a with
    sensorPosition := none, sensorSerial := none
    health := { a.health with presence := .absent, settleCount := 0 } }

/-- A walk's report for the ambient sensor (R143). -/
def Ambient.walked (found : Option (Nat × Serial)) (a : Ambient) : Ambient :=
  match found with
  | none => a.vanish
  | some (pos, serial) =>
    if a.health.presence ≠ .absent ∧ a.sensorPosition = some pos ∧ a.sensorSerial = some serial then a
    else a.renew pos serial

/-- A GOOD PROBE of the ambient sensor at `pos` (R143, R164). -/
def Ambient.probed (pos : Nat) (serial : Serial) (a : Ambient) : Ambient :=
  match a.health.presence with
  | .absent => a.renew pos serial
  | .cutOff => if a.sensorSerial = some serial then { a with health := a.health.probeGood } else a.renew pos serial
  | .settling => a
  | .present => a
  | .degraded => a

/-! ### Probes of WALL -/

/-- The unit fits the role it was probed in (R164). -/
def WallRole.fits (r : WallRole) (u : UnitReport) : Bool :=
  match r with
  | .display _ => decide (u.kind = .display)
  | .ambient => decide (u.kind = .ambient)
  | .partition k => decide (u.kind = .partition ∧ u.partition.toNat = k)

/-- The lowest display without a unit (R164). -/
def Part.openDisplay (p : Part) : Option Nat := displayNumbers.find? (fun d => (p.displayAt d).unitPosition.isNone)

/-- The role a unit takes at a position without one (R164). -/
def Part.roleForProbe (p : Part) (u : UnitReport) : Option WallRole :=
  match u.kind with
  | .display => p.openDisplay.map .display
  | .ambient => if p.ambient.sensorPosition.isNone then some .ambient else none
  | .partition =>
    if 1 ≤ u.partition.toNat ∧ u.partition.toNat ≤ 3 ∧ (p.partitionAt u.partition.toNat).sensorPosition = none then
      some (.partition u.partition.toNat)
    else none
  | .delegate => none
  | .chair => none

/-- A GOOD PROBE reported to the owner of a role (R164). -/
def Part.probeRole (p : Part) (r : WallRole) (pos : Nat) (serial : Serial) : Part :=
  match r with
  | .display d => p.updDisplay d (Display.probed pos serial)
  | .ambient => { p with ambient := p.ambient.probed pos serial }
  | .partition k => p.updPartition k (Partition.probed pos serial)

/-- A failed PROBE reported to the owner of a role (R164): it clears the count of a CUT_OFF unit. -/
def Part.probeRoleFailed (p : Part) (r : WallRole) : Part :=
  match r with
  | .display d => p.updDisplay d (fun d => { d with health := d.health.probeFailed })
  | .ambient => { p with ambient := { p.ambient with health := p.ambient.health.probeFailed } }
  | .partition k => p.updPartition k (fun q => { q with health := q.health.probeFailed })

end Sys2Proof.Machine
end

