-- ==== Sys2Proof/Machine/Walks.lean ====
section
/-! DEFINITION. The walk of a segment: its line break, its offers and parkings, the placement rule and its report (08 section
8.4). -/

namespace Sys2Proof.Machine

/-! ### Placement (R159) -/

def WallRole.isDisplay : WallRole → Bool
  | .display _ => true
  | .ambient => false
  | .partition _ => false

/-- The role a unit of WALL is kept in, with the roles placed so far; none for an extra (R159). -/
def placeOnWall (roles : List WallRole) (u : UnitReport) : Option WallRole :=
  match u.kind with
  | .display =>
    if (roles.filter WallRole.isDisplay).length < 8 then some (.display ((roles.filter WallRole.isDisplay).length + 1))
    else none
  | .ambient => if WallRole.ambient ∈ roles then none else some .ambient
  | .partition =>
    if 1 ≤ u.partition.toNat ∧ u.partition.toNat ≤ 3 ∧ WallRole.partition u.partition.toNat ∉ roles then
      some (.partition u.partition.toNat)
    else none
  | .delegate => none
  | .chair => none

/-- A unit that a seat segment keeps (R159). -/
def isSeatKind : UnitKind → Bool
  | .delegate => true
  | .chair => true
  | .display => false
  | .ambient => false
  | .partition => false

/-- The walk context after a unit has been kept at the offered position; none when the unit is an extra (R159). -/
def WalkContext.keep (w : WalkContext) (seg : Segment) (u : UnitReport) : Option WalkContext :=
  let next := { w with position := w.position + 1, attempts := 0, kept := w.kept ++ [u] }
  match seg with
  | .left => if isSeatKind u.kind then some next else none
  | .right => if isSeatKind u.kind then some next else none
  | .wall => (placeOnWall w.roles u).map (fun r => { next with roles := w.roles ++ [r] })

/-! ### Beginning -/

/-- The context of a walk in its line break (R159). -/
def walkInBreak : WalkContext := { phase := .lineBreak, position := 0, attempts := 0, kept := [], roles := [] }

/-- A segment that has become WALKING and whose line is free begins its walk (R159, R160). -/
def Engine.beginWalk (e : Engine) : Engine :=
  { e with urgent := [], walk := some walkInBreak, unitsFound := 0, unitsParked := 0, walkOverflow := false, wakeLine := false }

/-- The walk of a segment stands in a phase, with nothing on the line. -/
def Engine.walkIn (e : Engine) (phase : WalkPhase) : Bool :=
  decide (e.state = .walking) && decide (e.line = none) && decide (e.walk.map (fun w => w.phase) = some phase)

def Part.takeWalkBegin (p : Part) (seg : Segment) : Part :=
  if (p.engine seg).walkIn .toBegin then p.updEngine seg Engine.beginWalk else p

/-- ASSIGN offers the walk's position (R159). -/
def Part.offer (p : Part) (seg : Segment) (w : WalkContext) : Part :=
  (p.updEngine seg (fun e => { e with walk := some { w with phase := .offering } })).send seg (.assign w.position)

/-- The line break ends and position 1 is offered (R159). -/
def Part.takeBreakEnd (p : Part) (seg : Segment) : Part :=
  if (p.engine seg).walkIn .lineBreak then p.offer seg { walkInBreak with position := 1 } else p

/-! ### The report (R160) -/

/-- The unit a walk of WALL placed in a role: its position and serial. -/
def WalkContext.foundAs (w : WalkContext) (r : WallRole) : Option (Nat × Serial) :=
  match w.roles.findIdx? (fun x => decide (x = r)) with
  | none => none
  | some i => (w.kept[i]?).map (fun u => (i + 1, u.serial))

/-- The report of a walk of LEFT or RIGHT to the seat manager (R75, R160). The seats are acted on by rising position, each
taken whole before the next, so an auto grant may reach a seat that the same report then loses: the model's choice (log entry
33). -/
def Part.reportSeats (p : Part) (seg : Segment) (w : WalkContext) : Part :=
  (List.range' 1 48).foldl (fun q pos => q.walkSeat (seatOn seg pos) (nth w.kept pos)) p

/-- The report of a walk of WALL to the display controller and the layout monitor (R3, R134, R143, R160). -/
def Part.reportWall (p : Part) (w : WalkContext) : Part :=
  { p with
    displays := mapFrom (fun d r => Display.walked (w.foundAs (.display d)) r) 1 p.displays
    ambient := p.ambient.walked (w.foundAs .ambient)
    partitions := mapFrom (fun k r => Partition.walked (w.foundAs (.partition k)) r) 1 p.partitions }

def Part.reportWalk (p : Part) (seg : Segment) (w : WalkContext) : Part :=
  match seg with
  | .left => p.reportSeats .left w
  | .right => p.reportSeats .right w
  | .wall => p.reportWall w

/-- The position table of WALL after a walk: the roles placed, and none beyond them (R150, R160). -/
def rolesAfter (n : Nat) (roles : List WallRole) : List (Option WallRole) :=
  (List.range n).map (fun i => roles[i]?)

/-- The engine's own fields at the end of a walk (R160); a seat segment is held while the table is WAKING (R173). -/
def Part.closeWalk (p : Part) (seg : Segment) (w : WalkContext) : Part :=
  p.updEngine seg (fun e =>
    { e with
      state := .running, walk := none, pointer := 0, unitsFound := w.kept.length
      roles := rolesAfter seg.positions w.roles
      held := seg.hasSeats && decide (p.control.tableState = .waking) })

/-- Every position's `probe_due` set from its presence (R160). -/
def Part.setProbeDues (p : Part) (seg : Segment) : Part :=
  (List.range' 1 seg.positions).foldl (fun q pos => q.setProbeDue seg pos) p

/-- The walk ends with the positions given so far (R160). -/
def Part.endWalk (p : Part) (seg : Segment) (w : WalkContext) : Part :=
  (((p.closeWalk seg w).reportWalk seg w).setProbeDues seg).checkAwake

/-! ### Answers of the walk (R159) -/

/-- PARK of the unit at the offered position. -/
def Part.park (p : Part) (seg : Segment) (w : WalkContext) : Part :=
  (p.updEngine seg (fun e => { e with walk := some { w with phase := .parking } })).send seg (.park w.position)

/-- PARK at the entry address, beyond the capacity of the segment. -/
def Part.parkEntry (p : Part) (seg : Segment) (w : WalkContext) : Part :=
  (p.updEngine seg (fun e => { e with walk := some { w with phase := .parkingEntry } })).send seg (.park 0)

/-- A unit has been parked (R159, R164). -/
def Engine.parked (e : Engine) : Engine := { e with unitsParked := sat 255 (e.unitsParked + 1), walkOverflow := true }

/-- The next offer, or PARK at the entry address when the capacity is reached. -/
def Part.offerNext (p : Part) (seg : Segment) (w : WalkContext) : Part :=
  if w.kept.length < seg.positions then p.offer seg w else p.parkEntry seg w

/-- A GOOD ASSIGN judged by the placement rule. -/
def Part.assignGood (p : Part) (seg : Segment) (w : WalkContext) (u : UnitReport) : Part :=
  match w.keep seg u with
  | some next => p.offerNext seg next
  | none => p.park seg { w with attempts := 0 }

/-- The end of an ASSIGN of the walk (R159). -/
def Part.assignEnd (p : Part) (seg : Segment) (w : WalkContext) (o : LinkOutcome) (u : UnitReport) : Part :=
  match o with
  | .good => p.assignGood seg w u
  | .timeout => p.endWalk seg w
  | .checkError => if 3 ≤ w.attempts + 1 then p.endWalk seg w else p.offer seg { w with attempts := w.attempts + 1 }
  | .conflict => if 3 ≤ w.attempts + 1 then p.endWalk seg w else p.offer seg { w with attempts := w.attempts + 1 }

/-- The end of a PARK at the offered position (R159). -/
def Part.parkEnd (p : Part) (seg : Segment) (w : WalkContext) (o : LinkOutcome) : Part :=
  if o = .good then (p.updEngine seg Engine.parked).offer seg { w with attempts := 0 }
  else if 3 ≤ w.attempts + 1 then p.endWalk seg w
  else p.park seg { w with attempts := w.attempts + 1 }

/-- The end of the PARK at the entry address, which is sent once (R159). -/
def Part.parkEntryEnd (p : Part) (seg : Segment) (w : WalkContext) (o : LinkOutcome) : Part :=
  (if o = .good then p.updEngine seg Engine.parked else p).endWalk seg w

/-! ### The commands -/

/-- WALK_BEGIN (R159). -/
def execWalkBegin (seg : Segment) (s : State) : Host.Outcome State Fault Refusal :=
  s.become (s.part.event (fun p => p.takeWalkBegin seg))

/-- LINE_BREAK_END (R159). -/
def execLineBreakEnd (seg : Segment) (s : State) : Host.Outcome State Fault Refusal :=
  s.become (s.part.event (fun p => p.takeBreakEnd seg))

end Sys2Proof.Machine
end

