-- ==== Sys2Proof/Machine/Reset.lean ====
section
/-! DEFINITION. The resets: RESET TABLE and RESET ALL from the port (R189), power-on, the RESET input and the loss of the supply
(R190). -/

namespace Sys2Proof.Machine

/-! ### RESET TABLE -/

/-- RESET TABLE at a booking record (R46). -/
def Booking.cut (b : Booking) : Booking :=
  match b.state with
  | .pending => b
  | .ended => b
  | .waiting => b.finish .cutByReset
  | .preparing => b.finish .cutByReset
  | .ready => b.finish .cutByReset
  | .live => b.finish .cutByReset
  | .closing => b.finish .cutByReset

/-- RESET TABLE at a partition record (R19). -/
def Partition.reset (q : Partition) : Partition := { q.clear with sensorSerial := none, health := .none }

/-- RESET TABLE at a display record, before its recompute (R148). -/
def Display.reset (d : Display) : Display :=
  { d with health := .none, phaseB := false, phaseElapsedS := 0, shown := false }

/-- RESET TABLE at a segment engine (R151, R168): a walk in progress is abandoned and a new one begins, at once where the
line is free; an exchange on the line goes on without an owner (R153). -/
def Engine.reset (e : Engine) : Engine :=
  let walking :=
    { e with
      state := .walking, scope := .full, pointer := 0, urgent := [], roles := e.roles.map (fun _ => none)
      walk := some walkToBegin, line := e.line.map (fun l => { l with orphan := true }), walkRequested := false
      held := false, blankFirst := none }
  if e.line = none then walking.beginWalk else walking

/-- RESET TABLE at the power controller at time `now` (R169, R172): a table asleep or on its way there begins WAKING. -/
def PowerControl.reset (c : PowerControl) (now : Nat) : PowerControl :=
  if c.tableState.dark then { tableState := .waking, lastWakeCause := .reset, idleMark := now, sleep := noSleep }
  else { c with idleMark := now, sleep := noSleep }

/-- The marks after RESET TABLE: every mark that exists is set (R184). -/
def marksSet (slots : List (Option Booking)) : Marks := allMarks true (slots.map (fun b => b.isSome))

/-- Every block at RESET TABLE, before the displays are recomputed (R19, R20, R46, R63, R88, R114, R148, R149, R168, R189). -/
def Part.cleared (p : Part) : Part :=
  { p with
    seats := List.replicate 96 startSeat
    floors := List.replicate 4 startFloor
    queues := List.replicate 4 startQueue
    slots := p.slots.map (fun b => b.map Booking.cut)
    contexts := List.replicate 4 none
    partitions := p.partitions.map Partition.reset
    displays := p.displays.map Display.reset
    ambient := { p.ambient with health := .none }
    left := p.left.reset
    right := p.right.reset
    wall := p.wall.reset
    control := p.control.reset p.now
    notices := { p.notices with flags := 0 }
    marks := marksSet p.slots }

/-- RESET TABLE (R189). -/
def Part.tableReset (p : Part) : Part :=
  { p.cleared with displays := p.cleared.displays.map p.cleared.recomputed }

/-! ### RESET and its scope -/

inductive ResetScope where
  | table
  | all
  deriving DecidableEq, Repr

/-- RESET's body: the scope (R198). -/
def parseReset (body : List Byte) : Option ResetScope :=
  match body with
  | [1] => some .table
  | [2] => some .all
  | _ => none

/-- RESET with scope ALL (R189): refused while a store is in flight, else the effect of a pin reset. -/
def Part.resetAll (p : Part) : Part :=
  if p.store.copy.isSome then p.setAnswer 0x08 .busy [] else Part.started .resetAll p.store.image p.now

/-- RESET taken by its scope (R189). -/
def Part.resetBy (p : Part) : ResetScope → Part
  | .table => p.tableReset.setAnswer 0x08 .done []
  | .all => p.resetAll

/-- A RESET request (R189). -/
def Part.resetRequest (p : Part) (body : List Byte) : Part :=
  if p.power = .running then
    match parseReset body with
    | none => p.setAnswer 0x08 .badValue []
    | some scope => p.resetBy scope
  else p

/-! ### The pin and the supply -/

/-- A store in flight is cut short: the stored image fails its check (R190, R195). -/
def Store.cutShort (t : Store) : Store := if t.copy.isSome then { t with copy := none, image := none } else t

/-- The RESET input falls (R190); without supply its level alone changes. The part then runs no more, so it has lost the
request in hand: that request's step changes nothing, and no answer comes to it (State.inHand, Part.request; log entry 24). -/
def Part.pinFalls (p : Part) : Part :=
  match p.power with
  | .running => { p with power := .resetLow, store := p.store.cutShort }
  | .off => { p with power := .offResetLow }
  | .resetLow => p
  | .offResetLow => p

/-- The RESET input rises (R190); without supply its level alone changes. A part that came up with RESET low starts here too;
that the cause of that start is then PIN_RESET, and not POWER_ON, is the model's choice (log entry 4). -/
def Part.pinRises (p : Part) : Part :=
  match p.power with
  | .resetLow => Part.started .pinReset p.store.image p.now
  | .offResetLow => { p with power := .off }
  | .off => p
  | .running => p

/-- RESET is low (R190). -/
def Power.lowReset : Power → Bool
  | .resetLow => true
  | .offResetLow => true
  | .off => false
  | .running => false

/-- The supply is lost (R190, R195); the level of RESET stays. -/
def Part.losePower (p : Part) : Part :=
  { p with power := if p.power.lowReset then .offResetLow else .off, store := p.store.cutShort }

/-- The supply becomes stable (R190): the timebase begins at 0, and the part starts, or with RESET low waits for its rise. -/
def Part.powerUp (p : Part) : Part :=
  if p.power.lowReset then { p with power := .resetLow, now := 0, store := p.store.cutShort }
  else Part.started .powerOn p.store.cutShort.image 0

/-! ### The commands -/

/-- RESET_TABLE (R189). -/
def execResetTable (body : List Byte) (s : State) : Host.Outcome State Fault Refusal :=
  s.become (s.part.resetRequest body)

/-- RESET_ALL (R189). -/
def execResetAll (body : List Byte) (s : State) : Host.Outcome State Fault Refusal :=
  s.become (s.part.resetRequest body)

/-- POWER_ON (R190). -/
def execPowerOn (s : State) : Host.Outcome State Fault Refusal := s.become s.part.powerUp

/-- RESET_PIN_FALL (R190): the request in hand is lost, RDY and ATTN go low, and a store in flight is cut short. -/
def execResetPinFall (s : State) : Host.Outcome State Fault Refusal := s.become s.part.pinFalls

/-- RESET_PIN_RISE (R190). -/
def execResetPinRise (s : State) : Host.Outcome State Fault Refusal := s.become s.part.pinRises

/-- POWER_LOSS (R190). -/
def execPowerLoss (s : State) : Host.Outcome State Fault Refusal := s.become s.part.losePower

end Sys2Proof.Machine
end

