-- ==== Sys2Proof/Machine/SettingsRequests.lean ====
section
/-! DEFINITION. The host's requests to the display controller, the settings store, the link controller and the power
controller: CHANGE_DISPLAY, CHANGE_SETTINGS, STORE_SETTINGS, WALK and WAKE, and STORE_COMPLETE. -/

namespace Sys2Proof.Machine

/-! ### CHANGE_DISPLAY (R135) -/

/-- A configuration with the named fields written (R135). -/
def DisplayConfig.with (c : DisplayConfig) (r : DisplayRequest) : DisplayConfig :=
  { binding := r.binding.getD c.binding, contentA := r.contentA.getD c.contentA, contentB := r.contentB.getD c.contentB,
    dwellA := r.dwellA.getD c.dwellA, dwellB := r.dwellB.getD c.dwellB,
    outsideVisible := r.outsideVisible.getD c.outsideVisible, auto := r.auto.getD c.auto,
    fixedLevel := r.fixedLevel.getD c.fixedLevel }

/-- The named values are in their ranges (R133, R135). -/
def DisplayRequest.ok (r : DisplayRequest) : Bool :=
  (r.binding.map bindingOk).getD true && (r.contentA.map contentOk).getD true &&
    (r.contentB.map (fun c => (c.map contentOk).getD true)).getD true && (r.dwellA.map dwellOk).getD true &&
    (r.dwellB.map dwellOk).getD true && (r.fixedLevel.map (fun v => decide (v ≤ 15))).getD true

/-- A new configuration at a display: the rotation restarts when a binding or a content changed (R135, R140). -/
def Display.configure (new : DisplayConfig) (d : Display) : Display :=
  if new.binding ≠ d.config.binding ∨ new.contentA ≠ d.config.contentA ∨ new.contentB ≠ d.config.contentB then
    { d with config := new, phaseB := false, phaseElapsedS := 0 }
  else { d with config := new }

def displayOwner (r : DisplayRequest) (p : Part) : Reply :=
  if displayFits r.display && r.ok then
    (p.updDisplay r.display (fun d => d.configure (d.config.with r))).done
  else p.refuse .badValue

/-! ### CHANGE_SETTINGS (R193, R194) -/

/-- Every value of a group in its range and the group's combinations valid (R193). -/
def SettingsItem.ok : SettingsItem → Bool
  | .zoneMap m => zoneMapOk m
  | .counts a b c => decide (1 ≤ a ∧ a ≤ 15) && decide (1 ≤ b ∧ b ≤ 15) && decide (1 ≤ c ∧ c ≤ 8)
  | .booking d => d.ok
  | .adHoc _ length q => decide (15 ≤ length ∧ length ≤ 240) && q.ok
  | .standby _ delay lead => decide (1 ≤ delay ∧ delay ≤ 60) && decide (1 ≤ lead ∧ lead ≤ 60)
  | .ambient t1 t2 t3 h levels => ambientOk t1 t2 t3 h levels
  | .brightness v => decide (v.length = 16) && v.all (fun x => decide (x ≤ 255))
  | .displays c => decide (c.length = 8) && c.all DisplayConfig.ok

/-- One group written (R193). -/
def SettingsItem.write (s : Settings) : SettingsItem → Settings
  | .zoneMap m => { s with zoneMap := m }
  | .counts a b c => { s with partitionSettle := a, presenceSettle := b, badgeSettle := c }
  | .booking d => { s with booking := d }
  | .adHoc allowed length q => { s with adHocAllowed := allowed, adHocLength := length, adHocParams := q }
  | .standby allowed delay lead => { s with standbyAllowed := allowed, idleDelay := delay, standbyLead := lead }
  | .ambient t1 t2 t3 h levels => { s with t1 := t1, t2 := t2, t3 := t3, hysteresis := h, bandLevels := levels }
  | .brightness v => { s with brightness := v }
  | .displays c => { s with displays := c }

/-- The settings with every named group written. -/
def Settings.with (s : Settings) (items : List SettingsItem) : Settings := items.foldl SettingsItem.write s

/-- The refusal of a CHANGE_SETTINGS, if any: R193's tests in their order. -/
def Part.settingsRefusal (p : Part) (items : List SettingsItem) : Option Status :=
  if p.store.copy.isSome then some .busy
  else if (noRepeats (items.map SettingsItem.code) && items.all SettingsItem.ok) = false then some .badValue
  else if items.any (fun i => decide (i.code = 1)) && !p.allFloorsFree then some .notAllowed
  else none

/-- New settings in the live record (R192, R194): `live_differs`, the band, and the wake causes of the standby settings. Where
one request gives both causes, SETTINGS is taken first and is the one `last_wake_cause` keeps: the model's choice (log entry
35). -/
def Part.changeSettings (p : Part) (new : Settings) : Part :=
  let old := p.settings
  let written : Part :=
    { p with settings := new, store := { p.store with liveDiffers := p.store.liveDiffers || decide (new ≠ old) } }
  let banded :=
    if new.t1 ≠ old.t1 ∨ new.t2 ≠ old.t2 ∨ new.t3 ≠ old.t3 ∨ new.hysteresis ≠ old.hysteresis then written.evalBand
    else written
  let woken := if old.standbyAllowed && !new.standbyAllowed then banded.wake .settings else banded
  if new.standbyLead ≠ old.standbyLead then woken.dueTest else woken

def settingsOwner (items : List SettingsItem) (p : Part) : Reply :=
  match p.settingsRefusal items with
  | some st => p.refuse st
  | none => (p.changeSettings (p.settings.with items)).done

/-! ### The store (R195) -/

def storeOwner (_ : Unit) (p : Part) : Reply :=
  if p.store.copy.isSome then p.refuse .busy
  else ({ p with store := { p.store with copy := some p.settings } } : Part).accepted

/-- The store completes: `matched` says that the read-back matches the copy (R195). -/
def Store.complete (t : Store) (matched : Bool) : Store :=
  match t.copy with
  | none => t
  | some c =>
    if matched then { t with copy := none, lastStore := .done, liveDiffers := false, image := some c }
    else { t with copy := none, lastStore := .failed, liveDiffers := true, image := none }

/-! ### WALK (R161) and WAKE (R175) -/

/-- A zone has seats on a segment. -/
def ZoneRanges.on (z : ZoneRanges) : Segment → Bool
  | .left => z.left.isSome
  | .right => z.right.isSome
  | .wall => false

/-- Some floor holds a zone with seats on the segment (R161). -/
def Part.heldOn (p : Part) (seg : Segment) : Bool :=
  zoneNumbers.any (fun z =>
    (p.floorOfZone z).isSome && ((nth p.settings.zoneMap z).map (fun r => r.on seg)).getD false)

def walkOwner (seg : Segment) (p : Part) : Reply :=
  if p.control.tableState ≠ .awake then p.refuse .notAllowed
  else if p.heldOn seg then p.refuse .notAllowed
  else if (p.engine seg).state = .walking then p.refuse .busy
  else (p.updEngine seg (fun e => { e with walkRequested := true })).accepted

def wakeOwner (_ : Unit) (p : Part) : Reply :=
  if p.control.tableState.dark then (p.wake .host).accepted else p.done

/-! ### The commands -/

/-- CHANGE_DISPLAY (R135). -/
def execChangeDisplay (body : List Byte) (s : State) : Host.Outcome State Fault Refusal :=
  s.become (s.part.request 0x30 (parseDisplay body) displayOwner)

/-- CHANGE_SETTINGS (R193, R194). -/
def execChangeSettings (body : List Byte) (s : State) : Host.Outcome State Fault Refusal :=
  s.become (s.part.request 0x38 (parseSettings body) settingsOwner)

/-- STORE_SETTINGS (R195). -/
def execStoreSettings (body : List Byte) (s : State) : Host.Outcome State Fault Refusal :=
  s.become (s.part.request 0x39 (noBody body) storeOwner)

/-- STORE_COMPLETE (R195). -/
def execStoreComplete (readBackMatches : Bool) (s : State) : Host.Outcome State Fault Refusal :=
  s.become (s.part.event (fun p => { p with store := p.store.complete readBackMatches }))

/-- WALK (R161). -/
def execWalk (body : List Byte) (s : State) : Host.Outcome State Fault Refusal :=
  s.become (s.part.request 0x40 (parseWalk body) walkOwner)

/-- WAKE (R175). -/
def execWake (body : List Byte) (s : State) : Host.Outcome State Fault Refusal :=
  s.become (s.part.request 0x41 (noBody body) wakeOwner)

end Sys2Proof.Machine
end

