-- ==== Sys2Proof/Machine/Catalogue.lean ====
section
/-! DEFINITION. The request catalogue (R197): a request by its code, BAD_FRAME and UNKNOWN_REQUEST. -/

namespace Sys2Proof.Machine

/-- A code outside the catalogue: UNKNOWN_REQUEST with an empty body, whatever the body sent (R180, R197). -/
def Part.unknownCode (p : Part) (code : Byte) : Part :=
  if p.power = .running then p.setAnswer code .unknownRequest [] else p

/-- A request dispatched by its code (R178, R197). -/
def Part.byCode (p : Part) (code : Byte) (body : List Byte) : Part :=
  match code.toNat with
  | 0x01 => p.portRequest code (noBody body) identifyOwner
  | 0x02 => p.portRequest code (parseRead body) readOwner
  | 0x03 => p.portRequest code (parseFind body) findOwner
  | 0x04 => p.portRequest code (parseClear body) clearOwner
  | 0x05 => p.portRequest code (parseEnables body) enablesOwner
  | 0x08 => p.resetRequest body
  | 0x09 => p.request code (parseClock body) clockOwner
  | 0x10 => p.request code (parseCreate body) createOwner
  | 0x11 => p.request code (parseChange body) changeOwner
  | 0x12 => p.request code (parseRetire body) retireOwner
  | 0x13 => p.request code (parseRosterPut body) putOwner
  | 0x14 => p.request code (parseRosterDrop body) dropOwner
  | 0x20 => p.request code (parseGrant body) grantOwner
  | 0x21 => p.request code (parseByte body) closeOwner
  | 0x22 => p.request code (parseEnqueue body) enqueueOwner
  | 0x23 => p.request code (parseByte body) withdrawOwner
  | 0x24 => p.request code (parseMove body) moveOwner
  | 0x25 => p.request code (parseByte body) cancelOwner
  | 0x30 => p.request code (parseDisplay body) displayOwner
  | 0x38 => p.request code (parseSettings body) settingsOwner
  | 0x39 => p.request code (noBody body) storeOwner
  | 0x40 => p.request code (parseWalk body) walkOwner
  | 0x41 => p.request code (noBody body) wakeOwner
  | _ => p.unknownCode code

/-- A frame that fails its checks (R177): answered BAD_FRAME with the code byte, or 0, and PORT raised. -/
def Part.badFrame (p : Part) (received : List Byte) : Part :=
  if p.power = .running then (p.raise .port).setAnswer (frameCode received) .badFrame [] else p

/-! ### The request in hand (R176, R178) -/

/-- The request code of a command that is a write transaction taken when RDY is high; for BAD_FRAME the code byte received
(R177). -/
def requestCode : Instr → Option Byte
  | .identify _ => some 0x01
  | .read _ => some 0x02
  | .findChanged _ => some 0x03
  | .clearNotices _ => some 0x04
  | .setNoticeEnables _ => some 0x05
  | .resetTable _ => some 0x08
  | .resetAll _ => some 0x08
  | .setClock _ => some 0x09
  | .createBooking _ => some 0x10
  | .changeBooking _ => some 0x11
  | .retireBooking _ => some 0x12
  | .rosterPut _ => some 0x13
  | .rosterDrop _ => some 0x14
  | .grant _ => some 0x20
  | .closeMic _ => some 0x21
  | .enqueue _ => some 0x22
  | .withdraw _ => some 0x23
  | .moveEntry _ => some 0x24
  | .cancelFloor _ => some 0x25
  | .changeDisplay _ => some 0x30
  | .changeSettings _ => some 0x38
  | .storeSettings _ => some 0x39
  | .walk _ => some 0x40
  | .wake _ => some 0x41
  | .badFrame received => some (frameCode received)
  | .unknownRequest code _ => some code
  | _ => none

/-- A command by which a part can start: the supply comes up, or RESET rises (R190). -/
def beginsAnew : Instr → Bool
  | .powerOn => true
  | .resetPinRise => true
  | _ => false

/-- The code of the request in hand: the first request that waits in the queue of commands, whose write transaction has ended
and whose answer is not yet in the buffer (R176, R178; log entry 2). A part that does not run has none, since a fall of RESET
or the loss of the supply loses it (R190); and one that waits behind a rise of RESET or a POWER_ON is written after it, to the
part as it then starts. -/
def State.inHand (s : State) : Option Byte :=
  if s.part.power = .running then (s.pending.takeWhile (fun c => !beginsAnew c)).findSome? requestCode else none

/-- The RDY output (R176): high while the part runs and has no request in hand. -/
def State.rdy (s : State) : Bool := decide (s.part.power = .running) && s.inHand.isNone

/-- The first `n` bytes that a read transaction returns (R178, R179). Reading changes nothing, so it is a function and no command
(log entry 29). -/
def State.readTransaction (s : State) (n : Nat) : List Byte := (s.part.portAnswer s.inHand).transaction n

/-! ### The commands -/

/-- BAD_FRAME: the bytes received after the marker 0x5A (R177); bytes that pass are a frame and are dispatched (log entry
26). -/
def execBadFrame (received : List Byte) (s : State) : Host.Outcome State Fault Refusal :=
  s.become (if frameOk received then s.part.byCode (frameCode received) (frameBody received) else s.part.badFrame received)

/-- UNKNOWN_REQUEST: a frame with this code and body (R180, R197). -/
def execUnknownRequest (code : Byte) (body : List Byte) (s : State) : Host.Outcome State Fault Refusal :=
  s.become (s.part.byCode code body)

end Sys2Proof.Machine
end

