-- ==== Sys2Proof/Machine/Exchanges.lean ====
section
/-! DEFINITION. The ends of exchanges: POLL_ANSWER, SHOW_ANSWER, SENSE_PARTITION, SENSE_AMBIENT, PROBE_ANSWER, ASSIGN_ANSWER,
PARK_ANSWER and RESPONSE_TIMEOUT, and PROBE_DUE (08 sections 8.2 and 8.5). -/

namespace Sys2Proof.Machine

/-- The exchange on a segment's line, while the part runs. -/
def Part.lineOf (p : Part) (seg : Segment) : Option OnLine := if p.power = .running then (p.engine seg).line else none

/-- The exchange on a segment's line ends with an outcome (R152, R153): the line is free, and a CONFLICT is counted. -/
def Part.lineEnds (p : Part) (seg : Segment) (o : LinkOutcome) : Part :=
  (p.updEngine seg (fun e => { e with line := none })).countConflict seg o

/-- An exchange on the line ends; its owner takes the outcome by `report`, unless RESET TABLE left it without an owner
(R153). -/
def Part.exchangeEnds (p : Part) (seg : Segment) (l : OnLine) (o : LinkOutcome) (report : Part → Part) : Part :=
  if l.orphan then p.settle (p.lineEnds seg o) else p.settle (report (p.lineEnds seg o))

/-! ### POLL -/

/-- The end of a POLL at its owner (R153, R86). -/
def Part.pollReport (p : Part) (seg : Segment) (pos : Nat) (img : Image) (orphan : Bool) (o : LinkOutcome) (up : Uplink) :
    Part :=
  if orphan then p.settle (p.lineEnds seg o) else p.pollEnd (p.lineEnds seg o) (seatOn seg pos) img o up

/-- A POLL on the line is answered. -/
def Part.pollAnswered (p : Part) (seg : Segment) (rx : Reception) (up : Uplink) : Part :=
  match p.lineOf seg with
  | some { exchange := .poll pos img, orphan := orphan } =>
    p.pollReport seg pos img orphan (outcomeOf rx (decide (up.position = pos))) up
  | _ => p

/-- An uplink that says nothing; it stands for the missing one of a failed POLL and is not read. -/
def noUplink : Uplink :=
  { position := 0, speak := none, next := none, cancelAll := none, priorityUp := false, badge := 0, echo := .closed }

/-! ### SHOW and SENSE -/

/-- The end of a SHOW at its owner (R142, R153). -/
def Part.showReport (p : Part) (pos : Nat) (content : Effective) (drive : Nat) (o : LinkOutcome) : Part :=
  match p.roleAt pos with
  | some (.display d) => p.showEnded pos d (decide (o = .good)) content drive
  | _ => p

/-- A SHOW on WALL's line is answered; the content kind that the unit names back changes nothing (R142). -/
def Part.showAnswered (p : Part) (rx : Reception) (position : Nat) : Part :=
  match p.lineOf .wall with
  | some { exchange := .show pos content drive, orphan := orphan } =>
    let o := outcomeOf rx (decide (position = pos))
    p.exchangeEnds .wall { exchange := .show pos content drive, orphan := orphan } o
      (fun q => q.showReport pos content drive o)
  | _ => p

def readingWall : Reading → Option WallState
  | .level _ => none
  | .wallOpen => some .opened
  | .wallClosed => some .closed

def readingLight : Reading → Option Nat
  | .level v => some v.toNat
  | .wallOpen => none
  | .wallClosed => none

/-- A reading is of the sort that the role of its position gives (R155). A position that has lost its role, by RESET TABLE during
the exchange, takes either sort: its outcome has no owner (R153). -/
def fitsRole (role : Option WallRole) (reading : Reading) : Bool :=
  match role with
  | some (.partition _) => (readingWall reading).isSome
  | some .ambient => (readingLight reading).isSome
  | some (.display _) => false
  | none => true

/-- A SENSE ended at the owner of its position's role, with a reading or, where it failed, without (R4, R144, R153). -/
def Part.senseReport (p : Part) (pos : Nat) (reading : Option Reading) : Part :=
  match p.roleAt pos with
  | some (.partition k) => p.partitionSensed pos k (reading.bind readingWall)
  | some .ambient => p.ambientSensed pos (reading.bind readingLight)
  | _ => p

/-- A SENSE on WALL's line is answered, by whatever sensor (R4, R144, R155): a reading of the wrong sort for the role of the
position is a CHECK_ERROR. -/
def Part.senseAnswered (p : Part) (rx : Reception) (position : Nat) (reading : Reading) : Part :=
  match p.lineOf .wall with
  | some { exchange := .sense pos, orphan := orphan } =>
    let o := outcomeOf rx (decide (position = pos) && fitsRole (p.roleAt pos) reading)
    p.exchangeEnds .wall { exchange := .sense pos, orphan := orphan } o
      (fun q => q.senseReport pos (if o = .good then some reading else none))
  | _ => p

/-! ### PROBE (R164) -/

/-- PARK of a probed unit that the position does not take (R164); a requested walk takes effect instead, since the exchange
that held it has ended (R151). -/
def Part.parkProbed (p : Part) (seg : Segment) (pos : Nat) : Part :=
  if (p.engine seg).walkRequested then p else p.send seg (.park pos)

/-- A GOOD PROBE of a seat position. -/
def Part.probeSeat (p : Part) (seg : Segment) (pos : Nat) (u : UnitReport) : Part :=
  if isSeatKind u.kind then p.updSeat (seatOn seg pos) (Seat.probed u) else p.parkProbed seg pos

/-- A GOOD PROBE of a WALL position. -/
def Part.probeWall (p : Part) (pos : Nat) (u : UnitReport) : Part :=
  match p.roleAt pos with
  | some r => if r.fits u then p.probeRole r pos u.serial else p.parkProbed .wall pos
  | none =>
    match p.roleForProbe u with
    | some r =>
      (p.updEngine .wall (fun e => { e with roles := upd e.roles pos (fun _ => some r) })).probeRole r pos u.serial
    | none => p.parkProbed .wall pos

def Part.probeGood (p : Part) (seg : Segment) (pos : Nat) (u : UnitReport) : Part :=
  match seg with
  | .left => p.probeSeat .left pos u
  | .right => p.probeSeat .right pos u
  | .wall => p.probeWall pos u

/-- A failed PROBE (R73, R74, R164). -/
def Part.probeFailed (p : Part) (seg : Segment) (pos : Nat) : Part :=
  match seg with
  | .left => p.seatProbeFailed (seatOn .left pos)
  | .right => p.seatProbeFailed (seatOn .right pos)
  | .wall =>
    match p.roleAt pos with
    | none => p
    | some r => p.probeRoleFailed r

/-- A PROBE on the line is answered. -/
def Part.probeAnswered (p : Part) (seg : Segment) (rx : Reception) (u : UnitReport) : Part :=
  match p.lineOf seg with
  | some { exchange := .probe pos, orphan := orphan } =>
    let o := outcomeOf rx (decide (u.position = pos))
    p.exchangeEnds seg { exchange := .probe pos, orphan := orphan } o
      (fun q => if o = .good then q.probeGood seg pos u else q.probeFailed seg pos)
  | _ => p

/-! ### ASSIGN and PARK -/

/-- A unit's answer that is not there; it stands for the missing one of a failed exchange and is not read. -/
def noReport : UnitReport := { position := 0, kind := .delegate, serial := 0, partition := 0 }

/-- The walk's ASSIGN ends at the engine (R159). -/
def Part.assignReport (p : Part) (seg : Segment) (o : LinkOutcome) (u : UnitReport) : Part :=
  match (p.engine seg).walk with
  | some w => p.assignEnd seg w o u
  | none => p

/-- An ASSIGN on the line is answered; a GOOD answer names the offered position (R152). -/
def Part.assignAnswered (p : Part) (seg : Segment) (rx : Reception) (u : UnitReport) : Part :=
  match p.lineOf seg with
  | some { exchange := .assign pos, orphan := orphan } =>
    let o := outcomeOf rx (decide (u.position = pos))
    p.exchangeEnds seg { exchange := .assign pos, orphan := orphan } o (fun q => q.assignReport seg o u)
  | _ => p

/-- A PARK ends at the engine: the walk's, or a probe's, which is sent once (R159, R164). -/
def Part.parkReport (p : Part) (seg : Segment) (o : LinkOutcome) : Part :=
  match (p.engine seg).walk with
  | some w => if w.phase = .parkingEntry then p.parkEntryEnd seg w o else p.parkEnd seg w o
  | none => if o = .good then p.updEngine seg Engine.parked else p

/-- A PARK on the line is answered; a GOOD answer names the position, 0 at the entry address (R156). -/
def Part.parkAnswered (p : Part) (seg : Segment) (rx : Reception) (u : UnitReport) : Part :=
  match p.lineOf seg with
  | some { exchange := .park pos, orphan := orphan } =>
    let o := outcomeOf rx (decide (u.position = pos))
    p.exchangeEnds seg { exchange := .park pos, orphan := orphan } o (fun q => q.parkReport seg o)
  | _ => p

/-! ### The response window -/

/-- The response window of the exchange on the line expires: TIMEOUT (R152). -/
def Part.timedOut (p : Part) (seg : Segment) : Part :=
  match p.lineOf seg with
  | none => p
  | some l =>
    match l.exchange with
    | .poll pos img => p.pollReport seg pos img l.orphan .timeout noUplink
    | .show pos content drive => p.exchangeEnds seg l .timeout (fun q => q.showReport pos content drive .timeout)
    | .sense pos => p.exchangeEnds seg l .timeout (fun q => q.senseReport pos none)
    | .probe pos => p.exchangeEnds seg l .timeout (fun q => q.probeFailed seg pos)
    | .assign _ => p.exchangeEnds seg l .timeout (fun q => q.assignReport seg .timeout noReport)
    | .park _ => p.exchangeEnds seg l .timeout (fun q => q.parkReport seg .timeout)

/-! ### The engine waits for a PROBE (R163) -/

/-- The position waits for its `probe_due`: ABSENT in FULL scope, or CUT_OFF (R163). -/
def Part.awaitsProbe (p : Part) (seg : Segment) (pos : Nat) : Bool :=
  p.inScope seg pos && !(p.presenceAt seg pos).polled &&
    (decide (p.presenceAt seg pos = .cutOff) || decide ((p.engine seg).scope = .full))

/-- The earliest `probe_due` a waiting engine waits for (R163). -/
def Part.earliestProbe (p : Part) (seg : Segment) : Option Nat :=
  (((List.range' 1 seg.positions).filter (p.awaitsProbe seg)).map (fun pos => (nth (p.engine seg).probeDue pos).getD 0)).min?

/-- The engine waits: RUNNING, its line free, not held and not asked to sleep (R163). -/
def Part.engineWaits (p : Part) (seg : Segment) : Bool :=
  decide ((p.engine seg).state = .running) && decide ((p.engine seg).line = none) && !(p.engine seg).held &&
    !p.control.sleep.of seg

/-- The timebase reaches the earliest `probe_due` of a waiting engine, which then sends the PROBE at the end of the step. -/
def Part.reachProbe (p : Part) (seg : Segment) : Part :=
  if p.engineWaits seg then
    match p.earliestProbe seg with
    | none => p
    | some t => p.passTime t
  else p

/-! ### The commands -/

/-- POLL_ANSWER (R86). -/
def execPollAnswer (seg : Segment) (rx : Reception) (up : Uplink) (s : State) : Host.Outcome State Fault Refusal :=
  s.become (s.part.pollAnswered seg rx up)

/-- SHOW_ANSWER (R142). -/
def execShowAnswer (rx : Reception) (position : Nat) (_kind : ShownKind) (s : State) : Host.Outcome State Fault Refusal :=
  s.become (s.part.showAnswered rx position)

/-- SENSE_PARTITION (R4). -/
def execSensePartition (rx : Reception) (position : Nat) (reading : Reading) (s : State) :
    Host.Outcome State Fault Refusal :=
  s.become (s.part.senseAnswered rx position reading)

/-- SENSE_AMBIENT (R144). -/
def execSenseAmbient (rx : Reception) (position : Nat) (reading : Reading) (s : State) :
    Host.Outcome State Fault Refusal :=
  s.become (s.part.senseAnswered rx position reading)

/-- PROBE_ANSWER (R164). -/
def execProbeAnswer (seg : Segment) (rx : Reception) (report : UnitReport) (s : State) :
    Host.Outcome State Fault Refusal :=
  s.become (s.part.probeAnswered seg rx report)

/-- ASSIGN_ANSWER (R159). -/
def execAssignAnswer (seg : Segment) (rx : Reception) (report : UnitReport) (s : State) :
    Host.Outcome State Fault Refusal :=
  s.become (s.part.assignAnswered seg rx report)

/-- PARK_ANSWER (R159, R164). -/
def execParkAnswer (seg : Segment) (rx : Reception) (report : UnitReport) (s : State) :
    Host.Outcome State Fault Refusal :=
  s.become (s.part.parkAnswered seg rx report)

/-- RESPONSE_TIMEOUT (R152). -/
def execResponseTimeout (seg : Segment) (s : State) : Host.Outcome State Fault Refusal :=
  s.become (s.part.timedOut seg)

/-- PROBE_DUE (R163). -/
def execProbeDue (seg : Segment) (s : State) : Host.Outcome State Fault Refusal :=
  s.become (s.part.event (fun p => p.reachProbe seg))

end Sys2Proof.Machine
end

