-- ==== Sys2Proof/Machine/Time.lean ====
section
/-! DEFINITION. The events of the timebase and of the room clock: TIMEBASE_SECOND, CLOCK_SECOND, MINUTE_BOUNDARY, GUARD_END and
ROTATION_PHASE_CHANGE. -/

namespace Sys2Proof.Machine

/-! ### The room clock (R23, R26) -/

/-- The clock can go on: it is set, and not at its last second (R23). -/
def Clock.runs (c : Clock) : Bool :=
  c.valid && !(decide (c.minute = Config.lastMinute) && decide (c.second = 59))

/-- The clock one second on (R23). -/
def Clock.advance (c : Clock) : Clock :=
  if c.second < 59 then { c with second := c.second + 1 } else { c with minute := c.minute + 1, second := 0 }

/-- A minute boundary: the time events of every booking, and then the booking wake cause (R23, R26, R172). That the cause is
tested after the time events is the model's choice (log entry 35). -/
def Part.minuteBoundary (p : Part) : Part :=
  ({ p with clock := p.clock.advance } : Part).evalTimes.dueTest

/-- The clock passes one second, and with it a minute boundary when `second` was 59 (R23). -/
def Part.clockSecond (p : Part) : Part :=
  if p.clock.runs then
    if p.clock.second < 59 then { p with clock := p.clock.advance } else p.minuteBoundary
  else p

/-- The clock passes a minute boundary, where it stands at second 59 (R23, R26; log entry 6). -/
def Part.clockMinute (p : Part) : Part :=
  if p.clock.runs && decide (59 ≤ p.clock.second) then p.minuteBoundary else p

/-! ### The timebase -/

/-- The time of the next whole second of the timebase. -/
def nextSecond (now : Nat) : Nat := (now / Config.second + 1) * Config.second

/-- The timebase reaches a seat's `guard_until` (R111). -/
def Part.reachGuard (p : Part) (n : Nat) : Part :=
  match (p.seatAt n).guardUntil with
  | none => p
  | some g => (p.passTime g).updSeat n (Seat.endGuard (max p.now g))

/-! ### Rotation (R139) -/

/-- The second of the timebase at which the rotation of display `n` changes phase passes (R139); where the next second is not
that one, nothing does (log entry 6). -/
def Part.changePhase (p : Part) (n : Nat) : Part :=
  if p.rotationRuns (p.displayAt n).config && (p.displayAt n).turns then p.passTime (nextSecond p.now) else p

/-! ### The commands -/

/-- TIMEBASE_SECOND (R104, R123, R133, R139). -/
def execTimebaseSecond (s : State) : Host.Outcome State Fault Refusal :=
  s.become (s.part.event (fun p => p.passTime (nextSecond p.now)))

/-- CLOCK_SECOND (R23). -/
def execClockSecond (s : State) : Host.Outcome State Fault Refusal :=
  s.become (s.part.event Part.clockSecond)

/-- MINUTE_BOUNDARY (R26). -/
def execMinuteBoundary (s : State) : Host.Outcome State Fault Refusal :=
  s.become (s.part.event Part.clockMinute)

/-- GUARD_END (R111). -/
def execGuardEnd (seat : Nat) (s : State) : Host.Outcome State Fault Refusal :=
  s.become (s.part.event (fun p => p.reachGuard seat))

/-- ROTATION_PHASE_CHANGE (R139). -/
def execRotationPhaseChange (display : Nat) (s : State) : Host.Outcome State Fault Refusal :=
  s.become (s.part.event (fun p => p.changePhase display))

end Sys2Proof.Machine
end

