-- ==== Sys2Proof/Machine/Dispatch.lean ====
section
/-! DEFINITION. What each command does: one arm per constructor of Instr, each one direct call of the command's meaning. -/

namespace Sys2Proof.Machine

open Sys2Proof

def exec (i : Instr) (s : State) : Host.Outcome State Fault Refusal :=
  match i with
  | .identify body => Sys2Proof.Machine.execIdentify body s
  | .read body => Sys2Proof.Machine.execRead body s
  | .findChanged body => Sys2Proof.Machine.execFindChanged body s
  | .clearNotices body => Sys2Proof.Machine.execClearNotices body s
  | .setNoticeEnables body => Sys2Proof.Machine.execSetNoticeEnables body s
  | .resetTable body => Sys2Proof.Machine.execResetTable body s
  | .resetAll body => Sys2Proof.Machine.execResetAll body s
  | .setClock body => Sys2Proof.Machine.execSetClock body s
  | .createBooking body => Sys2Proof.Machine.execCreateBooking body s
  | .changeBooking body => Sys2Proof.Machine.execChangeBooking body s
  | .retireBooking body => Sys2Proof.Machine.execRetireBooking body s
  | .rosterPut body => Sys2Proof.Machine.execRosterPut body s
  | .rosterDrop body => Sys2Proof.Machine.execRosterDrop body s
  | .grant body => Sys2Proof.Machine.execGrant body s
  | .closeMic body => Sys2Proof.Machine.execCloseMic body s
  | .enqueue body => Sys2Proof.Machine.execEnqueue body s
  | .withdraw body => Sys2Proof.Machine.execWithdraw body s
  | .moveEntry body => Sys2Proof.Machine.execMoveEntry body s
  | .cancelFloor body => Sys2Proof.Machine.execCancelFloor body s
  | .changeDisplay body => Sys2Proof.Machine.execChangeDisplay body s
  | .changeSettings body => Sys2Proof.Machine.execChangeSettings body s
  | .storeSettings body => Sys2Proof.Machine.execStoreSettings body s
  | .storeComplete readBackMatches => Sys2Proof.Machine.execStoreComplete readBackMatches s
  | .walk body => Sys2Proof.Machine.execWalk body s
  | .wake body => Sys2Proof.Machine.execWake body s
  | .badFrame received => Sys2Proof.Machine.execBadFrame received s
  | .unknownRequest code body => Sys2Proof.Machine.execUnknownRequest code body s
  | .writeWhileBusy => Sys2Proof.Machine.execWriteWhileBusy s
  | .unknownMarker marker => Sys2Proof.Machine.execUnknownMarker marker s
  | .powerOn => Sys2Proof.Machine.execPowerOn s
  | .resetPinFall => Sys2Proof.Machine.execResetPinFall s
  | .resetPinRise => Sys2Proof.Machine.execResetPinRise s
  | .pollAnswer seg rx up => Sys2Proof.Machine.execPollAnswer seg rx up s
  | .showAnswer rx position kind => Sys2Proof.Machine.execShowAnswer rx position kind s
  | .sensePartition rx position reading => Sys2Proof.Machine.execSensePartition rx position reading s
  | .senseAmbient rx position reading => Sys2Proof.Machine.execSenseAmbient rx position reading s
  | .probeAnswer seg rx report => Sys2Proof.Machine.execProbeAnswer seg rx report s
  | .assignAnswer seg rx report => Sys2Proof.Machine.execAssignAnswer seg rx report s
  | .parkAnswer seg rx report => Sys2Proof.Machine.execParkAnswer seg rx report s
  | .responseTimeout seg => Sys2Proof.Machine.execResponseTimeout seg s
  | .walkBegin seg => Sys2Proof.Machine.execWalkBegin seg s
  | .lineBreakEnd seg => Sys2Proof.Machine.execLineBreakEnd seg s
  | .probeDue seg => Sys2Proof.Machine.execProbeDue seg s
  | .sleep seg => Sys2Proof.Machine.execSleep seg s
  | .wakeLineRise seg => Sys2Proof.Machine.execWakeLineRise seg s
  | .clockSecond => Sys2Proof.Machine.execClockSecond s
  | .minuteBoundary => Sys2Proof.Machine.execMinuteBoundary s
  | .speakingWarning floor seat => Sys2Proof.Machine.execSpeakingWarning floor seat s
  | .allowanceExpiry floor seat => Sys2Proof.Machine.execAllowanceExpiry floor seat s
  | .lifetimeExpiry floor => Sys2Proof.Machine.execLifetimeExpiry floor s
  | .guardEnd seat => Sys2Proof.Machine.execGuardEnd seat s
  | .rotationPhaseChange display => Sys2Proof.Machine.execRotationPhaseChange display s
  | .enterStandby => Sys2Proof.Machine.execEnterStandby s
  | .timebaseSecond => Sys2Proof.Machine.execTimebaseSecond s
  | .powerLoss => Sys2Proof.Machine.execPowerLoss s

end Sys2Proof.Machine
end

