-- ==== Sys2Proof/Machine/Step.lean ====
section
/-! DEFINITION. One step: the command at the front of the queue, or one step of the timebase when no command waits. -/

namespace Sys2Proof.Machine

/-- The step: the command at the front of the queue is taken, its effect is that of exec on the state with the queue's
rest; with no command waiting, 1 us passes (log entry 1). -/
def step (s : State) : Host.Outcome State Fault Refusal :=
  match s.pending with
  | [] => .next { s with part := s.part.tick }
  | c :: rest => exec c { s with pending := rest }

/-- `s` with the command that a word of the opcode table spells put at the front of its queue; no row of the table has
bits, so no word spells one. -/
def State.withFetchWord (s : State) (nbits w : Nat) : State :=
  match decodeTableWord nbits w with
  | none => s
  | some c => { s with pending := c :: s.pending }

end Sys2Proof.Machine
end

