-- ==== Sys2Proof/Safety.lean ====
section
/-! DEFINITION. What the statements about this block speak of: that a command completes, the records a step leaves as its event
has written them, and the facts the manual keeps of a part. -/

namespace Sys2Proof.Machine

/-- The outcome is a next state: the block has neither faulted nor refused. -/
def Completes (o : Host.Outcome State Fault Refusal) : Prop := ∃ t, o = .next t

/-! ### The records of a part -/

/-- What a display record says besides what it shows: its unit and its configuration. -/
structure DisplayCore where
  position : Option Nat
  serial : Option Serial
  health : Health
  config : DisplayConfig
  deriving DecidableEq, Repr

def Display.core (d : Display) : DisplayCore :=
  { position := d.unitPosition, serial := d.unitSerial, health := d.health, config := d.config }

/-- A seat record with `mic_confirmed` put aside. -/
def Seat.quiet (s : Seat) : Seat := { s with micConfirmed := false }

/-- Everything of a part but what the end of a step writes: the answer buffer, changed marks and notice flags, the segment
engines, `mic_confirmed` of the seats, and the shown content, level, rotation and `shown` of the displays. Two parts with
equal records differ in those alone. -/
structure Records where
  power : Power
  now : Nat
  seats : List Seat
  floors : List Floor
  queues : List Queue
  slots : List (Option Booking)
  lastHandle : Nat
  clock : Clock
  contexts : List (Option OpContext)
  partitions : List Partition
  displays : List DisplayCore
  ambient : Ambient
  control : PowerControl
  settings : Settings
  store : Store
  enables : NoticeSet
  signals : NoticeSet
  deriving DecidableEq, Repr

def Part.records (p : Part) : Records :=
  { power := p.power, now := p.now, seats := p.seats.map Seat.quiet, floors := p.floors, queues := p.queues
    slots := p.slots, lastHandle := p.lastHandle, clock := p.clock, contexts := p.contexts, partitions := p.partitions
    displays := p.displays.map Display.core, ambient := p.ambient, control := p.control, settings := p.settings
    store := p.store, enables := p.notices.enables, signals := p.notices.signals }

/-! ### How a command ends -/

/-- The part runs: it has its supply, and RESET is high (R176, R190). -/
def State.runs (s : State) : Prop := s.part.power = .running

/-- The command completes, and nothing but the answer buffer differs after it: status `st`, echoed code `code`, body `body`
(R180: a refused request changes nothing). -/
def Answers (c : Instr) (s : State) (code : Byte) (st : Status) (body : List Byte) : Prop :=
  exec c s = .next { s with part := { s.part with answer := { status := st, code := code, body := body } } }

/-- The command completes with an answer and leaves the records `r`; the queue of commands is as it was. -/
def AnswersWith (c : Instr) (s : State) (code : Byte) (st : Status) (body : List Byte) (r : Records) : Prop :=
  ∃ p, exec c s = .next { s with part := p } ∧ p.answer = { status := st, code := code, body := body } ∧ p.records = r

/-- The event completes and leaves the records `r`; the answer buffer and the queue of commands are as they were. -/
def Leaves (c : Instr) (s : State) (r : Records) : Prop :=
  ∃ p, exec c s = .next { s with part := p } ∧ p.answer = s.part.answer ∧ p.records = r

/-- The command completes and changes nothing at all. -/
def Passes (c : Instr) (s : State) : Prop := exec c s = .next s

/-- The event completes in the part `p`; the answer buffer and the queue of commands are as they were. -/
def Ends (c : Instr) (s : State) (p : Part) : Prop := exec c s = .next { s with part := p } ∧ p.answer = s.part.answer

/-- The request completes in the part `p` with an answer; the queue of commands is as it was. -/
def Replies (c : Instr) (s : State) (code : Byte) (st : Status) (body : List Byte) (p : Part) : Prop :=
  exec c s = .next { s with part := p } ∧ p.answer = { status := st, code := code, body := body }

/-! ### What a meeting looks like -/

/-- Every partition is CLOSED and no floor is suspended. -/
def Part.calm (p : Part) : Prop := (∀ k, p.wallOpen k = false) ∧ ∀ f, (p.floorAt f).suspended = false

/-- No apply and no close-out is in flight. -/
def Part.noOperation (p : Part) : Prop := ∀ f, p.contextAt f = none

/-- The booking table holds one booking, in slot `k`. -/
def Part.onlyBooking (p : Part) (k : Nat) (b : Booking) : Prop :=
  p.slots.length = 48 ∧ p.slotAt k = some b ∧ ∀ j c, p.slotAt j = some c → j = k

/-- At minute `m` no threshold of the booking does anything (R26, R27): it is not reached, its rule gives no effect in the
booking's state, or what it notes is noted already. -/
def Booking.restsAt (b : Booking) (m : Nat) : Prop :=
  match b.state with
  | .pending => m < b.startMinute - b.lead ∧ m < b.endMinute + b.grace
  | .waiting => (m < b.startMinute ∨ b.startNoted = true) ∧ m < b.endMinute + b.grace
  | .preparing => (m < b.startMinute ∨ b.startNoted = true) ∧ (m < b.endMinute + b.grace ∨ b.closeNoted = true)
  | .ready => m < b.startMinute ∧ m < b.endMinute + b.grace
  | .live => m < b.endMinute + b.grace
  | .closing => True
  | .ended => True

/-- The booking table holds `b` in slot `k`, and at minute `m` no threshold of any other booking does anything. -/
def Part.onlyOneMoves (p : Part) (k : Nat) (b : Booking) (m : Nat) : Prop :=
  p.slots.length = 48 ∧ p.slotAt k = some b ∧
    ∀ j c, p.slotAt j = some c → j ≠ k → c.handle ≠ b.handle ∧ c.restsAt m

/-- The number after `k`, from 65535 back to 1 (R8, R22, R116). -/
def nextNumber (k : Nat) : Nat := if k < 65535 then k + 1 else 1

/-- The entry that an opening of a DELEGATE adds (R90, R99, R105). -/
def Floor.delegateEntry (fl : Floor) (q : FloorParams) (n : Nat) : OpenEntry :=
  { seat := n, cls := .delegate, openedOrder := nextNumber fl.openOrder, spokenS := 0, allowanceUsed := q.allowance
    muted := decide (0 < fl.priorityHolders), warned := decide (q.allowance ≠ 0 ∧ q.allowance ≤ q.warningLead)
    overtime := false }

/-- The entry that an opening of a CHAIR adds (R90, R94). -/
def Floor.chairEntry (fl : Floor) (n : Nat) : OpenEntry :=
  { seat := n, cls := .chair, openedOrder := nextNumber fl.openOrder, spokenS := 0, allowanceUsed := 0, muted := false
    warned := false, overtime := false }

/-- The floor with an entry at its tail (R90). -/
def Floor.opens (fl : Floor) (e : OpenEntry) : Floor :=
  { fl with openOrder := e.openedOrder, openList := fl.openList ++ [e] }

/-- The floor without the entry of seat `n`, the others in their order (R91). -/
def Floor.without (fl : Floor) (n : Nat) : Floor := { fl with openList := fl.openList.filter (fun e => e.seat != n) }

/-- The queue without the entry of seat `n`, the others in their order (R119). -/
def Queue.without (x : Queue) (n : Nat) : Queue := { x with entries := x.entries.filter (fun e => e.seat != n) }

/-- The queue with a new entry of seat `n` (R116): ORDINARY at the tail, PRIORITY behind the last PRIORITY entry. -/
def Queue.joins (x : Queue) (n : Nat) (cls : QueueClass) : Queue :=
  let e : QueueEntry := { seat := n, cls := cls, arrival := nextNumber x.lastArrival, waitedS := 0 }
  { entries := match cls with
      | .ordinary => x.entries ++ [e]
      | .priority => x.entries.takeWhile (fun y => decide (y.cls = .priority)) ++
          e :: x.entries.dropWhile (fun y => decide (y.cls = .priority))
    lastArrival := nextNumber x.lastArrival }

/-- A floor bound to a booking, in a state (R11). -/
def Booking.floorIn (b : Booking) (st : FloorState) : Floor :=
  { state := st, suspended := false, zones := some b.zones, booking := some b.handle, params := some b.params
    priorityHolders := 0, openOrder := 0, openList := [] }

/-- A seat as a booking's roster offers it (R50, R76). -/
def Booking.seats (b : Booking) (n : Nat) (x : Seat) : Seat :=
  match b.roster.find? (fun e => e.seat == n) with
  | some e => { x with occupant := some e.tag, role := e.role }
  | none => { x with occupant := none, role := .ordinary }

/-- A roster entry of the booking finds no PRESENT or DEGRADED seat in its zones (R50). -/
def Part.unseats (p : Part) (b : Booking) : Bool := b.roster.any (fun e => !(p.seatIn b.zones e.seat && p.inService e.seat))

/-! ### A POLL and what its uplink carries -/

/-- A GOOD POLL of PRESENT seat `n` whose badge reading is the one its record holds (R78, R152). -/
def State.goodPoll (s : State) (seg : Segment) (n : Nat) (img : Image) (rx : Reception) (up : Uplink) : Prop :=
  s.runs ∧
  (∃ pos, (s.part.engine seg).line = some { exchange := .poll pos img, orphan := false } ∧ n = seatOn seg pos ∧
    up.position = pos) ∧
  (s.part.seatAt n).health.presence = .present ∧ rx.complete = true ∧ rx.checkRight = true ∧ rx.kindRight = true ∧
  ((s.part.seatAt n).badge = some up.badge ∧ up.badge ≠ 0 ∨ (s.part.seatAt n).badge = none ∧ up.badge = 0)

/-- The uplink carries no new press and no edge of the PRIORITY level (R81, R85). -/
def uplinkSilent (up : Uplink) (x : Seat) : Prop :=
  (∀ e, up.speak = some e → x.takenTags.speak = some e.tag) ∧ (∀ e, up.next = some e → x.takenTags.next = some e.tag) ∧
  (∀ e, up.cancelAll = some e → x.takenTags.cancelAll = some e.tag) ∧ x.priorityUp = up.priorityUp

/-- The uplink carries one new press, of button `b`, and no edge of the PRIORITY level (R81, R85). -/
def uplinkCarries (up : Uplink) (b : Button) (e : PressEvent) (x : Seat) : Prop :=
  x.priorityUp = up.priorityUp ∧
  match b with
  | .speak => up.speak = some e ∧ up.next = none ∧ up.cancelAll = none ∧ x.takenTags.speak ≠ some e.tag
  | .next => up.speak = none ∧ up.next = some e ∧ up.cancelAll = none ∧ x.takenTags.next ≠ some e.tag
  | .cancelAll => up.speak = none ∧ up.next = none ∧ up.cancelAll = some e ∧ x.takenTags.cancelAll ≠ some e.tag

/-- A PRESENT seat after a GOOD POLL that carried `img` and brought nothing new (R68, R69, R78). -/
def Seat.afterPoll (img : Image) (x : Seat) : Seat :=
  { x with
    health := { x.health with errorScore := x.health.errorScore - 1 }
    flashDue := x.flashDue && decide (img.lamp ≠ .refusedFlash)
    badgeCandidate := none, badgeRepeat := 0 }

/-- The same with a new press taken (R81, R84). -/
def Seat.afterPress (img : Image) (b : Button) (e : PressEvent) (x : Seat) : Seat :=
  { x.afterPoll img with
    takenTags := match b with
      | .speak => { x.takenTags with speak := some e.tag }
      | .next => { x.takenTags with next := some e.tag }
      | .cancelAll => { x.takenTags with cancelAll := some e.tag }
    lostPresses := if e.overrun then sat 255 (x.lostPresses + 1) else x.lostPresses }

/-- The records in which seat `n` is `y`. -/
def State.withSeat (s : State) (n : Nat) (y : Seat) : Records :=
  { s.part.records with seats := (upd s.part.seats n (fun _ => y)).map Seat.quiet }

/-- The records in which seat `n` is `y` after a new press, which marks the table as in use (R169). -/
def State.withPress (s : State) (n : Nat) (y : Seat) : Records :=
  { s.withSeat n y with control := { s.part.control with idleMark := s.part.now } }

/-- Command `c` is the row of an answer, received as `rx`, to an exchange on a segment's line (R152, R154 to R156); `fits` says
that the answer names the addressed position, and for a SENSE that its reading is of the sort of the position's role. -/
def Part.answersWith (p : Part) (seg : Segment) (x : Exchange) (rx : Reception) (fits : Bool) (c : Instr) : Prop :=
  match x with
  | .poll pos _ => ∃ up, c = .pollAnswer seg rx up ∧ fits = decide (up.position = pos)
  | .show pos _ _ => seg = .wall ∧ ∃ named kind, c = .showAnswer rx named kind ∧ fits = decide (named = pos)
  | .sense pos => seg = .wall ∧ ∃ named reading, (c = .sensePartition rx named reading ∨ c = .senseAmbient rx named reading) ∧
      fits = (decide (named = pos) && fitsRole (p.roleAt pos) reading)
  | .probe pos => ∃ u, c = .probeAnswer seg rx u ∧ fits = decide (u.position = pos)
  | .assign pos => ∃ u, c = .assignAnswer seg rx u ∧ fits = decide (u.position = pos)
  | .park pos => ∃ u, c = .parkAnswer seg rx u ∧ fits = decide (u.position = pos)

/-! ### Facts that every step keeps -/

/-- How many records and how many marks of each kind a part has. -/
structure Shape where
  seats : Nat
  floors : Nat
  queues : Nat
  slots : Nat
  contexts : Nat
  partitions : Nat
  seatMarks : Nat
  floorMarks : Nat
  queueMarks : Nat
  bookingMarks : Nat
  displayMarks : Nat
  deriving DecidableEq, Repr

def Part.shape (p : Part) : Shape :=
  { seats := p.seats.length, floors := p.floors.length, queues := p.queues.length, slots := p.slots.length
    contexts := p.contexts.length, partitions := p.partitions.length, seatMarks := p.marks.seats.length
    floorMarks := p.marks.floors.length, queueMarks := p.marks.queues.length, bookingMarks := p.marks.bookings.length
    displayMarks := p.marks.displays.length }

/-- The numbers of this part (00, Numbering of places; R1, R21): 96 seats, 4 floors, each with its queue and operation, 48
booking slots, 3 partitions, 8 displays. -/
def partShape : Shape :=
  { seats := 96, floors := 4, queues := 4, slots := 48, contexts := 4, partitions := 3, seatMarks := 96, floorMarks := 4
    queueMarks := 4, bookingMarks := 48, displayMarks := 8 }

/-- No engine lists a position twice as urgent (R150, R162). -/
def Part.urgentOnce (p : Part) : Prop := p.left.urgent.Nodup ∧ p.right.urgent.Nodup ∧ p.wall.urgent.Nodup

/-- The live settings, the copy being stored and the stored image are valid (R191, R192, R195). -/
def Part.settingsValid (p : Part) : Prop :=
  p.settings.ok = true ∧ (∀ c, p.store.copy = some c → c.ok = true) ∧ (∀ c, p.store.image = some c → c.ok = true)

/-- The clock stands in its range (R23). -/
def Clock.inRange (c : Clock) : Prop := c.minute ≤ Config.lastMinute ∧ c.second ≤ 59

/-- Every display shows what R136 and R145 derive for it. -/
def Part.displaysFollow (p : Part) : Prop :=
  ∀ d ∈ p.displays, d.content = p.contentFor d ∧ d.level = p.levelFor d ∧ d.drive = p.driveFor (p.levelFor d)

/-- From part `a` to part `b` the mark of a record is set, and the flag of its kind, of bit `kind`, is raised where `a` enables
it (R184, R186). -/
def Part.tells (a b : Part) (k : RecordKind) (i : Nat) (kind : NoticeSet) : Prop :=
  b.marks.get k i = true ∧ (a.notices.enables &&& kind ≠ 0 → b.notices.flags &&& kind ≠ 0)

/-- Every queue has its PRIORITY entries ahead of its ORDINARY ones (R115). -/
def Queue.inClassOrder (q : Queue) : Prop :=
  q.entries.Pairwise (fun a b => b.cls = .priority → a.cls = .priority)

/-- A unit's health stands in its ranges (R66). -/
def Health.inRange (h : Health) : Prop := h.settleCount ≤ 15 ∧ h.errorScore ≤ 65535

end Sys2Proof.Machine

/-- The commands by which the part is reset, starts or stops (R189, R190); a frame given as BAD_FRAME or UNKNOWN_REQUEST that
is a RESET is one of them (log entry 26). -/
def Sys2Proof.Instr.restarts : Sys2Proof.Instr → Bool
  | .resetTable _ => true
  | .resetAll _ => true
  | .powerOn => true
  | .powerLoss => true
  | .resetPinFall => true
  | .resetPinRise => true
  | .badFrame received =>
    Sys2Proof.Machine.frameOk received && decide (Sys2Proof.Machine.frameCode received = 0x08)
  | .unknownRequest code _ => decide (code = 0x08)
  | _ => false
end

