-- ==== Sys2Proof/Certificates/Slice0/Obligations.lean ====
section
/-! DEFINITION. The statements about the block: what each command does where it completes, when it is refused, and what every
step keeps. -/

section Statements

open Sys2Proof Sys2Proof.Machine

/-! ### The queue of commands -/

/-- A step takes the command at the front of the queue, and is exec of it on the state with the queue's rest. That the
commands wait in a queue is the model's form, log entry 1. -/
def Obligations.StepTakesFrontCommand : Prop :=
  ∀ (c : Instr) (rest : List Instr) (p : Part),
    step { part := p, pending := c :: rest } = exec c { part := p, pending := rest }

/-- With no command waiting, the timebase of a running part goes on by 1 us: the model's choice, log entry 1. -/
def Obligations.StepOnEmptyQueueTicks : Prop :=
  ∀ p : Part, p.power = .running →
    ∃ q, step { part := p, pending := [] } = .next { part := q, pending := [] } ∧ q.now = p.now + 1 ∧
      q.answer = p.answer ∧ q.slots = p.slots ∧ q.clock = p.clock ∧ q.settings = p.settings ∧ q.control = p.control

/-! ### Reset -/

/-- Right after power-on: seats, floors, queues, bookings and the clock (R88, R20, R114, R45, R63). Right after
power-on: displays, their effective content, level and drive value as R136 and R145 derive them, their configuration and
their place in no rotation (R148), the ambient record (R149), layout, engines and WALL's position table, power controller,
notices, marks and the store (R19, R168, R169, R188, R184, R196), and the start answer (R179); the settings are the factory
defaults, since a new part holds no valid stored image (log entry 3). -/
def Obligations.ResetLeavesTheStartValues : Prop :=
  (State.reset.pending = [] ∧
  (State.reset.part.seats.length = 96 ∧ ∀ x ∈ State.reset.part.seats,
    x.unitKind = none ∧ x.unitSerial = none ∧ x.health.presence = .absent ∧ x.health.settleCount = 0 ∧
    x.health.errorScore = 0 ∧ x.badge = none ∧ x.badgeCandidate = none ∧ x.badgeRepeat = 0 ∧ x.occupant = none ∧
    x.role = .ordinary ∧ x.micConfirmed = false ∧ x.takenTags = { speak := none, next := none, cancelAll := none } ∧
    x.priorityUp = false ∧ x.priorityHeld = false ∧ x.flashDue = false ∧ x.lostPresses = 0 ∧ x.guardUntil = none) ∧
  (State.reset.part.floors.length = 4 ∧ ∀ x ∈ State.reset.part.floors,
    x.state = .free ∧ x.suspended = false ∧ x.zones = none ∧ x.booking = none ∧ x.params = none ∧ x.priorityHolders = 0 ∧
    x.openOrder = 0 ∧ x.openList = []) ∧
  (State.reset.part.queues.length = 4 ∧ ∀ x ∈ State.reset.part.queues, x.entries = [] ∧ x.lastArrival = 0) ∧
  (State.reset.part.slots.length = 48 ∧ ∀ x ∈ State.reset.part.slots, x = none) ∧
  State.reset.part.contexts = [none, none, none, none] ∧ State.reset.part.lastHandle = 0 ∧
  State.reset.part.clock = { valid := false, minute := 0, second := 0 }) ∧
  ((State.reset.part.displays.length = 8 ∧ State.reset.part.displays.map (fun x => x.config) = factorySettings.displays ∧
    ∀ x ∈ State.reset.part.displays,
      x.unitPosition = none ∧ x.unitSerial = none ∧ x.health.presence = .absent ∧ x.health.settleCount = 0 ∧
      x.health.errorScore = 0 ∧ x.phaseB = false ∧ x.phaseElapsedS = 0 ∧ x.shown = false ∧ x.level = 12 ∧
      x.drive = factorySettings.brightness.getD 12 0 ∧
      x.content = match x.config.binding with
        | none => .blank
        | some z => .idle z) ∧
  (State.reset.part.ambient.health.presence = .absent ∧ State.reset.part.ambient.health.settleCount = 0 ∧
    State.reset.part.ambient.health.errorScore = 0 ∧ State.reset.part.ambient.sensorPosition = none ∧
    State.reset.part.ambient.sensorSerial = none ∧ State.reset.part.ambient.lastReading = none ∧
    State.reset.part.ambient.band = 2) ∧
  (State.reset.part.partitions.length = 3 ∧ ∀ x ∈ State.reset.part.partitions,
    x.state = .closed ∧ x.sensorPosition = none ∧ x.sensorSerial = none ∧ x.health.presence = .absent ∧
    x.health.settleCount = 0 ∧ x.health.errorScore = 0 ∧ x.candidate = none ∧ x.repeatCount = 0) ∧
  State.reset.part.rooms = [⟨1, 1⟩, ⟨2, 2⟩, ⟨3, 3⟩, ⟨4, 4⟩] ∧
  (∀ seg, (State.reset.part.engine seg).state = .walking ∧ (State.reset.part.engine seg).scope = .full ∧
    (State.reset.part.engine seg).pointer = 0 ∧ (State.reset.part.engine seg).urgent = [] ∧
    (State.reset.part.engine seg).conflicts = 0 ∧ (State.reset.part.engine seg).unitsFound = 0 ∧
    (State.reset.part.engine seg).unitsParked = 0 ∧ (State.reset.part.engine seg).walkOverflow = false) ∧
  (∀ pos, State.reset.part.roleAt pos = none) ∧
  State.reset.part.control =
    { tableState := .awake, lastWakeCause := .none, idleMark := 0, sleep := { left := false, right := false, wall := false } } ∧
  State.reset.part.notices = { flags := 0x080, enables := 0, signals := 0 } ∧ State.reset.part.attn = false ∧
  State.reset.part.answer = { status := .done, code := 0, body := [1, 2] } ∧
  (∀ k i, State.reset.part.marks.get k i = false) ∧
  State.reset.part.settings = factorySettings ∧ State.reset.part.store.source = .factory ∧
  State.reset.part.store.lastStore = .none ∧ State.reset.part.store.copy = none ∧
  State.reset.part.store.liveDiffers = true)

/-! ### The control port's own requests -/

/-- IDENTIFY (R181): in every table state the counts of the part, its revision 1 and its part code; nothing else
changes. -/
def Obligations.IdentifyReturnsTheCounts : Prop :=
  ∀ s : State, s.runs →
    Answers (.identify []) s 0x01 .done
      (bytes 2 Config.partCode.toNat ++ [1, 96, 48, 12, 8, 4, 3, 4, 48, 3, 0, 64, 16, 4, 0])

/-- READ of a record other than a booking (R182): the record's image, and the record's own mark is cleared; no other
mark and nothing else changes. An index outside the kind's range is BAD_VALUE. READ of a booking (R182, R183): by its
handle, in pages of 32 roster entries; page 1, asked for as 0 or 1, clears the mark of the slot, pages 2 and 3 clear none.
READ of a booking by a handle that no record holds: NO_RECORD, and nothing changes (R182). -/
def Obligations.ReadAnswersTheImage : Prop :=
  (∀ (s : State) (code i : Nat) (k : RecordKind), s.runs → code < 256 → i < 65536 → kindOf code = some k → k ≠ .booking →
    (k.holds i = true →
      exec (.read (byte code ++ bytes 2 i)) s =
        .next { s with part := { s.part with
          answer := { status := .done, code := 0x02, body := s.part.imageOfRecord k i }
          marks := s.part.marks.set k i false } } ∧
      ∀ k' i', k'.holds i' = true → (k', i') ≠ (k, i) → (s.part.marks.set k i false).get k' i' = s.part.marks.get k' i') ∧
    (k.holds i = false → Answers (.read (byte code ++ bytes 2 i)) s 0x02 .badValue [])) ∧
  (∀ (s : State) (h page slot : Nat) (b : Booking), s.runs → 1 ≤ h → h < 65536 → page ≤ 3 →
    s.part.slotOf h = some slot → s.part.slotAt slot = some b →
      exec (.read (byte 4 ++ bytes 2 h ++ byte page)) s =
        .next { s with part := { s.part with
          answer := { status := .done, code := 0x02, body := bookingImage slot (max page 1) b }
          marks := if page ≤ 1 then s.part.marks.set .booking slot false else s.part.marks } }) ∧
  (∀ (s : State) (h page : Nat), s.runs → 1 ≤ h → h < 65536 → page ≤ 3 → s.part.slotOf h = none →
    Answers (.read (byte 4 ++ bytes 2 h ++ byte page)) s 0x02 .noRecord [])

/-- The bytes of the record images (R198): most significant byte first, codes as the formats give them, absent seats, floors,
zones and tags sent as 0, an absent press tag and an absent candidate as 0xFF. The record images of the clock, a seat, a floor,
a queue, the ambient sensor, the layout, the table and the settings with their eight groups, and the blocks they are made of;
a booking's page and a display's image. The formats give no code to an absent handle, an absent position and an absent serial:
that the first two are sent as 0 and the serial as a free value is the model's choice, log entry 17. -/
def Obligations.RecordImagesAreLaidOut : Prop :=
  (∀ q : FloorParams, paramsBytes q =
    byte (match q.mode with | .openFloor => 1 | .autoQueue => 2 | .moderated => 3) ++ byte q.limit ++
    byte (match q.overflow with | .queue => 1 | .replaceOldest => 2 | .refuse => 3) ++ flagByte q.selfClose ++
    bytes 2 q.allowance ++ byte q.warningLead ++ byte (match q.expiryAction with | .warnOnly => 1 | .close => 2) ++
    byte q.queueCap ++ byte q.alertLevel ++ byte q.lifetime ∧ (paramsBytes q).length = 11) ∧
  (∀ h : Health, healthBytes h =
    byte (match h.presence with | .absent => 0 | .settling => 1 | .present => 2 | .degraded => 3 | .cutOff => 4) ++
    byte h.settleCount ++ bytes 2 h.errorScore) ∧
  (∀ v, bytes 2 v = [BitVec.ofNat 8 (v / 256), BitVec.ofNat 8 v] ∧
    bytes 3 v = [BitVec.ofNat 8 (v / 65536), BitVec.ofNat 8 (v / 256), BitVec.ofNat 8 v] ∧ byte v = [BitVec.ofNat 8 v]) ∧
  (∀ (p : Part) (n : Nat) (x : Seat), p.seatAt n = x → p.imageOfRecord .seat n =
    byte n ++
    byte (match x.unitKind with
      | none => 0 | some .delegate => 1 | some .chair => 2 | some .display => 3 | some .ambient => 4 | some .partition => 5) ++
    bytes 4 (x.unitSerial.getD Config.absentSerial).toNat ++ healthBytes x.health ++ bytes 2 (x.badge.getD 0).toNat ++
    bytes 2 (x.badgeCandidate.getD 0).toNat ++ byte x.badgeRepeat ++ bytes 2 (x.occupant.getD 0).toNat ++
    byte (match x.role with | .chair => 1 | .priority => 2 | .ordinary => 3) ++ flagByte (p.admitted n) ++
    byte (match p.micOf n with | .closed => 0 | .queued => 1 | .live => 2 | .muted => 3) ++ flagByte x.micConfirmed ++
    (match x.takenTags.speak with | none => [0xFF] | some t => byte t.toNat) ++
    (match x.takenTags.next with | none => [0xFF] | some t => byte t.toNat) ++
    (match x.takenTags.cancelAll with | none => [0xFF] | some t => byte t.toNat) ++ flagByte x.priorityUp ++
    flagByte x.priorityHeld ++ flagByte x.flashDue ++ byte x.lostPresses ++
    bytes 2 (match x.guardUntil with | none => 0 | some g => (g - p.now + 999) / 1000)) ∧
  (∀ (p : Part) (f : Nat) (fl : Floor), p.floorAt f = fl → p.imageOfRecord .floor f =
    byte f ++ byte (match fl.state with | .free => 0 | .preparing => 1 | .ready => 2 | .live => 3 | .closing => 4) ++
    flagByte fl.suspended ++ (match fl.zones with | none => [0, 0] | some r => byte r.first ++ byte r.last) ++
    bytes 2 (fl.booking.getD 0) ++ (match fl.params with | none => List.replicate 11 0 | some q => paramsBytes q) ++
    byte fl.priorityHolders ++ bytes 2 fl.openOrder ++ flagByte (p.queueAlert f) ++ byte fl.openList.length ++
    fl.openList.flatMap (fun e =>
      byte e.seat ++ byte (match e.cls with | .chair => 1 | .delegate => 2) ++ bytes 2 e.openedOrder ++ bytes 2 e.spokenS ++
      bytes 2 e.allowanceUsed ++
      byte ((if e.muted then 1 else 0) + (if e.warned then 2 else 0) + (if e.overtime then 4 else 0)))) ∧
  (∀ (p : Part) (f : Nat) (x : Queue), p.queueAt f = x → p.imageOfRecord .queue f =
    byte f ++ byte x.entries.length ++ bytes 2 x.lastArrival ++ x.entries.flatMap (fun e =>
      byte e.seat ++ byte (match e.cls with | .priority => 2 | .ordinary => 3) ++ bytes 2 e.arrival ++ bytes 2 e.waitedS)) ∧
  (∀ (slot page : Nat) (b : Booking), bookingImage slot page b =
    byte slot ++ bytes 2 b.handle ++ byte (match b.origin with | .host => 1 | .adHoc => 2) ++
    byte (match b.state with
      | .pending => 0 | .waiting => 1 | .preparing => 2 | .ready => 3 | .live => 4 | .closing => 5 | .ended => 6) ++
    byte b.zones.first ++ byte b.zones.last ++ bytes 3 b.startMinute ++ bytes 3 b.endMinute ++ byte b.lead ++ byte b.grace ++
    paramsBytes b.params ++ byte (match b.confidentiality with | .openMeeting => 1 | .privateMeeting => 2) ++
    bytes 2 b.guestCode.toNat ++ bytes 2 b.guestMask.toNat ++ byte (b.floor.getD 0) ++ flagByte b.startNoted ++
    flagByte b.closeNoted ++ byte (outcomeCode b.pendingOutcome) ++ flagByte b.retireOnCompletion ++
    byte (b.pendingSeat.getD 0) ++ byte (outcomeCode b.outcome) ++
    byte ((if b.flags.rosterUnseated then 1 else 0) + (if b.flags.wasSuspended then 2 else 0) +
      (if b.flags.closeUnconfirmed then 4 else 0) + (if b.flags.lateApply then 8 else 0)) ++
    byte b.roster.length ++ byte page ++ ((b.roster.drop (32 * (page - 1))).take 32).flatMap (fun e =>
      byte e.seat ++ bytes 2 e.tag.toNat ++ byte (match e.role with | .chair => 1 | .priority => 2 | .ordinary => 3))) ∧
  (outcomeCode none = 0 ∧ outcomeCode (some .completed) = 1 ∧ outcomeCode (some .endedEarly) = 2 ∧
    outcomeCode (some .missed) = 3 ∧ outcomeCode (some .bumped) = 4 ∧ outcomeCode (some .cutByReset) = 5) ∧
  (∀ c : DisplayConfig, configBytes c =
    byte (c.binding.getD 0) ++ contentBytes (some c.contentA) ++ contentBytes c.contentB ++ bytes 2 c.dwellA ++
    bytes 2 c.dwellB ++ flagByte c.outsideVisible ++ byte (if c.auto then 0 else 1) ++ byte c.fixedLevel) ∧
  (contentBytes none = [0, 0] ∧ contentBytes (some .followSpeaker) = [1, 0] ∧ contentBytes (some .queueView) = [2, 0] ∧
    (∀ n, contentBytes (some (.source n)) = 3 :: byte n) ∧ contentBytes (some .blank) = [4, 0]) ∧
  (∀ (d : Nat) (x : Display), displayImage d x =
    byte d ++ byte (x.unitPosition.getD 0) ++ bytes 4 (x.unitSerial.getD Config.absentSerial).toNat ++
    healthBytes x.health ++ configBytes x.config ++ byte (if x.phaseB then 1 else 0) ++ bytes 2 x.phaseElapsedS ++
    effectiveBytes x.content ++ byte x.level ++ byte x.drive ++ flagByte x.shown) ∧
  (∀ c : Effective, effectiveBytes c =
    (match c with
      | .idle z => 5 :: byte z
      | .reserved h start => 6 :: (bytes 2 h ++ bytes 3 start)
      | .floorCard f h => 7 :: (byte f ++ bytes 2 h)
      | .speaker n t => 8 :: (byte n ++ bytes 2 t.toNat)
      | .queueView items => 2 :: (byte items.length ++ items.flatMap (fun i => byte i.seat ++ bytes 2 i.tag.toNat))
      | .source n => 3 :: byte n
      | .blank => [4]) ++ List.replicate (14 - (effectiveFields c).length) 0) ∧
  (∀ (p : Part) (i : Nat), p.imageOfRecord .clock i =
    flagByte p.clock.valid ++ bytes 3 p.clock.minute ++ byte p.clock.second) ∧
  (∀ (p : Part) (i : Nat), p.imageOfRecord .ambient i =
    byte (p.ambient.sensorPosition.getD 0) ++ bytes 4 (p.ambient.sensorSerial.getD Config.absentSerial).toNat ++
    healthBytes p.ambient.health ++ bytes 2 (p.ambient.lastReading.getD 0xFFFF) ++ byte p.ambient.band ++
    bytes 2 p.settings.t1 ++ bytes 2 p.settings.t2 ++ bytes 2 p.settings.t3 ++ byte p.settings.hysteresis ++
    p.settings.bandLevels.flatMap byte) ∧
  (∀ (p : Part) (i : Nat), p.imageOfRecord .layout i =
    p.settings.zoneMap.flatMap (fun z =>
      (match z.left with | none => [0, 0] | some (a, b) => byte a ++ byte b) ++
      (match z.right with | none => [0, 0] | some (a, b) => byte a ++ byte b)) ++
    p.partitions.flatMap (fun x =>
      byte (match x.state with | .closed => 0 | .opened => 1) ++ byte (x.sensorPosition.getD 0) ++
      bytes 4 (x.sensorSerial.getD Config.absentSerial).toNat ++ healthBytes x.health ++
      byte (match x.candidate with | none => 0xFF | some .closed => 0 | some .opened => 1) ++ byte x.repeatCount) ++
    byte p.rooms.length ++ p.rooms.flatMap (fun r => byte r.first ++ byte r.last)) ∧
  (∀ (p : Part) (i : Nat) (segment : Engine → List Byte), (∀ e, segment e =
      byte (match e.state with | .idle => 0 | .walking => 1 | .running => 2) ++
      byte (match e.scope with | .full => 0 | .sensors => 1) ++ byte e.unitsFound ++ byte e.unitsParked ++
      flagByte e.walkOverflow ++ bytes 2 e.conflicts) →
    p.imageOfRecord .table i =
      byte (match p.control.tableState with | .awake => 0 | .enteringStandby => 1 | .standby => 2 | .waking => 3) ++
      byte (match p.control.lastWakeCause with
        | .none => 0 | .wakeLine => 1 | .host => 2 | .bookingDue => 3 | .partition => 4 | .press => 5 | .settings => 6
        | .reset => 7) ++
      segment p.left ++ segment p.right ++ segment p.wall ++ byte p.slotsFree ++ bytes 2 p.rosterFree ++ byte p.queueFree ++
      flagByte p.queuePoolLow) ∧
  (∀ (p : Part) (i : Nat), p.imageOfRecord .settings i =
    byte (match p.store.source with | .stored => 1 | .factory => 2) ++ flagByte p.store.copy.isSome ++
    byte (match p.store.lastStore with | .none => 0 | .done => 1 | .failed => 2) ++ flagByte p.store.liveDiffers ++
    p.settings.zoneMap.flatMap (fun z =>
      (match z.left with | none => [0, 0] | some (a, b) => byte a ++ byte b) ++
      (match z.right with | none => [0, 0] | some (a, b) => byte a ++ byte b)) ++
    byte p.settings.partitionSettle ++ byte p.settings.presenceSettle ++ byte p.settings.badgeSettle ++
    byte p.settings.booking.lead ++ byte p.settings.booking.grace ++ paramsBytes p.settings.booking.params ++
    byte (match p.settings.booking.confidentiality with | .openMeeting => 1 | .privateMeeting => 2) ++
    bytes 2 p.settings.booking.guestCode.toNat ++ bytes 2 p.settings.booking.guestMask.toNat ++
    flagByte p.settings.adHocAllowed ++ byte p.settings.adHocLength ++ paramsBytes p.settings.adHocParams ++
    flagByte p.settings.standbyAllowed ++ byte p.settings.idleDelay ++ byte p.settings.standbyLead ++
    bytes 2 p.settings.t1 ++ bytes 2 p.settings.t2 ++ bytes 2 p.settings.t3 ++ byte p.settings.hysteresis ++
    p.settings.bandLevels.flatMap byte ++ p.settings.brightness.flatMap byte ++ p.settings.displays.flatMap configBytes)

/-- FIND_CHANGED (R185): the lowest index at or above the start whose mark is set, for BOOKING of a slot that holds a
record, whose handle follows; NO_RECORD where there is none. Nothing but the answer changes. CLEAR_NOTICES (R187): the
named flags become no, the answer carries the flags before and after, and nothing else changes; a set that names a
kind outside the nine is BAD_VALUE. SET_NOTICE_ENABLES (R188): both layers of enables are written, the flags stay; a
set that names a kind outside the nine is BAD_VALUE. -/
def Obligations.MarksAndNoticesRequests : Prop :=
  (∀ (s : State) (code i : Nat) (k : RecordKind), s.runs → code < 256 → i < 256 → kindOf code = some k → k.holds i = true →
    (∀ j, i ≤ j → k.holds j = true → s.part.marks.get k j = true → (k = .booking → (s.part.slotAt j).isSome = true) →
      (∀ m, i ≤ m → m < j → k.holds m = true → s.part.marks.get k m = true → k = .booking ∧ s.part.slotAt m = none) →
      Answers (.findChanged (byte code ++ byte i)) s 0x03 .done
        (byte j ++ if k = .booking then bytes 2 (((s.part.slotAt j).map (fun b => b.handle)).getD 0) else [])) ∧
    ((∀ m, i ≤ m → k.holds m = true → s.part.marks.get k m = true → k = .booking ∧ s.part.slotAt m = none) →
      Answers (.findChanged (byte code ++ byte i)) s 0x03 .noRecord [])) ∧
  (∀ s : State, s.runs →
    (∀ named : NoticeSet,
      exec (.clearNotices (bytes 2 named.toNat)) s =
        .next { s with part := { s.part with
          notices := { s.part.notices with flags := s.part.notices.flags &&& ~~~named }
          answer := { status := .done, code := 0x04
                      body := bytes 2 s.part.notices.flags.toNat ++ bytes 2 (s.part.notices.flags &&& ~~~named).toNat } } }) ∧
    (∀ v, 512 ≤ v → v < 65536 → Answers (.clearNotices (bytes 2 v)) s 0x04 .badValue [])) ∧
  (∀ s : State, s.runs →
    (∀ enables signals : NoticeSet,
      exec (.setNoticeEnables (bytes 2 enables.toNat ++ bytes 2 signals.toNat)) s =
        .next { s with part := { s.part with
          notices := { flags := s.part.notices.flags, enables := enables, signals := signals }
          answer := { status := .done, code := 0x05, body := bytes 2 enables.toNat ++ bytes 2 signals.toNat } } }) ∧
    (∀ v w, v < 65536 → w < 65536 → (512 ≤ v ∨ 512 ≤ w) →
      Answers (.setNoticeEnables (bytes 2 v ++ bytes 2 w)) s 0x05 .badValue []))

/-- A frame that fails its checks, a code outside the catalogue, a write while RDY is low and an unknown marker (R176,
R177, R178, R180): BAD_FRAME and UNKNOWN_REQUEST stand in the answer buffer, the PORT flag rises under its notice
enable, and no record changes. -/
def Obligations.PortTurnsWritesAway : Prop :=
  ∀ s : State, s.runs →
    (∀ received : List Byte, frameOk received = false →
      exec (.badFrame received) s =
        .next { s with part := { s.part with
          notices := { s.part.notices with flags := s.part.notices.flags ||| (0x100 &&& s.part.notices.enables) }
          answer := { status := .badFrame, code := received.getD 2 0, body := [] } } }) ∧
    (∀ (code : Byte) (body : List Byte), code.toNat ∉ catalogueCodes →
      Answers (.unknownRequest code body) s code .unknownRequest []) ∧
    (exec .writeWhileBusy s =
      .next { s with part := { s.part with
        notices := { s.part.notices with flags := s.part.notices.flags ||| (0x100 &&& s.part.notices.enables) } } }) ∧
    (∀ marker : Byte, marker ≠ 0x5A → marker ≠ 0xA5 →
      exec (.unknownMarker marker) s =
        .next { s with part := { s.part with
          notices := { s.part.notices with flags := s.part.notices.flags ||| (0x100 &&& s.part.notices.enables) } } })

/-- The check word and the frames (R177, R179, R198): the word begins as 0xFFFF, and each byte enters it most significant bit
first by the polynomial 0x1021; a frame passes exactly when its length of at most 1024 counts the body between code and word,
and the word is the one computed; an answer frame is status, echoed code, length, body and word, with 0xFF after it. -/
def Obligations.FramesCarryTheCheckWord : Prop :=
  (crc16 [] = 0xFFFF#16 ∧ ∀ (l : List Byte) (b : Byte), crc16 (l ++ [b]) =
    (List.range 8).foldl (fun (c : BitVec 16) k => if c.msb ≠ b.getMsbD k then (c <<< 1) ^^^ 0x1021#16 else c <<< 1) (crc16 l)) ∧
  (∀ l, crcBytes l = [(crc16 l).extractLsb' 8 8, (crc16 l).extractLsb' 0 8]) ∧
  (∀ received : List Byte, frameOk received = true ↔
    ∃ (code : Byte) (body front : List Byte), body.length ≤ 1024 ∧
      front = [BitVec.ofNat 8 (body.length / 256), BitVec.ofNat 8 body.length, code] ++ body ∧
      received = front ++ crcBytes front ∧ frameCode received = code ∧ frameBody received = body) ∧
  (∀ (a : Answer) (front : List Byte), front =
      (match a.status with
        | .done => 0x00 | .accepted => 0x01 | .busy => 0x10 | .notAllowed => 0x11 | .badValue => 0x12 | .noRecord => 0x13
        | .conflict => 0x14 | .tableFull => 0x15 | .floorFull => 0x16 | .queueFull => 0x17 | .notAdmitted => 0x18
        | .badFrame => 0x19 | .unknownRequest => 0x1A) ::
        a.code :: BitVec.ofNat 8 (a.body.length / 256) :: BitVec.ofNat 8 a.body.length :: a.body →
    a.frame = front ++ crcBytes front ∧ ∀ n, a.transaction n = (a.frame ++ List.replicate n 0xFF).take n)

/-- The port's outputs (R176, R178, R179, R186, R190). RDY is high exactly while the part runs with no request in hand, and
ATTN exactly while it runs with the flag and the signal enable of a kind both yes. A read returns the answer in the buffer; with
a request in hand the busy image with its code; and while the part does not run the busy image with code 0; a write reads 0x00.
A fall of RESET and a loss of the supply bring both lines low, and lose the request in hand. That the request in hand is the
first that waits in the queue of commands, before any rise of RESET or POWER_ON, is the model's form, log entries 2 and 24. -/
def Obligations.PortOutputsFollowTheState : Prop :=
  ∀ s : State,
    (s.rdy = true ↔ s.runs ∧ s.inHand = none) ∧
    (s.part.attn = true ↔
      s.runs ∧ ∃ k, k < 9 ∧ s.part.notices.flags.getLsbD k = true ∧ s.part.notices.signals.getLsbD k = true) ∧
    (∀ n, writeTransactionOutput n = List.replicate n 0x00) ∧
    (¬ s.runs → s.inHand = none ∧ ∀ n,
      s.readTransaction n = ({ status := .busy, code := 0x00, body := [] } : Answer).transaction n) ∧
    (s.runs →
      ((∀ c ∈ s.pending, requestCode c = none) → s.inHand = none) ∧
      (∀ front c rest, s.pending = front ++ c :: rest →
        (∀ x ∈ front, requestCode x = none ∧ x ≠ .powerOn ∧ x ≠ .resetPinRise) →
        (∀ code, requestCode c = some code → s.inHand = some code) ∧
        (c = .powerOn ∨ c = .resetPinRise → s.inHand = none)) ∧
      (s.inHand = none → ∀ n, s.readTransaction n = s.part.answer.transaction n) ∧
      (∀ code, s.inHand = some code → ∀ n,
        s.readTransaction n = ({ status := .busy, code := code, body := [] } : Answer).transaction n)) ∧
    (∀ c, c = .resetPinFall ∨ c = .powerLoss →
      ∃ t, exec c s = .next t ∧ t.pending = s.pending ∧ t.part.answer = s.part.answer ∧
        (s.runs ∨ c = .powerLoss → t.rdy = false ∧ t.part.attn = false ∧ t.inHand = none))

/-! ### Resets, the RESET input and the supply -/

/-- RESET TABLE (R189, R20, R46, R63, R88, R114, R184): one step clears seats, floors, queues and operations and every
notice flag, sets every mark that exists and the idle mark (R169), and keeps the clock, the settings and the store, the
timebase, the last handle (R46), the partitions' states, the displays' configurations and the ambient band. -/
def Obligations.ResetTableClearsTheTable : Prop :=
  ∀ s : State, s.runs → ∃ p, exec (.resetTable [1]) s = .next { s with part := p } ∧
    p.answer = { status := .done, code := 0x08, body := [] } ∧
    p.seats = List.replicate 96 startSeat ∧ p.floors = List.replicate 4 startFloor ∧
    p.queues = List.replicate 4 startQueue ∧ p.contexts = List.replicate 4 none ∧
    p.notices = { s.part.notices with flags := 0 } ∧
    (∀ k i, k.holds i = true → (k = .booking → (s.part.slotAt i).isSome = true) → s.part.slots.length = 48 →
      p.marks.get k i = true) ∧
    p.clock = s.part.clock ∧ p.settings = s.part.settings ∧ p.store = s.part.store ∧ p.now = s.part.now ∧
    p.lastHandle = s.part.lastHandle ∧ p.partitions.map (fun x => x.state) = s.part.partitions.map (fun x => x.state) ∧
    p.displays.map (fun d => d.config) = s.part.displays.map (fun d => d.config) ∧
    p.ambient.band = s.part.ambient.band ∧ p.control.idleMark = s.part.now

/-- RESET TABLE at the bookings (R46, R43): PENDING and ENDED stay as they are, every other becomes ENDED with outcome
CUT_BY_RESET, gives up its floor, `start_noted`, `close_noted`, its pending outcome, `retire_on_completion` and its pending
seat, and keeps every other field, roster and flags among them; no record is made or freed. RESET TABLE at the engines and
the power controller (R168, R169, R172): every segment walks, its line break begun where the line is free, its urgent list
empty; a table asleep or on its way there begins WAKING with cause RESET. That the walks are begun in the same step where
the line is free is the model's choice, log entry 30. -/
def Obligations.ResetTableCutsBookingsAndWalks : Prop :=
  (∀ (s : State) (p : Part), s.runs → exec (.resetTable [1]) s = .next { s with part := p } →
    ∀ k, match s.part.slotAt k with
      | none => p.slotAt k = none
      | some b =>
        if b.state = .pending ∨ b.state = .ended then p.slotAt k = some b
        else p.slotAt k = some
          { b with state := .ended, outcome := some .cutByReset, pendingOutcome := none, floor := none, startNoted := false,
                   closeNoted := false, retireOnCompletion := false, pendingSeat := none }) ∧
  (∀ (s : State) (p : Part), s.runs → exec (.resetTable [1]) s = .next { s with part := p } →
    (∀ seg, (p.engine seg).state = .walking ∧ (p.engine seg).urgent = [] ∧ (p.engine seg).scope = .full ∧
      ((s.part.engine seg).line = none →
        (p.engine seg).walk.map (fun w => w.phase) = some .lineBreak ∧ (p.engine seg).unitsFound = 0 ∧
        (p.engine seg).line = none)) ∧
    (s.part.control.tableState = .awake ∨ s.part.control.tableState = .waking →
      p.control.tableState = s.part.control.tableState ∧ p.control.lastWakeCause = s.part.control.lastWakeCause) ∧
    (s.part.control.tableState = .enteringStandby ∨ s.part.control.tableState = .standby →
      p.control.tableState = .waking ∧ p.control.lastWakeCause = .reset))

/-- RESET ALL with no store in flight, a rise of RESET and power-on with RESET high start the part afresh from its stored
image; RESET ALL during a store is BUSY (R189, R190, R191). That a pin reset and RESET ALL keep the timebase, and that a
part which comes up with RESET low waits for its rise and then starts with cause PIN_RESET, is the model's choice, log entry 4. A RESET of any other scope is
BAD_VALUE (R189). What a start loads and answers (R179, R190, R191, R196): the stored image's settings, or the factory
defaults with the SETTINGS flag when the image fails its check; the start answer; every other flag, the enables and the
marks are no. -/
def Obligations.StartsLoadTheStoredImage : Prop :=
  (∀ s : State,
    (s.runs → s.part.store.copy = none →
      exec (.resetAll [2]) s = .next { s with part := Part.started .resetAll s.part.store.image s.part.now }) ∧
    (s.runs → s.part.store.copy.isSome = true → Answers (.resetAll [2]) s 0x08 .busy []) ∧
    (s.part.power = .resetLow →
      exec .resetPinRise s = .next { s with part := Part.started .pinReset s.part.store.image s.part.now }) ∧
    (s.part.power = .off ∨ s.part.power = .running →
      ∀ image, image = (if s.part.store.copy.isSome then none else s.part.store.image) →
        exec .powerOn s = .next { s with part := Part.started .powerOn image 0 }) ∧
    (s.part.power = .offResetLow ∨ s.part.power = .resetLow →
      ∃ p, exec .powerOn s = .next { s with part := p } ∧ p.power = .resetLow ∧ p.now = 0 ∧ p.answer = s.part.answer ∧
        p.store.image = if s.part.store.copy.isSome then none else s.part.store.image)) ∧
  (∀ (s : State) (body : List Byte), s.runs → body ≠ [1] → body ≠ [2] →
    Answers (.resetTable body) s 0x08 .badValue [] ∧ Answers (.resetAll body) s 0x08 .badValue []) ∧
  (∀ (cause : StartCause) (image : Option Settings) (now : Nat),
    (Part.started cause image now).settings = image.getD factorySettings ∧
    (Part.started cause image now).store.source = (if image.isSome then .stored else .factory) ∧
    (Part.started cause image now).store.liveDiffers = image.isNone ∧
    (Part.started cause image now).store.copy = none ∧ (Part.started cause image now).store.lastStore = .none ∧
    (Part.started cause image now).notices =
      { flags := if image.isSome then 0 else 0x080, enables := 0, signals := 0 } ∧
    (Part.started cause image now).answer =
      { status := .done, code := 0, body := [cause.code, if image.isSome then 1 else 2] } ∧
    (Part.started cause image now).power = .running ∧
    (∀ k i, (Part.started cause image now).marks.get k i = false) ∧
    (∀ n, ((Part.started cause image now).seatAt n).health.presence = .absent) ∧
    (∀ k, (Part.started cause image now).slotAt k = none) ∧
    (Part.started cause image now).control.tableState = .awake ∧ (Part.started cause image now).control.idleMark = now)

/-- RESET falls, or the supply is lost (R190, R195): a store in flight is cut short, so that the stored image fails its
check; every record else stands as it was. While RESET is low, or without supply, no request is taken, and one that was in hand
is lost without an answer (R190): every request, of a code in the catalogue or not, and a bad frame complete with nothing
changed. That they complete so, and that the level of RESET is kept while the supply is off, is the model's choice, log
entries 24 and 4. -/
def Obligations.ResetLowAndPowerLossStopThePart : Prop :=
  (∀ s : State,
    (s.runs → exec .resetPinFall s = .next { s with part := { s.part with
      power := .resetLow
      store := if s.part.store.copy.isSome then { s.part.store with copy := none, image := none } else s.part.store } }) ∧
    (s.part.power = .off → exec .resetPinFall s = .next { s with part := { s.part with power := .offResetLow } }) ∧
    (s.part.power = .offResetLow → exec .resetPinRise s = .next { s with part := { s.part with power := .off } }) ∧
    exec .powerLoss s = .next { s with part := { s.part with
      power := if s.part.power = .resetLow ∨ s.part.power = .offResetLow then .offResetLow else .off
      store := if s.part.store.copy.isSome then { s.part.store with copy := none, image := none } else s.part.store } }) ∧
  (∀ (s : State) (c : Instr), s.part.power ≠ .running → (requestCode c).isSome = true → Passes c s)

/-! ### The room clock and the booking table -/

/-- SET_CLOCK (R24): taken in every table state; `valid`, `minute` and `second` are written, the timebase, settings,
layout and enables stay. A second above 59 is BAD_VALUE. SET_CLOCK leaves every other record as it was when no booking
is there to meet a threshold: every slot is free or holds an ENDED booking (R24, R26). The clock's second (R23): while
it is set and not at its last second, `second` rises, and at 59 `minute` rises with `second` 0; otherwise it stands.
Below second 59 no other record changes. A minute boundary (R23, R26): the minute rises and the second is 0. The
booking that reaches its occupation start on held zones waits; here, with one PENDING booking reached, its zones held, and no
threshold of another booking doing anything, it becomes WAITING and every other booking stays. That the row acts at second 59
alone is the model's choice, log entry 6. -/
def Obligations.TheClockIsSetAndPasses : Prop :=
  (∀ (s : State) (minute second : Nat), s.runs → minute ≤ 16777215 → second < 256 →
    (second ≤ 59 → ∃ p, exec (.setClock (bytes 3 minute ++ byte second)) s = .next { s with part := p } ∧
      p.answer = { status := .done, code := 0x09, body := [] } ∧
      p.clock = { valid := true, minute := minute, second := second } ∧ p.now = s.part.now ∧
      p.settings = s.part.settings ∧ p.store = s.part.store ∧ p.partitions = s.part.partitions ∧
      p.ambient = s.part.ambient ∧ p.notices.enables = s.part.notices.enables ∧
      p.notices.signals = s.part.notices.signals ∧ p.power = .running) ∧
    (59 < second → Answers (.setClock (bytes 3 minute ++ byte second)) s 0x09 .badValue [])) ∧
  (∀ (s : State) (minute second : Nat), s.runs → minute ≤ 16777215 → second ≤ 59 →
    (∀ k b, s.part.slotAt k = some b → b.state = .ended) →
    AnswersWith (.setClock (bytes 3 minute ++ byte second)) s 0x09 .done []
      { s.part.records with clock := { valid := true, minute := minute, second := second } }) ∧
  (∀ s : State, s.runs → ∃ p, exec .clockSecond s = .next { s with part := p } ∧ p.answer = s.part.answer ∧
    p.clock = (if s.part.clock.valid = false ∨ (s.part.clock.minute = 16777215 ∧ s.part.clock.second = 59) then s.part.clock
      else if s.part.clock.second < 59 then { s.part.clock with second := s.part.clock.second + 1 }
      else { s.part.clock with minute := s.part.clock.minute + 1, second := 0 }) ∧
    (s.part.clock.second < 59 → p.records = { s.part.records with clock := p.clock }) ∧
    p.settings = s.part.settings ∧ p.partitions = s.part.partitions ∧ p.ambient = s.part.ambient ∧ p.now = s.part.now) ∧
  (∀ s : State, s.runs → s.part.clock.valid = true → s.part.clock.minute < 16777215 → s.part.clock.second = 59 →
    ∃ p, exec .minuteBoundary s = .next { s with part := p } ∧ p.answer = s.part.answer ∧
      p.clock = { valid := true, minute := s.part.clock.minute + 1, second := 0 } ∧ p.settings = s.part.settings ∧
      p.now = s.part.now ∧ p.partitions = s.part.partitions ∧
      (∀ k b, s.part.onlyOneMoves k b (s.part.clock.minute + 1) → b.state = .pending →
        b.startMinute - b.lead ≤ s.part.clock.minute + 1 → s.part.clock.minute + 1 < b.startMinute →
        s.part.clock.minute + 1 < b.endMinute + b.grace → s.part.control.tableState = .awake →
        s.part.unheld b.zones = false →
        p.records = { s.part.records with
          clock := p.clock, slots := upd s.part.slots k (fun _ => some { b with state := .waiting }) }))

/-- The thresholds of a booking at a minute boundary (R27, R43, R49, R50, R56), the table AWAKE, and no threshold of another
booking doing anything then. A PENDING or WAITING one whose `end` + `grace` is reached, its zones held, is ENDED as MISSED, or
with the outcome pending; a WAITING or PREPARING one notes its `start`, a PREPARING one its close; a READY one becomes LIVE with its floor; a LIVE one
begins close-out, here with a microphone open; CLOSING and ENDED ones stay. A PENDING one whose occupation start is reached,
its zones unheld, begins apply on the lowest FREE floor: the floor is bound, its seats take the roster, and every PRESENT or
DEGRADED seat has an AWAITING entry; with none of them it is READY in the same step. -/
def Obligations.ThresholdsActOnTheBooking : Prop :=
  ∀ (s : State) (k m : Nat) (b : Booking) (clock : Clock), s.runs → s.part.clock.valid = true → s.part.clock.minute < 16777215 →
    s.part.clock.second = 59 → m = s.part.clock.minute + 1 → clock = { valid := true, minute := m, second := 0 } →
    s.part.control.tableState = .awake → s.part.onlyOneMoves k b m → s.part.calm →
    (b.state = .pending ∨ b.state = .waiting → s.part.unheld b.zones = false → b.startMinute - b.lead ≤ m →
      b.endMinute + b.grace ≤ m →
      Leaves .minuteBoundary s { s.part.records with
        clock := clock
        slots := upd s.part.slots k (fun _ => some
          { b with state := .ended, outcome := some (b.pendingOutcome.getD .missed), pendingOutcome := none, floor := none,
                   startNoted := false, closeNoted := false, retireOnCompletion := false, pendingSeat := none }) }) ∧
    (b.state = .waiting → b.startMinute ≤ m → m < b.endMinute + b.grace →
      Leaves .minuteBoundary s { s.part.records with
        clock := clock, slots := upd s.part.slots k (fun _ => some { b with startNoted := true }) }) ∧
    (b.state = .preparing →
      Leaves .minuteBoundary s { s.part.records with
        clock := clock
        slots := upd s.part.slots k (fun _ => some
          { b with startNoted := b.startNoted || decide (b.startMinute ≤ m)
                   closeNoted := b.closeNoted || decide (b.endMinute + b.grace ≤ m) }) }) ∧
    (∀ f fl, b.state = .ready → b.floor = some f → nth s.part.floors f = some fl → b.startMinute ≤ m →
      m < b.endMinute + b.grace →
      Leaves .minuteBoundary s { s.part.records with
        clock := clock
        slots := upd s.part.slots k (fun _ => some { b with state := .live })
        floors := upd s.part.floors f (fun _ => { fl with state := .live }) }) ∧
    (∀ f fl, b.state = .live → b.floor = some f → nth s.part.floors f = some fl → s.part.contexts.length = 4 → 1 ≤ f → f ≤ 4 →
      b.endMinute + b.grace ≤ m → (∃ a ∈ fl.openList, 1 ≤ a.seat ∧ a.seat ≤ 96) →
      ∃ p, Ends .minuteBoundary s p ∧ p.clock = clock ∧ p.slotAt k = some { b with state := .closing } ∧
        (p.floorAt f).state = .closing ∧ (p.floorAt f).openList = [] ∧ (p.queueAt f).entries = [] ∧
        (∀ g, g ≠ f → p.floorAt g = s.part.floorAt g ∧ p.queueAt g = s.part.queueAt g) ∧
        ∃ x, p.contextAt f = some x ∧ x.booking = b.handle ∧ x.phase = .close ∧
          x.work.map (fun v => v.seat) = seatNumbers.filter (fun n => decide (n ∈ fl.openList.map (fun a => a.seat)))) ∧
    (b.state = .closing ∨ b.state = .ended ∨ (b.state = .live ∧ m < b.endMinute + b.grace) →
      Leaves .minuteBoundary s { s.part.records with clock := clock }) ∧
    (∀ f fl w served, b.state = .pending → b.startNoted = false → b.startMinute - b.lead ≤ m → m < b.startMinute → m < b.endMinute + b.grace →
      s.part.unheld b.zones = true → 1 ≤ f → f ≤ 4 → (∀ g, 1 ≤ g → g < f → (s.part.floorAt g).state ≠ .free) →
      nth s.part.floors f = some fl → fl.state = .free → nth s.part.queues f = some w → s.part.contexts.length = 4 →
      served = seatNumbers.filter (fun n => s.part.seatIn b.zones n && s.part.inService n) →
      ∃ p, Ends .minuteBoundary s p ∧
        p.slotAt k = some
          { b with
            state := if served = [] then .ready else .preparing, floor := some f
            flags := { b.flags with rosterUnseated := b.flags.rosterUnseated || s.part.unseats b } } ∧
        p.floorAt f = b.floorIn (if served = [] then .ready else .preparing) ∧
        p.queueAt f = { entries := [], lastArrival := 0 } ∧
        (if served = [] then p.contextAt f = none
        else ∃ x, p.contextAt f = some x ∧ x.booking = b.handle ∧ x.phase = .push ∧
          x.work.map (fun v => (v.seat, v.attempts, v.status)) = served.map (fun n => (n, 0, WorkStatus.awaiting))) ∧
        (∀ n x, nth s.part.seats n = some x →
          (p.seatAt n).quiet = (if s.part.seatIn b.zones n then b.seats n x else x).quiet) ∧
        (∀ g, g ≠ f → p.floorAt g = s.part.floorAt g ∧ p.queueAt g = s.part.queueAt g ∧ p.contextAt g = s.part.contextAt g) ∧
        p.records = { s.part.records with
          clock := clock, seats := p.records.seats, slots := p.slots, floors := p.floors, queues := p.queues
          contexts := p.contexts })

/-- A new booking's handle (R22): none of the records holds it, and it lies in 1 to 65535. CREATE_BOOKING (R29, R30)
for a booking whose occupation start lies ahead, on a table without AD_HOC bookings that is AWAKE: the record stands
PENDING in the lowest free slot with the next handle and the defaults of the omitted groups, and nothing else changes.
CREATE_BOOKING's refusals, in the order of R29's tests; a refused request changes nothing. -/
def Obligations.CreateBookingMakesOrRefuses : Prop :=
  (∀ p : Part, 1 ≤ p.nextHandle ∧ p.nextHandle ≤ 65535 ∧ ∀ k b, 1 ≤ k → k ≤ 48 → p.slotAt k = some b → b.handle ≠ p.nextHandle) ∧
  (∀ (s : State) (body : List Byte) (r : CreateRequest) (slot : Nat), s.runs → parseCreate body = some r →
    s.part.clock.valid = true → s.part.createInRange r = true → s.part.freeSlot = some slot →
    r.roster.length ≤ s.part.rosterFree →
    s.part.overlapConflict 0 r.zones (r.startMinute - (r.margins.getD (s.part.settings.booking.lead, s.part.settings.booking.grace)).1)
      (r.endMinute + (r.margins.getD (s.part.settings.booking.lead, s.part.settings.booking.grace)).2) = false →
    s.part.control.tableState = .awake → (∀ k b, s.part.slotAt k = some b → b.origin = .host) →
    s.part.clock.minute <
      r.startMinute - (r.margins.getD (s.part.settings.booking.lead, s.part.settings.booking.grace)).1 →
    AnswersWith (.createBooking body) s 0x10 .done (bytes 2 s.part.nextHandle ++ byte slot)
      { s.part.records with
        lastHandle := s.part.nextHandle
        slots := upd s.part.slots slot (fun _ => some
          { handle := s.part.nextHandle, origin := .host, state := .pending, zones := r.zones,
            startMinute := r.startMinute, endMinute := r.endMinute,
            lead := (r.margins.getD (s.part.settings.booking.lead, s.part.settings.booking.grace)).1,
            grace := (r.margins.getD (s.part.settings.booking.lead, s.part.settings.booking.grace)).2,
            params := r.params.getD s.part.settings.booking.params,
            confidentiality := (r.admission.map (fun a => a.confidentiality)).getD s.part.settings.booking.confidentiality,
            guestCode := (r.admission.map (fun a => a.guestCode)).getD s.part.settings.booking.guestCode,
            guestMask := (r.admission.map (fun a => a.guestMask)).getD s.part.settings.booking.guestMask,
            roster := putEntries [] r.roster, floor := none, startNoted := false, closeNoted := false,
            pendingOutcome := none, retireOnCompletion := false, pendingSeat := none, outcome := none,
            flags := { rosterUnseated := false, wasSuspended := false, closeUnconfirmed := false, lateApply := false } }) }) ∧
  (∀ (s : State) (body : List Byte) (r : CreateRequest), s.runs → parseCreate body = some r →
    (s.part.clock.valid = false → Answers (.createBooking body) s 0x10 .notAllowed []) ∧
    (s.part.clock.valid = true →
      (s.part.createInRange r = false → Answers (.createBooking body) s 0x10 .badValue []) ∧
      (s.part.createInRange r = true →
        (s.part.freeSlot = none → Answers (.createBooking body) s 0x10 .tableFull []) ∧
        (s.part.freeSlot ≠ none →
          (s.part.rosterFree < r.roster.length → Answers (.createBooking body) s 0x10 .tableFull []) ∧
          (r.roster.length ≤ s.part.rosterFree →
            s.part.overlapConflict 0 r.zones (s.part.created r).occStart (s.part.created r).occEnd = true →
            Answers (.createBooking body) s 0x10 .conflict [])))))

/-- A CREATE_BOOKING that bumps (R30, R31): one LIVE AD_HOC booking of a zone of the new booking, with overlapping spans, is cut
to the new booking's occupation start where that lies ahead, with grace 0 and outcome BUMPED pending, and goes on. Where the
occupation start has passed, its end is the current minute, and its close-out begins in the same step, here with a microphone
open, while the new booking waits for the zones. -/
def Obligations.CreateBookingBumpsAdHoc : Prop :=
  ∀ (s : State) (body : List Byte) (r : CreateRequest) (slot j : Nat) (a b : Booking), s.runs → parseCreate body = some r →
    s.part.clock.valid = true → s.part.createInRange r = true → s.part.freeSlot = some slot →
    r.roster.length ≤ s.part.rosterFree → s.part.control.tableState = .awake →
    b = s.part.created r → s.part.overlapConflict 0 b.zones (b.startMinute - b.lead) (b.endMinute + b.grace) = false →
    s.part.slotAt j = some a → s.part.slotOf a.handle = some j → a.origin = .adHoc → a.state = .live →
    (∀ k c, s.part.slotAt k = some c → c.origin = .adHoc → k = j) → a.zones.meets b.zones = true →
    a.startMinute - a.lead < b.endMinute + b.grace → b.startMinute - b.lead < a.endMinute + a.grace →
    s.part.clock.minute < a.endMinute →
    (s.part.clock.minute < b.startMinute - b.lead →
      AnswersWith (.createBooking body) s 0x10 .done (bytes 2 s.part.nextHandle ++ byte slot)
        { s.part.records with
          lastHandle := s.part.nextHandle
          slots := upd (upd s.part.slots slot (fun _ => some b)) j (fun _ => some
            { a with endMinute := min a.endMinute (b.startMinute - b.lead), grace := 0, pendingOutcome := some .bumped }) }) ∧
    (∀ f fl, b.startMinute - b.lead ≤ s.part.clock.minute → a.floor = some f → nth s.part.floors f = some fl →
      fl.zones = some a.zones → fl.state = .live → 1 ≤ f → f ≤ 4 → s.part.contexts.length = 4 → s.part.calm →
      a.zones.ok = true → b.zones.ok = true → (∃ e ∈ fl.openList, 1 ≤ e.seat ∧ e.seat ≤ 96) →
      ∃ p, Replies (.createBooking body) s 0x10 .done (bytes 2 s.part.nextHandle ++ byte slot) p ∧
        p.slotAt slot = some
          { b with state := .waiting, startNoted := decide (b.startMinute ≤ s.part.clock.minute) } ∧
        p.slotAt j = some
          { a with endMinute := s.part.clock.minute, grace := 0, pendingOutcome := some .bumped, state := .closing } ∧
        (p.floorAt f).state = .closing ∧ (p.floorAt f).openList = [] ∧ (p.queueAt f).entries = [] ∧
        (∃ c, p.contextAt f = some c ∧ c.booking = a.handle ∧ c.phase = .close) ∧
        (∀ k, k ≠ slot → k ≠ j → p.slotAt k = s.part.slotAt k) ∧
        (∀ g, g ≠ f → p.floorAt g = s.part.floorAt g ∧ p.queueAt g = s.part.queueAt g))

/-- CHANGE_BOOKING of a PENDING HOST booking (R32, R33) whose occupation start after the change lies ahead, on an
AWAKE table without AD_HOC bookings: the named groups are written, and nothing else changes. CHANGE_BOOKING's refusals
by handle and state (R32): NO_RECORD, BUSY in PREPARING, NOT_ALLOWED in CLOSING and ENDED, and NOT_ALLOWED for the
span group in WAITING, READY and LIVE. ROSTER_PUT and ROSTER_DROP where they are not available (R37, R38): NO_RECORD
for an unknown handle, BUSY in PREPARING, NOT_ALLOWED in CLOSING and ENDED. -/
def Obligations.ChangeBookingWritesOrRefuses : Prop :=
  (∀ (s : State) (body : List Byte) (r : ChangeRequest) (slot : Nat) (b c : Booking), s.runs → parseChange body = some r →
    s.part.slotOf r.handle = some slot → s.part.slotAt slot = some b → b.state = .pending → b.floor = none →
    c = { b with
      zones := (r.span.map (fun g => g.zones)).getD b.zones
      startMinute := (r.span.map (fun g => g.startMinute)).getD b.startMinute
      lead := (r.span.map (fun g => g.lead)).getD b.lead
      endMinute := (r.ending.map (fun g => g.endMinute)).getD b.endMinute
      grace := (r.ending.map (fun g => g.grace)).getD b.grace
      params := r.params.getD b.params
      confidentiality := (r.admission.map (fun a => a.confidentiality)).getD b.confidentiality
      guestCode := (r.admission.map (fun a => a.guestCode)).getD b.guestCode
      guestMask := (r.admission.map (fun a => a.guestMask)).getD b.guestMask } →
    s.part.changeInRange b r = true → s.part.overlapConflict b.handle c.zones c.occStart c.occEnd = false →
    s.part.control.tableState = .awake → (∀ k x, s.part.slotAt k = some x → x.origin = .host) →
    s.part.clock.minute < c.startMinute - c.lead → s.part.clock.minute < c.endMinute + c.grace →
    AnswersWith (.changeBooking body) s 0x11 .done []
      { s.part.records with slots := upd s.part.slots slot (fun _ => some c) }) ∧
  (∀ (s : State) (body : List Byte) (r : ChangeRequest), s.runs → parseChange body = some r →
    (s.part.bookingOf r.handle = none → Answers (.changeBooking body) s 0x11 .noRecord []) ∧
    (∀ b, s.part.bookingOf r.handle = some b →
      (r.span.isSome = true ∨ r.ending.isSome = true ∨ r.params.isSome = true ∨ r.admission.isSome = true) →
      (b.state = .preparing → Answers (.changeBooking body) s 0x11 .busy []) ∧
      (b.state = .closing ∨ b.state = .ended → Answers (.changeBooking body) s 0x11 .notAllowed []) ∧
      (r.span.isSome = true → b.state = .waiting ∨ b.state = .ready ∨ b.state = .live →
        Answers (.changeBooking body) s 0x11 .notAllowed []))) ∧
  (∀ (s : State) (body : List Byte) (h : Nat) (entries : List RosterEntry) (seats : List Nat), s.runs →
    (parseRosterPut body = some (h, entries) →
      (s.part.bookingOf h = none → Answers (.rosterPut body) s 0x13 .noRecord []) ∧
      (∀ b, s.part.bookingOf h = some b →
        (b.state = .preparing → Answers (.rosterPut body) s 0x13 .busy []) ∧
        (b.state = .closing ∨ b.state = .ended → Answers (.rosterPut body) s 0x13 .notAllowed []))) ∧
    (parseRosterDrop body = some (h, seats) →
      (s.part.bookingOf h = none → Answers (.rosterDrop body) s 0x14 .noRecord []) ∧
      (∀ b, s.part.bookingOf h = some b →
        (b.state = .preparing → Answers (.rosterDrop body) s 0x14 .busy []) ∧
        (b.state = .closing ∨ b.state = .ended → Answers (.rosterDrop body) s 0x14 .notAllowed []))))

/-- CHANGE_BOOKING of the parameters or the admission of a READY or LIVE booking (R34, R35), at an AWAKE table and with no
threshold reached. New parameters stand in the booking and its floor; where the limit stays above the delegates, and the
timers, the capacity and the lifetime stay, nothing else changes, here where no auto grant can follow. A limit lowered by one
below the delegates closes the most recently opened one as a forced close (R108); a lowered capacity removes the entries beyond
it from the tail (R125); another allowance that applies now is every DELEGATE entry's, warned and overtime by it under WARN_ONLY
(R107). A change to PRIVATE puts admission into force: the open list and the queue of a LIVE floor keep the admitted seats
alone, in their order, here on a MODERATED floor. -/
def Obligations.RunningBookingChangesAtTheFloor : Prop :=
  ∀ (s : State) (body : List Byte) (r : ChangeRequest) (k f : Nat) (b : Booking) (fl : Floor) (w : Queue), s.runs →
    parseChange body = some r → s.part.slotOf r.handle = some k → s.part.slotAt k = some b → b.floor = some f →
    (b.state = .live ∨ b.state = .ready ∧ s.part.clock.minute < b.startMinute) → s.part.clock.minute < b.endMinute + b.grace →
    s.part.control.tableState = .awake → nth s.part.floors f = some fl → nth s.part.queues f = some w →
    fl.params = some b.params → fl.booking = some b.handle → r.span = none → r.ending = none →
    s.part.changeInRange b r = true →
    (∀ q, r.params = some q → r.admission = none →
      (r.now = false → fl.delegates ≤ q.limit → q.warningLead = b.params.warningLead →
        q.expiryAction = b.params.expiryAction → b.params.queueCap ≤ q.queueCap → q.lifetime = b.params.lifetime →
        q.mode = .moderated ∨ w.entries = [] →
        AnswersWith (.changeBooking body) s 0x11 .done []
          { s.part.records with
            slots := upd s.part.slots k (fun _ => some { b with params := q })
            floors := upd s.part.floors f (fun _ => { fl with params := some q }) }) ∧
      (∀ (front back : List OpenEntry) (e : OpenEntry) (l : Nat), r.now = false → q = { b.params with limit := l } →
        fl.openList = front ++ e :: back → e.cls = .delegate → (∀ a ∈ back, a.cls = .chair) →
        (fl.openList.map (fun a => a.seat)).Nodup → fl.delegates = l + 1 → (s.part.seatAt e.seat).priorityHeld = false →
        q.mode = .moderated ∨ w.entries = [] →
        AnswersWith (.changeBooking body) s 0x11 .done []
          { s.part.records with
            slots := upd s.part.slots k (fun _ => some { b with params := q })
            seats := (upd s.part.seats e.seat (fun x =>
              { x with guardUntil := some (s.part.now + Config.guard) })).map Seat.quiet
            floors := upd s.part.floors f (fun _ => { fl with params := some q, openList := front ++ back }) }) ∧
      (∀ cap, r.now = false → q = { b.params with queueCap := cap } → cap < b.params.queueCap → fl.delegates ≤ q.limit →
        AnswersWith (.changeBooking body) s 0x11 .done []
          { s.part.records with
            slots := upd s.part.slots k (fun _ => some { b with params := q })
            floors := upd s.part.floors f (fun _ => { fl with params := some q })
            queues := upd s.part.queues f (fun _ => { w with entries := w.entries.take cap }) }) ∧
      (∀ t, r.now = true → t ≠ b.params.allowance → q = { b.params with allowance := t } → q.expiryAction = .warnOnly →
        fl.delegates ≤ q.limit →
        AnswersWith (.changeBooking body) s 0x11 .done []
          { s.part.records with
            slots := upd s.part.slots k (fun _ => some { b with params := q })
            floors := upd s.part.floors f (fun _ =>
              { fl with
                params := some q
                openList := fl.openList.map (fun e =>
                  if e.cls = .delegate then
                    { e with allowanceUsed := t, warned := decide (t ≠ 0 ∧ t ≤ e.spokenS + q.warningLead)
                             overtime := decide (t ≠ 0 ∧ t ≤ e.spokenS) }
                  else e) }) })) ∧
    (∀ a, r.params = none → r.admission = some a → a.confidentiality = .privateMeeting → b.state = .live → fl.state = .live →
      b.params.mode = .moderated → (∀ e ∈ fl.openList, (s.part.seatAt e.seat).priorityHeld = false) →
      ∃ p, Replies (.changeBooking body) s 0x11 .done [] p ∧
        p.slotAt k = some
          { b with confidentiality := .privateMeeting, guestCode := a.guestCode, guestMask := a.guestMask } ∧
        p.floorAt f = { fl with openList := fl.openList.filter (fun e => p.admitted e.seat) } ∧
        p.queueAt f = { w with entries := w.entries.filter (fun e => p.admitted e.seat) } ∧
        (∀ e x, e ∈ fl.openList → nth s.part.seats e.seat = some x → p.admitted e.seat = false →
          (p.seatAt e.seat).guardUntil = some (s.part.now + Config.guard)) ∧
        (∀ g, g ≠ f → p.floorAt g = s.part.floorAt g ∧ p.queueAt g = s.part.queueAt g))

/-- RETIRE_BOOKING by R40's table. An unknown handle, and the states PENDING, WAITING, CLOSING and ENDED, with what stays as it
was. A READY or LIVE booking (R56) whose floor has microphones open, with every partition CLOSED and no other floor suspended:
ACCEPTED, the booking and its floor are CLOSING, every microphone of the floor has been closed as a forced close with the
guard, its queue is empty, and close-out waits for the closed seats. With an empty open list the close phase is complete at
once (R56, R58): the seats of the zones are cleared, and the clear phase waits for the PRESENT and DEGRADED ones; with none of
them, and no booking WAITING, close-out completes in the same step (R59, R12). The other floors, queues and bookings stay. -/
def Obligations.RetireBookingByState : Prop :=
  (∀ (s : State) (h : Nat), s.runs → h < 65536 →
    (∀ keep, s.part.slotOf h = none → Answers (.retireBooking (bytes 2 h ++ flagByte keep)) s 0x12 .noRecord []) ∧
    (∀ slot b, s.part.slotOf h = some slot → s.part.slotAt slot = some b →
      (b.state = .pending ∨ b.state = .waiting ∨ b.state = .ended →
        AnswersWith (.retireBooking (bytes 2 h ++ [0])) s 0x12 .done []
          { s.part.records with slots := upd s.part.slots slot (fun _ => none) }) ∧
      (b.state = .pending ∨ b.state = .waiting →
        AnswersWith (.retireBooking (bytes 2 h ++ [1])) s 0x12 .done []
          { s.part.records with slots := upd s.part.slots slot (fun _ => some
            { b with state := .ended, outcome := some .endedEarly, pendingOutcome := none, floor := none, startNoted := false,
                     closeNoted := false, retireOnCompletion := false, pendingSeat := none }) }) ∧
      (b.state = .closing →
        AnswersWith (.retireBooking (bytes 2 h ++ [0])) s 0x12 .accepted []
          { s.part.records with slots := upd s.part.slots slot (fun _ => some { b with retireOnCompletion := true }) }) ∧
      (b.state = .closing ∨ b.state = .ended →
        AnswersWith (.retireBooking (bytes 2 h ++ [1])) s 0x12 .done [] s.part.records))) ∧
  (∀ (s : State) (h slot f : Nat) (b : Booking) (fl : Floor) (keep : Bool), s.runs → h < 65536 →
    s.part.slotOf h = some slot → s.part.slotAt slot = some b → b.state = .ready ∨ b.state = .live → b.floor = some f →
    nth s.part.floors f = some fl → s.part.contexts.length = 4 → 1 ≤ f → f ≤ 4 →
    (∀ k, s.part.wallOpen k = false) → (∀ g, g ≠ f → (s.part.floorAt g).suspended = false) →
    (∃ n ∈ fl.openSeats, 1 ≤ n ∧ n ≤ 96) →
    ∃ p, exec (.retireBooking (bytes 2 h ++ flagByte keep)) s = .next { s with part := p } ∧
      p.answer = { status := .accepted, code := 0x12, body := [] } ∧
      (p.floorAt f).state = .closing ∧ (p.floorAt f).suspended = false ∧ (p.floorAt f).openList = [] ∧
      (p.queueAt f).entries = [] ∧
      p.slotAt slot = some { b with state := .closing, pendingOutcome := some .endedEarly, retireOnCompletion := !keep } ∧
      (∀ c, p.contextAt f = some c → c.booking = h ∧ c.phase = .close ∧
        c.work.map (fun w => w.seat) = seatNumbers.filter (fun n => decide (n ∈ fl.openSeats))) ∧ (p.contextAt f).isSome = true ∧
      (∀ n x, nth s.part.seats n = some x → n ∈ fl.openSeats → (p.seatAt n).guardUntil = some (s.part.now + Config.guard)) ∧
      (∀ g, g ≠ f → p.floorAt g = s.part.floorAt g ∧ p.queueAt g = s.part.queueAt g ∧ p.contextAt g = s.part.contextAt g) ∧
      (∀ k, k ≠ slot → p.slotAt k = s.part.slotAt k) ∧
      p.clock = s.part.clock ∧ p.settings = s.part.settings ∧ p.store = s.part.store ∧ p.partitions = s.part.partitions ∧
      p.now = s.part.now ∧ p.ambient = s.part.ambient ∧ p.control = s.part.control) ∧
  (∀ (s : State) (h slot f : Nat) (b : Booking) (fl : Floor) (keep : Bool) (served : List Nat), s.runs → h < 65536 →
    s.part.slotOf h = some slot → s.part.slotAt slot = some b → b.state = .ready ∨ b.state = .live → b.floor = some f →
    nth s.part.floors f = some fl → fl.openList = [] → s.part.contexts.length = 4 → 1 ≤ f → f ≤ 4 → s.part.calm →
    served = seatNumbers.filter (fun n => s.part.seatIn b.zones n && s.part.inService n) →
    (served = [] → ∀ k c, s.part.slotAt k = some c → c.state ≠ .waiting) →
    ∃ p, Replies (.retireBooking (bytes 2 h ++ flagByte keep)) s 0x12 .accepted [] p ∧
      (p.floorAt f).openList = [] ∧ (p.queueAt f).entries = [] ∧
      (∀ n x, nth s.part.seats n = some x → (p.seatAt n).quiet =
        (if s.part.seatIn b.zones n then { x with occupant := none, role := .ordinary } else x).quiet) ∧
      (∀ g, g ≠ f → p.floorAt g = s.part.floorAt g ∧ p.queueAt g = s.part.queueAt g ∧ p.contextAt g = s.part.contextAt g) ∧
      (∀ k, k ≠ slot → p.slotAt k = s.part.slotAt k) ∧
      p.records = { s.part.records with
        seats := p.records.seats, slots := p.slots, floors := p.floors, queues := p.queues, contexts := p.contexts
        control := { s.part.control with idleMark := if served = [] then s.part.now else s.part.control.idleMark } } ∧
      (if served = [] then
        p.slotAt slot = (if keep then some
          { b with state := .ended, outcome := some .endedEarly, pendingOutcome := none, floor := none, startNoted := false,
                   closeNoted := false, retireOnCompletion := false, pendingSeat := none } else none) ∧
        (p.floorAt f).state = .free ∧ (p.floorAt f).zones = none ∧ (p.floorAt f).booking = none ∧
        (p.floorAt f).params = none ∧ p.contextAt f = none
      else
        p.slotAt slot = some { b with state := .closing, pendingOutcome := some .endedEarly, retireOnCompletion := !keep } ∧
        (p.floorAt f).state = .closing ∧
        ∃ c, p.contextAt f = some c ∧ c.booking = h ∧ c.phase = .clear ∧
          c.work.map (fun u => (u.seat, u.attempts, u.status)) = served.map (fun m => (m, 0, WorkStatus.awaiting))))

/-- The push phase at a POLL of the seat of its last AWAITING entry (R48, R50 to R52). A GOOD one confirms the entry and
completes apply: READY with its floor; or, with `start` noted, LIVE with LATE_APPLY, and a pending press of the seat then
taken as a SPEAK press, here at an OPEN_FLOOR below its limit. A failed one is an attempt; the third ends the entry FAILED,
adds ROSTER_UNSEATED and completes apply. An entry whose POLL was on the line before it is none of these (log entry 12). -/
def Obligations.PushEndsAtTheLastEntry : Prop :=
  ∀ (s : State) (seg : Segment) (n k f : Nat) (x : Seat) (b : Booking) (fl : Floor) (q : FloorParams) (v : WorkEntry)
    (others : List WorkEntry), s.part.onlyBooking k b → s.part.calm → s.part.control.tableState = .awake → 1 ≤ f → f ≤ 4 →
    b.state = .preparing → b.floor = some f → nth s.part.seats n = some x → nth s.part.floors f = some fl →
    fl.params = some q → s.part.contexts.length = 4 →
    s.part.contextAt f = some { booking := b.handle, phase := .push, work := v :: others } →
    (∀ g, g ≠ f → s.part.contextAt g = none) → v.seat = n → v.status = .awaiting → v.sentBefore = false →
    (∀ u ∈ others, u.seat ≠ n ∧ u.status ≠ .awaiting) →
    (∀ (img : Image) (rx : Reception) (up : Uplink) (r : Records), s.goodPoll seg n img rx up → uplinkSilent up x →
      r = { s.withSeat n (x.afterPoll img) with contexts := upd s.part.contexts f (fun _ => none) } →
      (b.startNoted = false →
        Leaves (.pollAnswer seg rx up) s { r with
          slots := upd s.part.slots k (fun _ => some { b with state := .ready })
          floors := upd s.part.floors f (fun _ => { fl with state := .ready }) }) ∧
      (b.startNoted = true → b.closeNoted = false → b.pendingSeat = none →
        Leaves (.pollAnswer seg rx up) s { r with
          slots := upd s.part.slots k (fun _ => some { b with state := .live, flags := { b.flags with lateApply := true } })
          floors := upd s.part.floors f (fun _ => { fl with state := .live }) }) ∧
      (b.startNoted = true → b.closeNoted = false → b.pendingSeat = some n → b.confidentiality = .openMeeting →
        fl.booking = some b.handle → x.role ≠ .chair → q.mode = .openFloor → fl.delegates < q.limit →
        (∀ g, s.part.openEntry g n = none) → (∀ g, s.part.isQueued g n = false) →
        Leaves (.pollAnswer seg rx up) s { r with
          slots := upd s.part.slots k (fun _ => some
            { b with state := .live, flags := { b.flags with lateApply := true }, pendingSeat := none })
          floors := upd s.part.floors f (fun _ => { fl with state := .live }.opens (fl.delegateEntry q n)) })) ∧
    (∀ (pos : Nat) (img : Image), s.runs → (s.part.engine seg).line = some { exchange := .poll pos img, orphan := false } →
      n = seatOn seg pos → x.health.presence = .present → x.health.errorScore + 8 < 96 → x.priorityHeld = false →
      ∀ r, r = s.withSeat n { x with health := { x.health with errorScore := x.health.errorScore + 8 } } →
      (v.attempts + 1 < 3 →
        Leaves (.responseTimeout seg) s { r with contexts := upd s.part.contexts f (fun _ => some
          { booking := b.handle, phase := .push, work := { v with attempts := v.attempts + 1 } :: others }) }) ∧
      (3 ≤ v.attempts + 1 → b.startNoted = false →
        Leaves (.responseTimeout seg) s { r with
          contexts := upd s.part.contexts f (fun _ => none)
          slots := upd s.part.slots k (fun _ => some
            { b with state := .ready, flags := { b.flags with rosterUnseated := true } })
          floors := upd s.part.floors f (fun _ => { fl with state := .ready }) }))

/-- The close and clear phases at a POLL of the seat of their last AWAITING entry (R48, R57 to R59, R12). In the close phase a
GOOD POLL that echoes CLOSED confirms, and one that does not is an attempt that failed; the third adds CLOSE_UNCONFIRMED. The
clear phase then begins: the seats of the zones are cleared, and every PRESENT or DEGRADED one has an AWAITING entry. In the
clear phase a GOOD POLL confirms, and close-out completes: the record is freed, or ENDED with its pending outcome or
COMPLETED, its floor is FREE and its queue empty, and the table is marked as in use. -/
def Obligations.CloseOutEndsAtTheLastEntry : Prop :=
  ∀ (s : State) (seg : Segment) (n k f : Nat) (img : Image) (rx : Reception) (up : Uplink) (x : Seat) (b : Booking)
    (fl : Floor) (phase : OpPhase) (v : WorkEntry) (others : List WorkEntry) (served : List Nat),
    s.goodPoll seg n img rx up → nth s.part.seats n = some x → uplinkSilent up x → s.part.onlyBooking k b → s.part.calm →
    s.part.control.tableState = .awake → 1 ≤ f → f ≤ 4 → b.state = .closing → b.floor = some f →
    nth s.part.floors f = some fl → fl.state = .closing → s.part.contexts.length = 4 →
    s.part.contextAt f = some { booking := b.handle, phase := phase, work := v :: others } →
    (∀ g, g ≠ f → s.part.contextAt g = none) → v.seat = n → v.status = .awaiting → v.sentBefore = false →
    (∀ u ∈ others, u.seat ≠ n ∧ u.status ≠ .awaiting) →
    served = seatNumbers.filter (fun m => s.part.seatIn b.zones m && s.part.inService m) →
    (phase = .close → up.echo ≠ .closed → v.attempts + 1 < 3 →
      Leaves (.pollAnswer seg rx up) s { s.withSeat n (x.afterPoll img) with
        contexts := upd s.part.contexts f (fun _ => some
          { booking := b.handle, phase := .close, work := { v with attempts := v.attempts + 1 } :: others }) }) ∧
    (phase = .close → up.echo = .closed ∨ 3 ≤ v.attempts + 1 → served ≠ [] →
      ∃ p, Ends (.pollAnswer seg rx up) s p ∧
        p.slotAt k = some { b with flags := { b.flags with
          closeUnconfirmed := b.flags.closeUnconfirmed || decide (up.echo ≠ .closed) } } ∧
        (∃ c, p.contextAt f = some c ∧ c.booking = b.handle ∧ c.phase = .clear ∧
          c.work.map (fun u => (u.seat, u.attempts, u.status)) = served.map (fun m => (m, 0, WorkStatus.awaiting))) ∧
        (∀ m z, nth (upd s.part.seats n (fun _ => x.afterPoll img)) m = some z →
          (p.seatAt m).quiet =
            (if s.part.seatIn b.zones m then { z with occupant := none, role := .ordinary } else z).quiet) ∧
        p.records = { s.part.records with seats := p.records.seats, slots := p.slots, contexts := p.contexts }) ∧
    (phase = .clear →
      ∃ p, Ends (.pollAnswer seg rx up) s p ∧
        p.slotAt k =
          (if b.retireOnCompletion then none
          else some
            { b with state := .ended, outcome := some (b.pendingOutcome.getD .completed), pendingOutcome := none, floor := none,
                     startNoted := false, closeNoted := false, retireOnCompletion := false, pendingSeat := none }) ∧
        (p.floorAt f).state = .free ∧ (p.floorAt f).zones = none ∧ (p.floorAt f).booking = none ∧
        (p.floorAt f).params = none ∧ (p.floorAt f).openList = [] ∧ (p.queueAt f).entries = [] ∧ p.contextAt f = none ∧
        (∀ g, g ≠ f → p.floorAt g = s.part.floorAt g ∧ p.queueAt g = s.part.queueAt g) ∧
        p.records = { s.withPress n (x.afterPoll img) with
          slots := p.slots, floors := p.floors, queues := p.queues, contexts := p.contexts })

/-- RETIRE_BOOKING of a PREPARING booking aborts its apply (R40, R55, R12): the seats of its zones are cleared, its record is
ENDED as ENDED_EARLY or freed, its floor is FREE, its queue empty, and the table is marked as in use. With a WAITING booking
whose zones that release leaves unheld, and no other floor FREE, apply begins for it in the same step on that floor (R28,
R62), here with a PRESENT or DEGRADED seat in its zones. -/
def Obligations.AbortedApplyIsReleasedAndChained : Prop :=
  ∀ (s : State) (h k f : Nat) (b : Booking) (fl : Floor) (w : Queue) (keep : Bool) (gone : Option Booking), s.runs → h < 65536 →
    s.part.slotOf h = some k → s.part.slotAt k = some b → b.state = .preparing → b.floor = some f → b.pendingSeat = none →
    1 ≤ f → f ≤ 4 → nth s.part.floors f = some fl → nth s.part.queues f = some w → s.part.contexts.length = 4 → s.part.calm →
    gone = (if keep then some
      { b with state := .ended, outcome := some .endedEarly, pendingOutcome := none, floor := none, startNoted := false,
               closeNoted := false, retireOnCompletion := false, pendingSeat := none } else none) →
    ((∀ j c, s.part.slotAt j = some c → c.state ≠ .waiting) →
      ∃ p, Replies (.retireBooking (bytes 2 h ++ flagByte keep)) s 0x12 .done [] p ∧ p.slotAt k = gone ∧
        (p.floorAt f).state = .free ∧ (p.floorAt f).zones = none ∧ (p.floorAt f).booking = none ∧
        (p.floorAt f).params = none ∧ (p.floorAt f).openList = [] ∧ (p.queueAt f).entries = [] ∧ p.contextAt f = none ∧
        (∀ n x, nth s.part.seats n = some x → (p.seatAt n).quiet =
          (if s.part.seatIn b.zones n then { x with occupant := none, role := .ordinary } else x).quiet) ∧
        (∀ g, g ≠ f → p.floorAt g = s.part.floorAt g ∧ p.queueAt g = s.part.queueAt g ∧ p.contextAt g = s.part.contextAt g) ∧
        (∀ j, j ≠ k → p.slotAt j = s.part.slotAt j) ∧
        p.records = { s.part.records with
          seats := p.records.seats, floors := p.floors, queues := p.queues, contexts := p.contexts, slots := p.slots
          control := { s.part.control with idleMark := s.part.now } }) ∧
    (∀ j c, s.part.slotAt j = some c → c.state = .waiting → s.part.slotOf c.handle = some j →
      (∀ i d, s.part.slotAt i = some d → d.state = .waiting → i = j) → s.part.control.tableState = .awake →
      (∀ g, 1 ≤ g → g ≤ 4 → g ≠ f → (s.part.floorAt g).state ≠ .free) →
      (∀ g z, 1 ≤ g → g ≤ 4 → g ≠ f → (s.part.floorAt g).holds z = true → c.zones.has z = false) →
      (∃ n, 1 ≤ n ∧ n ≤ 96 ∧ s.part.seatIn c.zones n = true ∧ s.part.inService n = true) →
      ∃ p, Replies (.retireBooking (bytes 2 h ++ flagByte keep)) s 0x12 .done [] p ∧ p.slotAt k = gone ∧
        p.slotAt j = some
          { c with
            state := .preparing, floor := some f
            flags := { c.flags with rosterUnseated := c.flags.rosterUnseated || s.part.unseats c } } ∧
        p.floorAt f = c.floorIn .preparing ∧ p.queueAt f = { entries := [], lastArrival := 0 } ∧
        ∃ x, p.contextAt f = some x ∧ x.booking = c.handle ∧ x.phase = .push ∧
          x.work.map (fun v => (v.seat, v.attempts, v.status)) =
            (seatNumbers.filter (fun n => s.part.seatIn c.zones n && s.part.inService n)).map
              (fun n => (n, 0, WorkStatus.awaiting)))

/-- ROSTER_PUT on a PENDING or WAITING booking (R37): the entries are put in by seat, and nothing else changes.
ROSTER_DROP on a PENDING or WAITING booking (R38): the entries of the named seats are removed, and nothing else changes. -/
def Obligations.RosterRequestsWriteTheRoster : Prop :=
  (∀ (s : State) (body : List Byte) (h slot : Nat) (entries : List RosterEntry) (b : Booking), s.runs →
    parseRosterPut body = some (h, entries) → s.part.slotOf h = some slot → s.part.slotAt slot = some b →
    b.state = .pending ∨ b.state = .waiting → b.floor = none →
    noRepeats (entries.map (fun e => e.seat)) = true → entries.all (s.part.entryOk b.zones) = true →
    rosterOk (putEntries b.roster entries) = true →
    (entries.filter (fun e => (b.roster.find? (fun x => x.seat == e.seat)).isNone)).length ≤ s.part.rosterFree →
    AnswersWith (.rosterPut body) s 0x13 .done []
      { s.part.records with
        slots := upd s.part.slots slot (fun _ => some { b with roster := putEntries b.roster entries }) }) ∧
  (∀ (s : State) (body : List Byte) (h slot : Nat) (seats : List Nat) (b : Booking), s.runs →
    parseRosterDrop body = some (h, seats) → s.part.slotOf h = some slot → s.part.slotAt slot = some b →
    b.state = .pending ∨ b.state = .waiting → b.floor = none → (∀ n ∈ seats, 1 ≤ n ∧ n ≤ 96) →
    AnswersWith (.rosterDrop body) s 0x14 .done []
      { s.part.records with
        slots := upd s.part.slots slot (fun _ => some
          { b with roster := b.roster.filter (fun e => decide (e.seat ∉ seats)) }) })

/-- ROSTER_PUT of one entry and ROSTER_DROP of one seat at a READY or LIVE OPEN booking, at an AWAKE table (R37 to R39, R76,
R77, R110, R127): the seat takes the entry's tag and role, or none and ORDINARY. An open or queued seat's entry follows the
role: a DELEGATE that becomes CHAIR stays in its place, unmuted and without an allowance; a CHAIR that becomes a delegate
stays, with the floor's allowance; a queued ORDINARY seat that becomes PRIORITY is placed anew behind the last PRIORITY entry.
Every other record stays; no auto grant can follow here, and the limit is not passed. -/
def Obligations.RunningRosterReachesTheSeats : Prop :=
  ∀ (s : State) (h k f : Nat) (b : Booking) (fl : Floor) (w : Queue), s.runs → s.part.control.tableState = .awake →
    s.part.slotOf h = some k → s.part.slotAt k = some b → b.floor = some f → b.state = .ready ∨ b.state = .live →
    nth s.part.floors f = some fl → nth s.part.queues f = some w → fl.booking = some b.handle → fl.params = some b.params →
    b.confidentiality = .openMeeting →
    (∀ (body : List Byte) (e : RosterEntry) (x : Seat) (r : Records), parseRosterPut body = some (h, [e]) →
      s.part.entryOk b.zones e = true → rosterOk (putEntries b.roster [e]) = true →
      ((b.roster.find? (fun a => a.seat == e.seat)).isSome = true ∨ 0 < s.part.rosterFree) →
      nth s.part.seats e.seat = some x → x.priorityHeld = false →
      r = { s.part.records with
        slots := upd s.part.slots k (fun _ => some { b with roster := putEntries b.roster [e] })
        seats := (upd s.part.seats e.seat (fun _ =>
          { x with occupant := some e.tag, role := e.role })).map Seat.quiet } →
      (s.part.openEntry f e.seat = none → s.part.isQueued f e.seat = false → AnswersWith (.rosterPut body) s 0x13 .done [] r) ∧
      (x.role = e.role → AnswersWith (.rosterPut body) s 0x13 .done [] r) ∧
      ((s.part.openEntry f e.seat).map (fun a => a.cls) = some .delegate → x.role ≠ .chair → e.role = .chair →
        b.params.mode = .moderated ∨ w.entries = [] →
        AnswersWith (.rosterPut body) s 0x13 .done []
          { r with floors := upd s.part.floors f (fun _ =>
              { fl with openList := fl.openList.map (fun a =>
                  if a.seat = e.seat then
                    { a with cls := .chair, muted := false, spokenS := 0, allowanceUsed := 0, warned := false, overtime := false }
                  else a) }) }) ∧
      ((s.part.openEntry f e.seat).map (fun a => a.cls) = some .chair → x.role = .chair → e.role ≠ .chair →
        (fl.openList.map (fun a => a.seat)).Nodup → fl.delegates < b.params.limit →
        AnswersWith (.rosterPut body) s 0x13 .done []
          { r with floors := upd s.part.floors f (fun _ =>
              { fl with openList := fl.openList.map (fun a =>
                  if a.seat = e.seat then
                    { a with cls := .delegate, muted := decide (0 < fl.priorityHolders), spokenS := 0,
                             allowanceUsed := b.params.allowance, warned := false, overtime := false }
                  else a) }) }) ∧
      (∀ a, s.part.openEntry f e.seat = none → w.entries.find? (fun y => y.seat == e.seat) = some a → x.role = .ordinary →
        e.role = .priority →
        ∀ (others : List QueueEntry) (moved : QueueEntry), others = w.entries.filter (fun y => y.seat != e.seat) →
          moved = { a with cls := .priority, arrival := nextNumber w.lastArrival } →
          AnswersWith (.rosterPut body) s 0x13 .done []
            { r with queues := upd s.part.queues f (fun _ =>
                { entries := others.takeWhile (fun y => decide (y.cls = .priority)) ++
                    moved :: others.dropWhile (fun y => decide (y.cls = .priority))
                  lastArrival := nextNumber w.lastArrival }) })) ∧
    (∀ (body : List Byte) (n : Nat) (x : Seat), parseRosterDrop body = some (h, [n]) → 1 ≤ n → n ≤ 96 →
      (b.roster.find? (fun a => a.seat == n)).isSome = true → s.part.seatIn b.zones n = true → nth s.part.seats n = some x →
      x.priorityHeld = false → s.part.openEntry f n = none → s.part.isQueued f n = false →
      AnswersWith (.rosterDrop body) s 0x14 .done []
        { s.part.records with
          slots := upd s.part.slots k (fun _ => some { b with roster := b.roster.filter (fun a => a.seat != n) })
          seats := (upd s.part.seats n (fun _ => { x with occupant := none, role := .ordinary })).map Seat.quiet })

/-! ### The floor and its queue: the host's requests -/

/-- GRANT (R101, R90). Its refusals, in the order of the tests 1 to 4, and test 5 for a seat already in the open list. At a
full floor (tests 8 and 9): without replace FLOOR_FULL and nothing changes; with it the oldest DELEGATE entry, whose seat
holds no priority, closes as a forced close with the guard 2 s ahead, and the seat opens at the tail. It opens (tests 6 and
7) a CHAIR outside the limit, a delegate below it: the entry joins the open list at its tail with the next order number, the
seat leaves the queue, and every other record stays. -/
def Obligations.GrantOpensOrRefuses : Prop :=
  (∀ (s : State) (n : Nat) (replace : Bool), s.runs → s.part.control.tableState = .awake → n < 256 →
    (¬ (1 ≤ n ∧ n ≤ 96) → Answers (.grant (byte n ++ flagByte replace)) s 0x20 .badValue []) ∧
    (1 ≤ n → n ≤ 96 →
      (s.part.floorOf n = none → Answers (.grant (byte n ++ flagByte replace)) s 0x20 .notAllowed []) ∧
      (∀ f, s.part.floorOf n = some f →
        ((s.part.floorAt f).state ≠ .live ∨ (s.part.floorAt f).suspended = true →
          Answers (.grant (byte n ++ flagByte replace)) s 0x20 .notAllowed []) ∧
        ((s.part.floorAt f).state = .live → (s.part.floorAt f).suspended = false →
          (s.part.inService n = false → Answers (.grant (byte n ++ flagByte replace)) s 0x20 .notAllowed []) ∧
          (s.part.inService n = true →
            (s.part.isPrivate f = true → s.part.admitted n = false →
              Answers (.grant (byte n ++ flagByte replace)) s 0x20 .notAdmitted []) ∧
            (s.part.isPrivate f = false ∨ s.part.admitted n = true → (s.part.openEntry f n).isSome = true →
              AnswersWith (.grant (byte n ++ flagByte replace)) s 0x20 .done [] s.part.records)))))) ∧
  (∀ (s : State) (n m f : Nat) (fl : Floor) (q : FloorParams), s.runs → s.part.control.tableState = .awake → 1 ≤ n → n ≤ 96 →
    s.part.floorOf n = some f → nth s.part.floors f = some fl → fl.state = .live → fl.suspended = false →
    fl.params = some q → s.part.inService n = true → (s.part.isPrivate f = false ∨ s.part.admitted n = true) →
    (∀ g, s.part.openEntry g n = none) → (s.part.seatAt n).role ≠ .chair → q.limit ≤ fl.delegates →
    Answers (.grant (byte n ++ [0])) s 0x20 .floorFull [] ∧
    (fl.oldestDelegate = some m → (s.part.seatAt m).priorityHeld = false →
      AnswersWith (.grant (byte n ++ [1])) s 0x20 .done []
        { s.part.records with
          seats := (upd s.part.seats m (fun x => { x with guardUntil := some (s.part.now + Config.guard) })).map Seat.quiet
          floors := upd s.part.floors f (fun _ =>
            { fl with
              openOrder := if fl.openOrder < 65535 then fl.openOrder + 1 else 1
              openList := fl.openList.filter (fun e => e.seat != m) ++ [
                { seat := n, cls := .delegate, openedOrder := if fl.openOrder < 65535 then fl.openOrder + 1 else 1,
                  spokenS := 0, allowanceUsed := q.allowance, muted := decide (0 < fl.priorityHolders),
                  warned := decide (q.allowance ≠ 0 ∧ q.allowance ≤ q.warningLead), overtime := false }] })
          queues := upd s.part.queues f (fun x => { x with entries := x.entries.filter (fun e => e.seat != n) }) })) ∧
  (∀ (s : State) (n f : Nat) (fl : Floor) (q : FloorParams) (replace : Bool), s.runs →
    s.part.control.tableState = .awake → 1 ≤ n → n ≤ 96 → s.part.floorOf n = some f → nth s.part.floors f = some fl →
    fl.state = .live → fl.suspended = false → fl.params = some q → s.part.inService n = true →
    (s.part.isPrivate f = false ∨ s.part.admitted n = true) → (∀ g, s.part.openEntry g n = none) →
    ((s.part.seatAt n).role = .chair ∨ fl.delegates < q.limit) →
    AnswersWith (.grant (byte n ++ flagByte replace)) s 0x20 .done []
      { s.part.records with
        floors := upd s.part.floors f (fun _ =>
          { fl with
            openOrder := if fl.openOrder < 65535 then fl.openOrder + 1 else 1
            openList := fl.openList ++ [if (s.part.seatAt n).role = .chair then
              { seat := n, cls := .chair, openedOrder := if fl.openOrder < 65535 then fl.openOrder + 1 else 1, spokenS := 0,
                allowanceUsed := 0, muted := false, warned := false, overtime := false }
            else
              { seat := n, cls := .delegate, openedOrder := if fl.openOrder < 65535 then fl.openOrder + 1 else 1, spokenS := 0,
                allowanceUsed := q.allowance, muted := decide (0 < fl.priorityHolders),
                warned := decide (q.allowance ≠ 0 ∧ q.allowance ≤ q.warningLead), overtime := false }] })
        queues := upd s.part.queues f (fun x => { x with entries := x.entries.filter (fun e => e.seat != n) }) })

/-- CLOSE_MIC (R102, R91) where no auto grant can follow: the seat's entry leaves the open list as an ordinary close,
its guard stays as it is, and every other record stays; a seat that is not in the open list is answered DONE with no
change. The auto grant that follows a close (R95, R102): on an AUTO_QUEUE floor at its limit, CLOSE_MIC of a delegate
opens the head of the queue, a delegate seat that may open, in its place. -/
def Obligations.CloseMicClosesTheEntry : Prop :=
  (∀ (s : State) (n : Nat), s.runs → s.part.control.tableState = .awake → n < 256 →
    (¬ (1 ≤ n ∧ n ≤ 96) → Answers (.closeMic (byte n)) s 0x21 .badValue []) ∧
    (1 ≤ n → n ≤ 96 →
      (s.part.floorOf n = none → Answers (.closeMic (byte n)) s 0x21 .notAllowed []) ∧
      (∀ f, s.part.floorOf n = some f →
        ((s.part.floorAt f).state ≠ .live → Answers (.closeMic (byte n)) s 0x21 .notAllowed []) ∧
        ((s.part.floorAt f).state = .live →
          (s.part.openEntry f n = none → AnswersWith (.closeMic (byte n)) s 0x21 .done [] s.part.records) ∧
          ((s.part.openEntry f n).isSome = true → (s.part.seatAt n).priorityHeld = false →
            (s.part.floorAt f).par.mode = .moderated ∨ (s.part.queueAt f).entries = [] →
            AnswersWith (.closeMic (byte n)) s 0x21 .done []
              { s.part.records with
                floors := upd s.part.floors f (fun fl =>
                  { fl with openList := fl.openList.filter (fun e => e.seat != n) }) }))))) ∧
  (∀ (s : State) (n m f : Nat) (fl : Floor) (q : FloorParams) (x : Queue) (e : QueueEntry) (rest : List QueueEntry), s.runs →
    s.part.control.tableState = .awake → 1 ≤ n → n ≤ 96 → s.part.floorOf n = some f → nth s.part.floors f = some fl →
    nth s.part.queues f = some x → fl.state = .live → fl.suspended = false → fl.params = some q → q.mode = .autoQueue →
    fl.delegates = q.limit → ((fl.openList.filter (fun e => e.seat != n)).filter (fun e => decide (e.cls = .delegate))).length + 1 =
      fl.delegates →
    s.part.isDelegate f n = true → (s.part.seatAt n).priorityHeld = false →
    x.entries = e :: rest → e.seat = m → m ≠ n → (∀ y ∈ rest, y.seat ≠ m) → s.part.inService m = true →
    (s.part.seatAt m).role ≠ .chair → (∀ g, s.part.openEntry g m = none) → s.part.isPrivate f = false →
    AnswersWith (.closeMic (byte n)) s 0x21 .done []
      { s.part.records with
        floors := upd s.part.floors f (fun _ =>
          { fl with
            openOrder := if fl.openOrder < 65535 then fl.openOrder + 1 else 1
            openList := fl.openList.filter (fun e => e.seat != n) ++ [
              { seat := m, cls := .delegate, openedOrder := if fl.openOrder < 65535 then fl.openOrder + 1 else 1, spokenS := 0,
                allowanceUsed := q.allowance, muted := decide (0 < fl.priorityHolders),
                warned := decide (q.allowance ≠ 0 ∧ q.allowance ≤ q.warningLead), overtime := false }] })
        queues := upd s.part.queues f (fun _ => { x with entries := rest }) })

/-- ENQUEUE's refusals (R118, tests 1 to 5 and 7), and test 6 for a seat that already stands in the queue. ENQUEUE
places the seat (R118, R116): ORDINARY at the tail, PRIORITY behind the last PRIORITY entry, with the next arrival
number; the class stated, or the role's. The body is the entry's position, and every other record stays. -/
def Obligations.EnqueuePlacesTheSeat : Prop :=
  (∀ (s : State) (n : Nat), s.runs → s.part.control.tableState = .awake → n < 256 →
    (¬ (1 ≤ n ∧ n ≤ 96) → Answers (.enqueue (byte n ++ [0])) s 0x22 .badValue []) ∧
    (1 ≤ n → n ≤ 96 →
      (s.part.floorOf n = none → Answers (.enqueue (byte n ++ [0])) s 0x22 .notAllowed []) ∧
      (∀ f, s.part.floorOf n = some f →
        ((s.part.floorAt f).state ≠ .live ∨ (s.part.floorAt f).suspended = true →
          Answers (.enqueue (byte n ++ [0])) s 0x22 .notAllowed []) ∧
        ((s.part.floorAt f).state = .live → (s.part.floorAt f).suspended = false →
          (s.part.inService n = false ∨ (s.part.seatAt n).role = .chair →
            Answers (.enqueue (byte n ++ [0])) s 0x22 .notAllowed []) ∧
          (s.part.inService n = true → (s.part.seatAt n).role ≠ .chair →
            (s.part.isPrivate f = true → s.part.admitted n = false →
              Answers (.enqueue (byte n ++ [0])) s 0x22 .notAdmitted []) ∧
            (s.part.isPrivate f = false ∨ s.part.admitted n = true →
              ((s.part.openEntry f n).isSome = true → Answers (.enqueue (byte n ++ [0])) s 0x22 .notAllowed []) ∧
              (s.part.openEntry f n = none → s.part.isQueued f n = true →
                AnswersWith (.enqueue (byte n ++ [0])) s 0x22 .done (byte (s.part.queuePosition f n)) s.part.records) ∧
              (s.part.openEntry f n = none → s.part.isQueued f n = false →
                (s.part.floorAt f).par.queueCap ≤ (s.part.queueAt f).entries.length ∨ s.part.queueFree = 0 →
                Answers (.enqueue (byte n ++ [0])) s 0x22 .queueFull []))))))) ∧
  (∀ (s : State) (n f : Nat) (x : Queue) (stated : Option QueueClass), s.runs → s.part.control.tableState = .awake → 1 ≤ n →
    n ≤ 96 → s.part.floorOf n = some f → (s.part.floorAt f).state = .live → (s.part.floorAt f).suspended = false →
    s.part.inService n = true → (s.part.seatAt n).role ≠ .chair → (s.part.isPrivate f = false ∨ s.part.admitted n = true) →
    s.part.openEntry f n = none → s.part.isQueued f n = false → nth s.part.queues f = some x →
    x.entries.length < (s.part.floorAt f).par.queueCap → 0 < s.part.queueFree →
    (stated.getD (if (s.part.seatAt n).role = .priority then .priority else .ordinary) = .ordinary →
      AnswersWith (.enqueue (byte n ++ byte (match stated with | none => 0 | some .priority => 2 | some .ordinary => 3))) s 0x22
        .done (byte (x.entries.length + 1))
        { s.part.records with
          queues := upd s.part.queues f (fun _ =>
            { entries := x.entries ++ [{ seat := n, cls := .ordinary
                                         arrival := if x.lastArrival < 65535 then x.lastArrival + 1 else 1, waitedS := 0 }]
              lastArrival := if x.lastArrival < 65535 then x.lastArrival + 1 else 1 }) }) ∧
    (stated.getD (if (s.part.seatAt n).role = .priority then .priority else .ordinary) = .priority →
      AnswersWith (.enqueue (byte n ++ byte (match stated with | none => 0 | some .priority => 2 | some .ordinary => 3))) s 0x22
        .done (byte ((x.entries.takeWhile (fun e => decide (e.cls = .priority))).length + 1))
        { s.part.records with
          queues := upd s.part.queues f (fun _ =>
            { entries := x.entries.takeWhile (fun e => decide (e.cls = .priority)) ++
                { seat := n, cls := .priority
                  arrival := if x.lastArrival < 65535 then x.lastArrival + 1 else 1, waitedS := 0 } ::
                x.entries.dropWhile (fun e => decide (e.cls = .priority))
              lastArrival := if x.lastArrival < 65535 then x.lastArrival + 1 else 1 }) }))

/-- WITHDRAW (R120) at an AWAKE table: the range, the floor and its state tested; a seat in the queue of a LIVE floor
leaves it, suspended or not, guarded or not, admitted or not, and every other record stays; one that is not in the queue is
answered DONE with no change. At a table that is not AWAKE it is NOT_ALLOWED (R175). -/
def Obligations.WithdrawRemovesTheEntry : Prop :=
  ∀ (s : State) (n : Nat), s.runs → n < 256 →
    (s.part.control.tableState = .awake → ¬ (1 ≤ n ∧ n ≤ 96) → Answers (.withdraw (byte n)) s 0x23 .badValue []) ∧
    (1 ≤ n → n ≤ 96 →
      (s.part.control.tableState ≠ .awake → Answers (.withdraw (byte n)) s 0x23 .notAllowed []) ∧
      (s.part.floorOf n = none → Answers (.withdraw (byte n)) s 0x23 .notAllowed []) ∧
      (∀ f, s.part.floorOf n = some f →
        ((s.part.floorAt f).state ≠ .live → Answers (.withdraw (byte n)) s 0x23 .notAllowed []) ∧
        ((s.part.floorAt f).state = .live → s.part.control.tableState = .awake →
          (s.part.isQueued f n = true →
            AnswersWith (.withdraw (byte n)) s 0x23 .done []
              { s.part.records with
                queues := upd s.part.queues f (fun x => { x with entries := x.entries.filter (fun e => e.seat != n) }) }) ∧
          (s.part.isQueued f n = false → AnswersWith (.withdraw (byte n)) s 0x23 .done [] s.part.records))))

/-- MOVE_ENTRY (R121): the tests in their order, and a queued seat's entry put back at the named place of its class, the
last place for a position beyond it; the entries keep class, arrival and waiting time, and every other record stays. -/
def Obligations.MoveEntryMovesWithinTheClass : Prop :=
  ∀ (s : State) (n pos : Nat), s.runs → s.part.control.tableState = .awake → n < 256 → pos < 256 →
    (¬ (1 ≤ n ∧ n ≤ 96 ∧ 1 ≤ pos ∧ pos ≤ 32) → Answers (.moveEntry (byte n ++ byte pos)) s 0x24 .badValue []) ∧
    (1 ≤ n → n ≤ 96 → 1 ≤ pos → pos ≤ 32 →
      (s.part.floorOf n = none → Answers (.moveEntry (byte n ++ byte pos)) s 0x24 .notAllowed []) ∧
      (∀ f, s.part.floorOf n = some f →
        ((s.part.floorAt f).state ≠ .live → Answers (.moveEntry (byte n ++ byte pos)) s 0x24 .notAllowed []) ∧
        ((s.part.floorAt f).state = .live → s.part.isQueued f n = false →
          Answers (.moveEntry (byte n ++ byte pos)) s 0x24 .notAllowed []) ∧
        (∀ x e, (s.part.floorAt f).state = .live → nth s.part.queues f = some x → e ∈ x.entries → e.seat = n →
          (x.entries.map (fun y => y.seat)).Nodup →
          ∃ p, exec (.moveEntry (byte n ++ byte pos)) s = .next { s with part := p } ∧
            (let first := x.entries.filter (fun y => decide (y.cls = .priority))
             let second := x.entries.filter (fun y => decide (y.cls = .ordinary))
             let move := fun l : List QueueEntry =>
               (l.filter (fun y => y.seat != n)).insertIdx (min (pos - 1) (l.length - 1)) e
             p.queueAt f = { x with entries := if e.cls = .priority then move first ++ second else first ++ move second }) ∧
            (∃ i, ((p.queueAt f).entries[i]?).map (fun y => y.seat) = some n ∧
              p.answer = { status := .done, code := 0x24, body := byte (i + 1) }) ∧
            (∀ g, g ≠ f → p.queueAt g = s.part.queueAt g) ∧
            p.records = { s.part.records with queues := p.queues })))

/-- CANCEL_FLOOR (R103, R98) at an AWAKE table, no delegate's seat holding priority: every DELEGATE entry closes as a
forced close with the guard 2 s ahead, CHAIR entries stay, the queue is emptied, and every other record stays. -/
def Obligations.CancelFloorClearsTheFloor : Prop :=
  ∀ (s : State) (f : Nat), s.runs → s.part.control.tableState = .awake → f < 256 →
    (¬ (1 ≤ f ∧ f ≤ 4) → Answers (.cancelFloor (byte f)) s 0x25 .badValue []) ∧
    (1 ≤ f → f ≤ 4 →
      ((s.part.floorAt f).state ≠ .live → Answers (.cancelFloor (byte f)) s 0x25 .notAllowed []) ∧
      (∀ fl, nth s.part.floors f = some fl → fl.state = .live →
        (∀ e ∈ fl.openList, e.cls = .delegate → (s.part.seatAt e.seat).priorityHeld = false) →
        (fl.openList.map (fun e => e.seat)).Nodup →
        ∃ p, exec (.cancelFloor (byte f)) s = .next { s with part := p } ∧
          p.answer = { status := .done, code := 0x25, body := [] } ∧
          p.floorAt f = { fl with openList := fl.openList.filter (fun e => decide (e.cls = .chair)) } ∧
          (p.queueAt f).entries = [] ∧ (p.queueAt f).lastArrival = (s.part.queueAt f).lastArrival ∧
          (∀ n x, nth s.part.seats n = some x → (p.seatAt n).quiet =
            (if n ∈ fl.delegateSeats then { x with guardUntil := some (s.part.now + Config.guard) } else x).quiet) ∧
          (∀ g, g ≠ f → p.floorAt g = s.part.floorAt g ∧ p.queueAt g = s.part.queueAt g) ∧
          p.records = { s.part.records with seats := p.records.seats, floors := p.floors, queues := p.queues }))

/-! ### Timed events at a floor -/

/-- SPEAKING_WARNING (R105): a DELEGATE entry of a LIVE floor whose remaining time has reached the warning lead
becomes warned, and where that lead is 0 it expires in the same step, as below; an entry that has not, or is warned already,
stays as it is. Every other record stays.
ALLOWANCE_EXPIRY (R106), and the warning at a lead of 0: a DELEGATE entry whose remaining time is 0 becomes overtime under
WARN_ONLY, warned first, and closes as a forced close with the guard under CLOSE, here where no auto grant can follow and the
seat holds no priority. An entry that has time left, or is overtime already, does not expire. That a row which comes before its time changes nothing is the
model's choice, log entry 5. LIFETIME_EXPIRY (R123): on a floor with a lifetime, the entries that have waited it out
leave the queue; the others keep their order, and every other record stays. Without a lifetime none leaves. GUARD_END
(R111, R66): when the timebase has reached it the guard is absent; every other record stays. That GUARD_END takes the
timebase on to the guard when it lies ahead is the model's choice, log entry 4. -/
def Obligations.SpeakingTimeWaitsAndGuardsEnd : Prop :=
  (∀ (s : State) (f n : Nat) (fl : Floor) (q : FloorParams) (e : OpenEntry), s.runs → nth s.part.floors f = some fl →
    fl.state = .live → fl.params = some q → fl.openList.find? (fun x => x.seat == n) = some e →
    (e.cls = .delegate → e.allowanceUsed ≠ 0 → e.allowanceUsed ≤ e.spokenS + q.warningLead → e.warned = false →
      q.warningLead ≠ 0 ∨ e.overtime = true →
      Leaves (.speakingWarning f n) s
        { s.part.records with
          floors := upd s.part.floors f (fun _ =>
            { fl with openList := fl.openList.map (fun x => if x.seat = n then { x with warned := true } else x) }) }) ∧
    (e.cls = .chair ∨ e.allowanceUsed = 0 ∨ e.spokenS + q.warningLead < e.allowanceUsed ∨ e.warned = true →
      Leaves (.speakingWarning f n) s s.part.records)) ∧
  (∀ (s : State) (f n : Nat) (fl : Floor) (q : FloorParams) (e : OpenEntry), s.runs → nth s.part.floors f = some fl →
    fl.state = .live → fl.params = some q → fl.openList.find? (fun x => x.seat == n) = some e →
    (fl.openList.map (fun x => x.seat)).Nodup →
    (∀ c, c = Instr.allowanceExpiry f n ∨ (c = .speakingWarning f n ∧ q.warningLead = 0 ∧ e.warned = false) →
      e.cls = .delegate → e.allowanceUsed ≠ 0 → e.allowanceUsed ≤ e.spokenS → e.overtime = false →
      (q.expiryAction = .warnOnly →
        Leaves c s
          { s.part.records with
            floors := upd s.part.floors f (fun _ =>
              { fl with openList :=
                  fl.openList.map (fun x => if x.seat = n then { x with warned := true, overtime := true } else x) }) }) ∧
      (q.expiryAction = .close → (s.part.seatAt n).priorityHeld = false →
        q.mode = .moderated ∨ (s.part.queueAt f).entries = [] →
        Leaves c s
          { s.part.records with
            seats := (upd s.part.seats n (fun x => { x with guardUntil := some (s.part.now + Config.guard) })).map Seat.quiet
            floors := upd s.part.floors f (fun _ =>
              { fl with openList := fl.openList.filter (fun x => x.seat != n) }) })) ∧
    (e.cls = .chair ∨ e.allowanceUsed = 0 ∨ e.spokenS < e.allowanceUsed ∨ e.overtime = true →
      Leaves (.allowanceExpiry f n) s s.part.records)) ∧
  (∀ (s : State) (f : Nat) (q : FloorParams), s.runs → (s.part.floorAt f).params = some q →
    (q.lifetime ≠ 0 →
      Leaves (.lifetimeExpiry f) s
        { s.part.records with
          queues := upd s.part.queues f (fun x =>
            { x with entries := x.entries.filter (fun e => decide (e.waitedS < q.lifetime * 60)) }) }) ∧
    (q.lifetime = 0 → Leaves (.lifetimeExpiry f) s s.part.records)) ∧
  (∀ (s : State) (n g : Nat), s.runs → (s.part.seatAt n).guardUntil = some g →
    (∃ p, exec (.guardEnd n) s = .next { s with part := p } ∧ (p.seatAt n).guardUntil = none ∧
      p.now = max s.part.now g ∧ p.answer = s.part.answer ∧ p.slots = s.part.slots ∧ p.clock = s.part.clock ∧
      p.settings = s.part.settings ∧ p.control = s.part.control) ∧
    (g ≤ s.part.now →
      Leaves (.guardEnd n) s
        { s.part.records with seats := (upd s.part.seats n (fun x => { x with guardUntil := none })).map Seat.quiet }))

/-- TIMEBASE_SECOND (R104, R123, R111, R139): the timebase goes on to its next whole second; an unmuted DELEGATE entry has
spoken a second more and a queue entry has waited one more, both up to 65535, guards whose time is reached end, and a running
rotation counts a second more, or changes its phase where that second completes the dwell. ROTATION_PHASE_CHANGE (R139): the
same second, where it is the one at which the display's rotation changes phase; otherwise nothing passes. That the rows take
the timebase on to its next whole second, and that ROTATION_PHASE_CHANGE does nothing before its second, is the model's
choice, log entries 4 and 6. -/
def Obligations.TimebaseSecondCounts : Prop :=
  (∀ (s : State) (t : Nat), s.runs → t = (s.part.now / Config.second + 1) * Config.second →
    ∃ p, Ends .timebaseSecond s p ∧
      p.records =
        { s.part.records with
          now := t
          floors := s.part.floors.map (fun fl => { fl with openList := fl.openList.map (fun e =>
            if e.cls = .delegate ∧ e.muted = false then { e with spokenS := sat 65535 (e.spokenS + 1) } else e) })
          queues := s.part.queues.map (fun x =>
            { x with entries := x.entries.map (fun e => { e with waitedS := sat 65535 (e.waitedS + 1) }) })
          seats := (s.part.seats.map (fun x => match x.guardUntil with
            | none => x
            | some g => if g ≤ t then { x with guardUntil := none } else x)).map Seat.quiet } ∧
      (∀ n d, nth s.part.displays n = some d → s.part.rotationRuns d.config = true →
        if (if d.phaseB then d.config.dwellB else d.config.dwellA) ≤ d.phaseElapsedS + 1 then
          (p.displayAt n).phaseB = !d.phaseB ∧ (p.displayAt n).phaseElapsedS = 0
        else (p.displayAt n).phaseB = d.phaseB ∧ (p.displayAt n).phaseElapsedS = d.phaseElapsedS + 1)) ∧
  (∀ (s : State) (n : Nat) (d : Display), s.runs → nth s.part.displays n = some d → s.part.rotationRuns d.config = true →
    ((if d.phaseB then d.config.dwellB else d.config.dwellA) ≤ d.phaseElapsedS + 1 →
      exec (.rotationPhaseChange n) s = exec .timebaseSecond s) ∧
    (d.phaseElapsedS + 1 < (if d.phaseB then d.config.dwellB else d.config.dwellA) →
      ∃ p, Ends (.rotationPhaseChange n) s p ∧ p.records = s.part.records ∧ (p.displayAt n).phaseB = d.phaseB ∧
        (p.displayAt n).phaseElapsedS = d.phaseElapsedS))

/-! ### Presses -/

/-- A new SPEAK press in the uplink of a POLL (R92, R93, R94, R81, R84, R169), at the floor that holds the seat's zone:
discarded under the guard; the refused flash at a floor that is not LIVE, for an unqueued seat of a suspended one (R10), and
without admission to a PRIVATE booking. A queued seat withdraws, also at a suspended floor. A chair's microphone opens and
closes. A delegate that is open closes where self_close is yes, with the auto grant of an AUTO_QUEUE floor after it, and flashes
where it is no; one that is closed joins the queue or opens by the mode, the limit and the overflow policy. The press is
recorded and marks the table as in use; every other record stays. How the answer's operands say what was received is the
model's choice, log entry 8. -/
def Obligations.SpeakPressByFloorAndMode : Prop :=
  ∀ (s : State) (seg : Segment) (n f : Nat) (img : Image) (rx : Reception) (up : Uplink) (e : PressEvent) (x y : Seat)
    (fl : Floor) (q : FloorParams) (w : Queue) (c : Instr) (r flashed : Records),
    s.goodPoll seg n img rx up → s.part.noOperation → nth s.part.seats n = some x → uplinkCarries up .speak e x →
    s.part.control.tableState = .awake → s.part.floorOf n = some f → nth s.part.floors f = some fl →
    nth s.part.queues f = some w → fl.params = some q → y = x.afterPress img .speak e → c = .pollAnswer seg rx up →
    r = s.withPress n y → flashed = s.withPress n { y with flashDue := true } →
    (x.guardUntil ≠ none → Leaves c s r) ∧
    (x.guardUntil = none →
      (fl.state ≠ .live → Leaves c s flashed) ∧
      (fl.suspended = true → s.part.isQueued f n = false → Leaves c s flashed) ∧
      (s.part.isPrivate f = true → s.part.admitted n = false → Leaves c s flashed) ∧
      (fl.state = .live → s.part.isPrivate f = false ∨ s.part.admitted n = true →
        (x.role ≠ .chair → s.part.openEntry f n = none → s.part.isQueued f n = true →
          Leaves c s { r with queues := upd s.part.queues f (fun _ => w.without n) }) ∧
        (fl.suspended = false →
          (x.role = .chair → (∀ g, s.part.openEntry g n = none) →
            Leaves c s { r with
              floors := upd s.part.floors f (fun _ => fl.opens (fl.chairEntry n))
              queues := upd s.part.queues f (fun _ => w.without n) }) ∧
          (x.role = .chair → (s.part.openEntry f n).isSome = true → x.priorityHeld = false →
            Leaves c s { r with floors := upd s.part.floors f (fun _ => fl.without n) }) ∧
          (x.role ≠ .chair → (s.part.openEntry f n).isSome = true →
            (q.selfClose = false → Leaves c s flashed) ∧
            (q.selfClose = true → x.priorityHeld = false → q.mode = .moderated ∨ w.entries = [] →
              Leaves c s { r with floors := upd s.part.floors f (fun _ => fl.without n) }) ∧
            (∀ (m : Nat) (a : QueueEntry) (rest : List QueueEntry), q.selfClose = true → x.priorityHeld = false →
              q.mode = .autoQueue → s.part.isDelegate f n = true → (fl.without n).delegates + 1 = q.limit →
              w.entries = a :: rest → a.seat = m → m ≠ n → (∀ b ∈ rest, b.seat ≠ m) → s.part.inService m = true →
              (s.part.seatAt m).role ≠ .chair → (∀ g, s.part.openEntry g m = none) → s.part.isPrivate f = false →
              Leaves c s { r with
                floors := upd s.part.floors f (fun _ => (fl.without n).opens (fl.delegateEntry q m))
                queues := upd s.part.queues f (fun _ => { w with entries := rest }) })) ∧
          (x.role ≠ .chair → (∀ g, s.part.openEntry g n = none) → s.part.isQueued f n = false →
            ∀ (joins : Records) (room : Prop),
              joins = { r with queues := upd s.part.queues f (fun _ =>
                w.joins n (if x.role = .priority then .priority else .ordinary)) } →
              (room ↔ (w.entries.length < q.queueCap ∧ 0 < s.part.queueFree)) →
              (q.mode = .moderated → (room → Leaves c s joins) ∧ (¬ room → Leaves c s flashed)) ∧
              (q.mode = .openFloor → fl.delegates < q.limit →
                Leaves c s { r with floors := upd s.part.floors f (fun _ => fl.opens (fl.delegateEntry q n)) }) ∧
              (q.mode = .openFloor → q.limit ≤ fl.delegates →
                (q.overflow = .refuse → Leaves c s flashed) ∧
                (q.overflow = .queue → (room → Leaves c s joins) ∧ (¬ room → Leaves c s flashed)) ∧
                (∀ m, q.overflow = .replaceOldest →
                  (fl.openList.find? (fun a => decide (a.cls = .delegate))).map (fun a => a.seat) = some m →
                  (s.part.seatAt m).priorityHeld = false →
                  Leaves c s { r with
                    seats := (upd (upd s.part.seats n (fun _ => y)) m
                      (fun z => { z with guardUntil := some (s.part.now + Config.guard) })).map Seat.quiet
                    floors := upd s.part.floors f (fun _ => (fl.without m).opens (fl.delegateEntry q n)) })) ∧
              (q.mode = .autoQueue →
                (¬ room → Leaves c s flashed) ∧ (room → q.limit ≤ fl.delegates → Leaves c s joins) ∧
                (room → fl.delegates < q.limit → w.entries = [] →
                  Leaves c s { r with
                    floors := upd s.part.floors f (fun _ => fl.opens (fl.delegateEntry q n))
                    queues := upd s.part.queues f (fun _ => { entries := [], lastArrival := nextNumber w.lastArrival }) }))))))

/-- The chair's buttons in the uplink of a POLL (R96 to R100, R83, R85, R10, R169). NEXT grants the head of the queue below the
limit, and at the limit closes the oldest delegate as a forced close first; CANCEL_ALL closes every DELEGATE entry as a forced
close and empties the queue, also while the floor is suspended; a rising edge of PRIORITY starts a hold, which opens the chair
and, as the first, mutes every DELEGATE; its fall ends the hold, and the last one unmutes. A seat that is no chair unit or has
not the role CHAIR, a seat whose zone no floor holds, and a floor that does not take the button have the refused flash. Every
other record stays. How the answer's operands say what was received is the model's choice, log entry 8. -/
def Obligations.ChairButtonsActOnTheFloor : Prop :=
  ∀ (s : State) (seg : Segment) (n : Nat) (img : Image) (rx : Reception) (up : Uplink) (e : PressEvent) (x : Seat) (c : Instr),
    s.goodPoll seg n img rx up → s.part.noOperation → nth s.part.seats n = some x → s.part.control.tableState = .awake →
    c = .pollAnswer seg rx up →
    (∀ b, b = .next ∨ b = .cancelAll → uplinkCarries up b e x →
      (s.part.floorOf n = none ∨ x.unitKind ≠ some .chair ∨ x.role ≠ .chair →
        Leaves c s (s.withPress n { x.afterPress img b e with flashDue := true }))) ∧
    (up.speak = none → up.next = none → up.cancelAll = none → x.priorityUp = false → up.priorityUp = true →
      s.part.floorOf n = none ∨ x.unitKind ≠ some .chair ∨ x.role ≠ .chair →
        Leaves c s (s.withSeat n { x.afterPoll img with priorityUp := true, flashDue := true })) ∧
    (∀ (f : Nat) (fl : Floor) (q : FloorParams) (w : Queue), s.part.floorOf n = some f → nth s.part.floors f = some fl →
      nth s.part.queues f = some w → fl.params = some q → x.unitKind = some .chair → x.role = .chair →
      (uplinkCarries up .next e x →
        (fl.state ≠ .live ∨ fl.suspended = true ∨ (s.part.isPrivate f = true ∧ s.part.admitted n = false) ∨ w.entries = [] →
          Leaves c s (s.withPress n { x.afterPress img .next e with flashDue := true })) ∧
        (∀ (m : Nat) (a : QueueEntry) (rest : List QueueEntry), fl.state = .live → fl.suspended = false →
          s.part.isPrivate f = false → w.entries = a :: rest → a.seat = m → (∀ b ∈ rest, b.seat ≠ m) →
          s.part.inService m = true → (s.part.seatAt m).role ≠ .chair → (∀ g, s.part.openEntry g m = none) →
          (fl.delegates < q.limit →
            Leaves c s { s.withPress n (x.afterPress img .next e) with
              floors := upd s.part.floors f (fun _ => fl.opens (fl.delegateEntry q m))
              queues := upd s.part.queues f (fun _ => { w with entries := rest }) }) ∧
          (∀ d, q.limit ≤ fl.delegates →
            (fl.openList.find? (fun b => decide (b.cls = .delegate))).map (fun b => b.seat) = some d →
            (s.part.seatAt d).priorityHeld = false → d ≠ n → q.limit ≤ (fl.without d).delegates + 1 →
            Leaves c s { s.withPress n (x.afterPress img .next e) with
              seats := (upd (upd s.part.seats n (fun _ => x.afterPress img .next e)) d
                (fun z => { z with guardUntil := some (s.part.now + Config.guard) })).map Seat.quiet
              floors := upd s.part.floors f (fun _ => (fl.without d).opens (fl.delegateEntry q m))
              queues := upd s.part.queues f (fun _ => { w with entries := rest }) }))) ∧
      (uplinkCarries up .cancelAll e x →
        (fl.state ≠ .live ∨ (s.part.isPrivate f = true ∧ s.part.admitted n = false) →
          Leaves c s (s.withPress n { x.afterPress img .cancelAll e with flashDue := true })) ∧
        (fl.state = .live → s.part.isPrivate f = false ∨ s.part.admitted n = true →
          (∀ a ∈ fl.openList, a.cls = .delegate → (s.part.seatAt a.seat).priorityHeld = false) →
          (fl.openList.map (fun a => a.seat)).Nodup →
          ∃ p, Ends c s p ∧
            p.floorAt f = { fl with openList := fl.openList.filter (fun a => decide (a.cls = .chair)) } ∧
            p.queueAt f = { w with entries := [] } ∧
            (∀ m z, nth (upd s.part.seats n (fun _ => x.afterPress img .cancelAll e)) m = some z →
              (p.seatAt m).quiet =
                (if (∃ a ∈ fl.openList, a.cls = .delegate ∧ a.seat = m) then
                  { z with guardUntil := some (s.part.now + Config.guard) } else z).quiet) ∧
            (∀ g, g ≠ f → p.floorAt g = s.part.floorAt g ∧ p.queueAt g = s.part.queueAt g) ∧
            p.records =
              { s.withPress n (x.afterPress img .cancelAll e) with
                seats := p.records.seats, floors := p.floors, queues := p.queues })) ∧
      (up.speak = none → up.next = none → up.cancelAll = none →
        (x.priorityUp = false → up.priorityUp = true →
          (fl.state ≠ .live ∨ fl.suspended = true ∨ (s.part.isPrivate f = true ∧ s.part.admitted n = false) →
            Leaves c s (s.withSeat n { x.afterPoll img with priorityUp := true, flashDue := true })) ∧
          (∀ mute, mute = (fun a : OpenEntry =>
              if fl.priorityHolders = 0 ∧ a.cls = .delegate then { a with muted := true } else a) →
            fl.state = .live → fl.suspended = false → s.part.isPrivate f = false ∨ s.part.admitted n = true →
            ((s.part.openEntry f n).isSome = true →
              Leaves c s { s.withSeat n { x.afterPoll img with priorityUp := true, priorityHeld := true } with
                floors := upd s.part.floors f (fun _ =>
                  { fl with priorityHolders := fl.priorityHolders + 1, openList := fl.openList.map mute }) }) ∧
            ((∀ g, s.part.openEntry g n = none) →
              Leaves c s { s.withSeat n { x.afterPoll img with priorityUp := true, priorityHeld := true } with
                floors := upd s.part.floors f (fun _ =>
                  { fl with
                    priorityHolders := fl.priorityHolders + 1, openOrder := nextNumber fl.openOrder
                    openList := (fl.openList ++ [fl.chairEntry n]).map mute })
                queues := upd s.part.queues f (fun _ => w.without n) }))) ∧
        (x.priorityUp = true → up.priorityUp = false →
          (x.priorityHeld = false → Leaves c s (s.withSeat n { x.afterPoll img with priorityUp := false })) ∧
          (x.priorityHeld = true →
            Leaves c s { s.withSeat n { x.afterPoll img with priorityUp := false, priorityHeld := false } with
              floors := upd s.part.floors f (fun _ =>
                { fl with
                  priorityHolders := fl.priorityHolders - 1
                  openList :=
                    if fl.priorityHolders ≤ 1 then fl.openList.map (fun a => { a with muted := false })
                    else fl.openList }) }))))

/-- An ad hoc booking (R41, R42, R49): a new SPEAK press from a seat whose zone no floor holds, with ad hoc bookings allowed, the
clock set, the table AWAKE, its room unheld, 5 minutes or more to the end, and a free slot, makes a booking of the room in the
lowest free slot with the settings' length and parameters, cut at the occupation start of another booking of the room, and
apply begins for it in the same step on the lowest FREE floor, with the press pending. Where a test fails the press has the
refused flash alone. How the answer's operands say what was received is the model's choice, log entry 8. -/
def Obligations.AdHocBookingByPress : Prop :=
  ∀ (s : State) (seg : Segment) (n z last : Nat) (img : Image) (rx : Reception) (up : Uplink) (e : PressEvent) (x y : Seat)
    (room : ZoneRun), s.goodPoll seg n img rx up → s.part.noOperation → nth s.part.seats n = some x →
    uplinkCarries up .speak e x → y = x.afterPress img .speak e → s.part.zoneOf n = some z → s.part.floorOfZone z = none →
    s.part.slots.length = 48 → room = s.part.roomOf z →
    last ≤ s.part.clock.minute + s.part.settings.adHocLength → last ≤ 16777215 →
    (∀ k b, s.part.slotAt k = some b → b.state ≠ .ended → b.zones.meets room = true → last ≤ b.startMinute - b.lead) →
    (last = s.part.clock.minute + s.part.settings.adHocLength ∨ last = 16777215 ∨
      ∃ k b, s.part.slotAt k = some b ∧ b.state ≠ .ended ∧ b.zones.meets room = true ∧ last = b.startMinute - b.lead) →
    (s.part.control.tableState = .waking ∨
        (s.part.control.tableState = .awake ∧
          (s.part.settings.adHocAllowed = false ∨ s.part.clock.valid = false ∨ s.part.unheld room = false ∨
            last < s.part.clock.minute + 5 ∨ ∀ k, 1 ≤ k → k ≤ 48 → s.part.slotAt k ≠ none)) →
      Leaves (.pollAnswer seg rx up) s (s.withPress n { y with flashDue := true })) ∧
    (∀ (k f : Nat) (fl : Floor) (w : Queue), s.part.control.tableState = .awake → s.part.settings.adHocAllowed = true →
      s.part.clock.valid = true → s.part.unheld room = true → s.part.clock.minute + 5 ≤ last → 1 ≤ k → k ≤ 48 →
      s.part.slotAt k = none → (∀ j, 1 ≤ j → j < k → s.part.slotAt j ≠ none) → 1 ≤ f → f ≤ 4 →
      (∀ g, 1 ≤ g → g < f → (s.part.floorAt g).state ≠ .free) → nth s.part.floors f = some fl → fl.state = .free →
      nth s.part.queues f = some w → s.part.contexts.length = 4 → s.part.calm →
      ∃ p, Ends (.pollAnswer seg rx up) s p ∧ p.lastHandle = s.part.nextHandle ∧
        p.slotAt k = some
          { handle := s.part.nextHandle, origin := .adHoc, state := .preparing, zones := room,
            startMinute := s.part.clock.minute, endMinute := last, lead := 0, grace := 0, params := s.part.settings.adHocParams,
            confidentiality := .openMeeting, guestCode := 0, guestMask := 0xFFFF, roster := [], floor := some f,
            startNoted := true, closeNoted := false, pendingOutcome := none, retireOnCompletion := false,
            pendingSeat := some n, outcome := none,
            flags := { rosterUnseated := false, wasSuspended := false, closeUnconfirmed := false, lateApply := false } } ∧
        p.floorAt f =
          { state := .preparing, suspended := false, zones := some room, booking := some s.part.nextHandle
            params := some s.part.settings.adHocParams, priorityHolders := 0, openOrder := 0, openList := [] } ∧
        p.queueAt f = { entries := [], lastArrival := 0 } ∧
        (∃ c, p.contextAt f = some c ∧ c.booking = s.part.nextHandle ∧ c.phase = .push ∧
          c.work.map (fun v => (v.seat, v.attempts, v.status)) =
            (seatNumbers.filter (fun m => s.part.seatIn room m && s.part.inService m)).map
              (fun m => (m, 0, WorkStatus.awaiting))) ∧
        (∀ m u, nth (upd s.part.seats n (fun _ => y)) m = some u →
          (p.seatAt m).quiet =
            (if s.part.seatIn room m then { u with occupant := none, role := .ordinary } else u).quiet) ∧
        (∀ j, j ≠ k → p.slotAt j = s.part.slotAt j) ∧
        (∀ g, g ≠ f → p.floorAt g = s.part.floorAt g ∧ p.queueAt g = s.part.queueAt g) ∧
        p.records = { s.withPress n y with
          seats := p.records.seats, slots := p.slots, lastHandle := p.lastHandle, floors := p.floors, queues := p.queues
          contexts := p.contexts })

/-! ### Displays, settings, walks and waking: the host's requests -/

/-- CHANGE_DISPLAY (R135): the named fields are written, the others and every other record stay; a display outside D1
to D8 or a value out of its range is BAD_VALUE. CHANGE_SETTINGS (R193, R194, R2) at an AWAKE table: BUSY during a
store, BAD_VALUE for a group named twice or out of its range, NOT_ALLOWED for a zone map while a floor is held;
otherwise every named group is written, `live_differs` becomes yes when a value changed, the band is evaluated anew
when the ambient thresholds changed, and every other record stays. STORE_SETTINGS and its completion (R195): ACCEPTED
with the live settings copied, BUSY while one is in flight; at the completion the copy becomes the stored image, or
the image fails its check. Every other record stays. That STORE_COMPLETE with no store in flight changes nothing is
the model's choice, log entry 5. -/
def Obligations.DisplayAndSettingsRequests : Prop :=
  (∀ (s : State) (body : List Byte) (r : DisplayRequest), s.runs → parseDisplay body = some r →
    (1 ≤ r.display → r.display ≤ 8 → r.ok = true →
      AnswersWith (.changeDisplay body) s 0x30 .done []
        { s.part.records with
          displays := (upd s.part.displays r.display (fun d => { d with config :=
            { binding := r.binding.getD d.config.binding, contentA := r.contentA.getD d.config.contentA
              contentB := r.contentB.getD d.config.contentB, dwellA := r.dwellA.getD d.config.dwellA
              dwellB := r.dwellB.getD d.config.dwellB, outsideVisible := r.outsideVisible.getD d.config.outsideVisible
              auto := r.auto.getD d.config.auto, fixedLevel := r.fixedLevel.getD d.config.fixedLevel } })).map Display.core }) ∧
    (¬ (1 ≤ r.display ∧ r.display ≤ 8) ∨ r.ok = false → Answers (.changeDisplay body) s 0x30 .badValue [])) ∧
  (∀ (s : State) (body : List Byte) (items : List SettingsItem), s.runs → parseSettings body = some items →
    (s.part.store.copy.isSome = true → Answers (.changeSettings body) s 0x38 .busy []) ∧
    (s.part.store.copy = none →
      ((noRepeats (items.map SettingsItem.code) && items.all SettingsItem.ok) = false →
        Answers (.changeSettings body) s 0x38 .badValue []) ∧
      ((noRepeats (items.map SettingsItem.code) && items.all SettingsItem.ok) = true →
        ((∃ i ∈ items, i.code = 1) → (∃ f, 1 ≤ f ∧ f ≤ 4 ∧ (s.part.floorAt f).state ≠ .free) →
          Answers (.changeSettings body) s 0x38 .notAllowed []) ∧
        (∀ new, new = items.foldl SettingsItem.write s.part.settings → s.part.control.tableState = .awake →
          ((∀ i ∈ items, i.code ≠ 1) ∨ ∀ f, 1 ≤ f → f ≤ 4 → (s.part.floorAt f).state = .free) →
          AnswersWith (.changeSettings body) s 0x38 .done []
            { s.part.records with
              settings := new
              store := { s.part.store with liveDiffers := s.part.store.liveDiffers || decide (new ≠ s.part.settings) }
              ambient := match s.part.ambient.lastReading with
                | none => s.part.ambient
                | some r =>
                  if new.t1 ≠ s.part.settings.t1 ∨ new.t2 ≠ s.part.settings.t2 ∨ new.t3 ≠ s.part.settings.t3 ∨
                    new.hysteresis ≠ s.part.settings.hysteresis then
                    { s.part.ambient with band := bandAfter new s.part.ambient.band r }
                  else s.part.ambient })))) ∧
  (∀ s : State, s.runs →
    (s.part.store.copy.isSome = true → Answers (.storeSettings []) s 0x39 .busy []) ∧
    (s.part.store.copy = none →
      AnswersWith (.storeSettings []) s 0x39 .accepted []
        { s.part.records with store := { s.part.store with copy := some s.part.settings } }) ∧
    (∀ c, s.part.store.copy = some c →
      Leaves (.storeComplete true) s
        { s.part.records with store :=
            { s.part.store with copy := none, lastStore := .done, liveDiffers := false, image := some c } } ∧
      Leaves (.storeComplete false) s
        { s.part.records with store :=
            { s.part.store with copy := none, lastStore := .failed, liveDiffers := true, image := none } }) ∧
    (s.part.store.copy = none → ∀ m, Leaves (.storeComplete m) s s.part.records))

/-- WALK (R161, R151): NOT_ALLOWED unless the table is AWAKE and no floor holds a zone with seats on the segment, BUSY
while it is WALKING; otherwise ACCEPTED: a segment with a free line is WALKING at once, one with an exchange on its
line keeps the request, and no record changes. WAKE (R175, R172, R173): DONE with no change at a table that is AWAKE
or WAKING; ACCEPTED at one that sleeps or is on its way there, which begins WAKING with cause HOST and its sleep
requests withdrawn, here with LEFT asleep, which walks. -/
def Obligations.WalkAndWakeRequests : Prop :=
  (∀ (s : State) (seg : Segment) (code : Nat), s.runs → code < 256 → segmentCode code = some seg →
    (s.part.control.tableState ≠ .awake → Answers (.walk (byte code)) s 0x40 .notAllowed []) ∧
    (s.part.control.tableState = .awake →
      ((∃ z r f, 1 ≤ z ∧ z ≤ 4 ∧ nth s.part.settings.zoneMap z = some r ∧ r.on seg = true ∧
          s.part.floorOfZone z = some f) → Answers (.walk (byte code)) s 0x40 .notAllowed []) ∧
      ((∀ z r, 1 ≤ z → z ≤ 4 → nth s.part.settings.zoneMap z = some r → r.on seg = true → s.part.floorOfZone z = none) →
        ((s.part.engine seg).state = .walking → Answers (.walk (byte code)) s 0x40 .busy []) ∧
        ((s.part.engine seg).state ≠ .walking →
          ∃ p, exec (.walk (byte code)) s = .next { s with part := p } ∧
            p.answer = { status := .accepted, code := 0x40, body := [] } ∧ p.records = s.part.records ∧
            ((s.part.engine seg).line = none → (p.engine seg).state = .walking ∧ (p.engine seg).walkRequested = false) ∧
            ((s.part.engine seg).line ≠ none → (p.engine seg).state = (s.part.engine seg).state ∧
              (p.engine seg).walkRequested = true))))) ∧
  (∀ s : State, s.runs →
    (s.part.control.tableState = .awake ∨ s.part.control.tableState = .waking →
      AnswersWith (.wake []) s 0x41 .done [] s.part.records) ∧
    (s.part.control.tableState = .enteringStandby ∨ s.part.control.tableState = .standby → s.part.left.state = .idle →
      ∃ p, exec (.wake []) s = .next { s with part := p } ∧ p.answer = { status := .accepted, code := 0x41, body := [] } ∧
        p.records = { s.part.records with control :=
          { s.part.control with
            tableState := .waking, lastWakeCause := .host, sleep := { left := false, right := false, wall := false } } } ∧
        p.left.state = .walking))

/-! ### The seat link -/

/-- The score and the presence of a unit (R69, R71): GOOD lowers `error_score` by 1 and a failure raises it by 8; the
settle count leads out of SETTLING, failures to DEGRADED at 96 and CUT_OFF at 256, and GOOD back to PRESENT at 48. A
badge reading (R78): an agreeing one clears the candidate, 0 clears all three at once, and a different one settles when
it has been read the settle count of times in a row; no other field of the seat changes. The end of a POLL of
a seat in SETTLING, PRESENT or DEGRADED (R152): answered GOOD when complete, with its check right, of its kind and from the
addressed position, else failed, as when the window runs out. The seat's score and presence move so; no other unit's does,
neither a seat's nor a display's nor a sensor's, and the clock, settings, layout and ambient record stay. How the answer's
operands say what was received is the model's choice, log entry 8. -/
def Obligations.PresenceAndBadgesMoveByTheRules : Prop :=
  (∀ (h g : Health) (good : Bool) (need : Nat), g = (h.score good).move good need →
    (good = true → g.errorScore = h.errorScore - 1) ∧ (good = false → g.errorScore = sat 65535 (h.errorScore + 8)) ∧
    (h.presence = .settling → good = true → need ≤ h.settleCount + 1 →
      g.settleCount = 0 ∧ g.presence = if g.errorScore < 96 then .present else .degraded) ∧
    (h.presence = .settling → good = true → h.settleCount + 1 < need → need ≤ 15 →
      g.settleCount = h.settleCount + 1 ∧ g.presence = .settling) ∧
    (h.presence = .settling → good = false →
      g.settleCount = 0 ∧ g.presence = if 256 ≤ g.errorScore then .cutOff else .settling) ∧
    (h.presence = .present → good = true → g.presence = .present ∧ g.settleCount = h.settleCount) ∧
    (h.presence = .present → good = false →
      g.presence = (if 256 ≤ g.errorScore then .cutOff else if 96 ≤ g.errorScore then .degraded else .present) ∧
      g.settleCount = h.settleCount) ∧
    (h.presence = .degraded → good = true →
      g.presence = (if g.errorScore ≤ 48 then .present else .degraded) ∧ g.settleCount = h.settleCount) ∧
    (h.presence = .degraded → good = false →
      g.presence = (if 256 ≤ g.errorScore then .cutOff else .degraded) ∧ g.settleCount = h.settleCount)) ∧
  (∀ (need : Nat) (reading : Tag) (x : Seat),
    (reading = 0 → Seat.readBadge need reading x = { x with badge := none, badgeCandidate := none, badgeRepeat := 0 }) ∧
    (reading ≠ 0 → x.badge = some reading →
      Seat.readBadge need reading x = { x with badgeCandidate := none, badgeRepeat := 0 }) ∧
    (reading ≠ 0 → x.badge ≠ some reading → x.badgeCandidate = some reading → need ≤ x.badgeRepeat + 1 →
      Seat.readBadge need reading x = { x with badge := some reading, badgeCandidate := none, badgeRepeat := 0 }) ∧
    (reading ≠ 0 → x.badge ≠ some reading → x.badgeCandidate = some reading → x.badgeRepeat + 1 < need →
      Seat.readBadge need reading x = { x with badgeRepeat := x.badgeRepeat + 1 }) ∧
    (reading ≠ 0 → x.badge ≠ some reading → x.badgeCandidate ≠ some reading → 1 < need →
      Seat.readBadge need reading x = { x with badgeCandidate := some reading, badgeRepeat := 1 })) ∧
  (∀ (s : State) (seg : Segment) (pos : Nat) (img : Image) (c : Instr) (good : Bool), s.runs →
    (s.part.engine seg).line = some { exchange := .poll pos img, orphan := false } →
    (s.part.seatAt (seatOn seg pos)).health.presence.polled = true →
    ((∃ rx up, c = .pollAnswer seg rx up ∧
        good = (rx.complete && rx.checkRight && rx.kindRight && decide (up.position = pos))) ∨
      (c = .responseTimeout seg ∧ good = false)) →
    ∃ p, Ends c s p ∧
      (p.seatAt (seatOn seg pos)).health =
        ((s.part.seatAt (seatOn seg pos)).health.score good).move good s.part.settings.presenceSettle ∧
      (∀ m, m ≠ seatOn seg pos → (p.seatAt m).health = (s.part.seatAt m).health) ∧
      (∀ m, (p.seatAt m).unitKind = (s.part.seatAt m).unitKind ∧ (p.seatAt m).unitSerial = (s.part.seatAt m).unitSerial) ∧
      p.displays.map Display.core = s.part.displays.map Display.core ∧
      p.clock = s.part.clock ∧ p.settings = s.part.settings ∧ p.store = s.part.store ∧
      p.partitions = s.part.partitions ∧ p.ambient = s.part.ambient ∧ p.now = s.part.now)

/-- A GOOD POLL of a PRESENT seat that carries nothing new (R81, R78, R68, R70): no event or the tag taken last, the badge
the record holds, the level it holds, no operation waiting for it. The score falls, a carried flash and a badge candidate are
gone, `mic_confirmed` says whether the microphone echoed the state commanded, that of the other seats stays, and every other
record stays. How the answer's operands say what was received is the model's choice, log entry 8. -/
def Obligations.PollWithNothingNew : Prop :=
  ∀ (s : State) (seg : Segment) (n : Nat) (img : Image) (rx : Reception) (up : Uplink) (x : Seat),
    s.goodPoll seg n img rx up → nth s.part.seats n = some x → uplinkSilent up x → s.part.noOperation →
    ∃ p, Ends (.pollAnswer seg rx up) s p ∧ p.records = s.withSeat n (x.afterPoll img) ∧
      (p.seatAt n).micConfirmed = decide (up.echo = img.mic) ∧
      ∀ m, m ≠ n → (p.seatAt m).micConfirmed = (s.part.seatAt m).micConfirmed

/-- The end of a SHOW (R134, R142): the display unit's score and presence move, and every other record stays. `shown`
becomes yes where a GOOD SHOW carried the content and drive value that stand, and no where it carried others; a failed one
keeps it, but not past a move out of PRESENT and DEGRADED; and a recompute that changes what the display shows makes it no
(R141). The end of a SENSE of the ambient sensor (R143, R144, R155): a GOOD one writes the reading and evaluates the band, a
failed one, also one whose reading is a partition's, leaves both; the unit's score and presence move, and every other record
stays. How the answer's operands say what was received is the model's choice, log entries 7 and 8. -/
def Obligations.ShowAndAmbientAnswers : Prop :=
  (∀ (s : State) (pos d drive : Nat) (content : Effective) (c : Instr) (good : Bool) (old : Display) (h : Health), s.runs →
    s.part.wall.line = some { exchange := .show pos content drive, orphan := false } →
    s.part.roleAt pos = some (.display d) → nth s.part.displays d = some old → old.health.presence.polled = true →
    h = (old.health.score good).move good s.part.settings.presenceSettle →
    ((∃ rx position kind, c = .showAnswer rx position kind ∧
        good = (rx.complete && rx.checkRight && rx.kindRight && decide (position = pos))) ∨
      (c = .responseTimeout .wall ∧ good = false)) →
    ∃ p, Ends c s p ∧
      p.records =
        { s.part.records with displays := (upd s.part.displays d (fun x => { x with health := h })).map Display.core } ∧
      (p.displayAt d).shown =
        ((if good then decide (content = old.content ∧ drive = old.drive)
          else old.shown && (!old.health.presence.inService || h.presence.inService)) &&
        decide ((p.displayAt d).content = old.content ∧ (p.displayAt d).level = old.level ∧ (p.displayAt d).drive = old.drive))) ∧
  (∀ (s : State) (pos : Nat) (h : Bool → Health), s.runs →
    s.part.wall.line = some { exchange := .sense pos, orphan := false } → s.part.roleAt pos = some .ambient →
    s.part.ambient.health.presence.polled = true →
    (∀ good, h good = (s.part.ambient.health.score good).move good s.part.settings.presenceSettle) →
    (∀ (rx : Reception) (v : BitVec 12), rx.complete = true → rx.checkRight = true → rx.kindRight = true →
      ∀ t m q, t = [s.part.settings.t1, s.part.settings.t2, s.part.settings.t3] →
        m = (t.filter (fun x => decide (x + s.part.settings.hysteresis ≤ v.toNat))).length →
        q = ((t.take s.part.ambient.band).filter (fun x => decide (x ≤ v.toNat))).length →
        Leaves (.senseAmbient rx pos (.level v)) s
          { s.part.records with
            ambient := { s.part.ambient with
              health := h true, lastReading := some v.toNat
              band := if s.part.ambient.band < m then m else if q < s.part.ambient.band then q else s.part.ambient.band } }) ∧
    (∀ c, (c = .responseTimeout .wall ∨ ∃ rx position reading, c = .senseAmbient rx position reading ∧
        ((reading = .wallOpen ∨ reading = .wallClosed) ∨ position ≠ pos ∨
          (rx.complete && rx.checkRight && rx.kindRight) = false)) →
      Leaves c s { s.part.records with ambient := { s.part.ambient with health := h false } }))

/-- The end of a SENSE of a partition (R4, R6, R13, R155): a reading that agrees with the state drops the candidate; a
different one counts up to the partition settle count, and then becomes the state, which the FLOOR flag tells where one floor
holds both sides. A failure, also a reading of the ambient sort, carries no reading: it moves the score and the presence, and
drops the candidate where the sensor is CUT_OFF by it. Where the state stays, every other record stays; where it changes, the
layout changes at that partition alone. How the answer's operands say what was received is the model's choice, log entries 7
and 8. -/
def Obligations.SensePartitionSettles : Prop :=
  ∀ (s : State) (pos k : Nat) (x : Partition) (h : Bool → Health), s.runs →
    s.part.wall.line = some { exchange := .sense pos, orphan := false } → s.part.roleAt pos = some (.partition k) →
    nth s.part.partitions k = some x → x.health.presence.polled = true →
    (∀ good, h good = (x.health.score good).move good s.part.settings.presenceSettle) →
    (∀ (rx : Reception) (reading : Reading) (r : WallState), rx.complete = true → rx.checkRight = true → rx.kindRight = true →
      (reading = .wallOpen ∧ r = WallState.opened ∨ reading = .wallClosed ∧ r = WallState.closed) →
      (r = x.state →
        Leaves (.sensePartition rx pos reading) s
          { s.part.records with
            partitions := upd s.part.partitions k (fun _ => { x with health := h true, candidate := none, repeatCount := 0 }) }) ∧
      (∀ seen, seen = (if x.candidate = some r then x.repeatCount + 1 else 1) → r ≠ x.state →
        (seen < s.part.settings.partitionSettle →
          Leaves (.sensePartition rx pos reading) s
            { s.part.records with
              partitions :=
                upd s.part.partitions k (fun _ => { x with health := h true, candidate := some r, repeatCount := seen }) }) ∧
        (s.part.settings.partitionSettle ≤ seen →
          ∃ p, Ends (.sensePartition rx pos reading) s p ∧
            p.partitions =
              upd s.part.partitions k (fun _ => { x with health := h true, state := r, candidate := none, repeatCount := 0 }) ∧
            p.clock = s.part.clock ∧ p.settings = s.part.settings ∧ p.store = s.part.store ∧ p.now = s.part.now ∧
            p.ambient = s.part.ambient ∧
            ((∃ f, 1 ≤ f ∧ f ≤ 4 ∧ (s.part.floorAt f).holds k = true ∧ (s.part.floorAt f).holds (k + 1) = true) →
              s.part.notices.enables &&& 0x002 ≠ 0 → p.notices.flags &&& 0x002 ≠ 0)))) ∧
    (∀ c, (c = .responseTimeout .wall ∨ ∃ rx position reading, c = .sensePartition rx position reading ∧
        ((∃ v, reading = .level v) ∨ position ≠ pos ∨ (rx.complete && rx.checkRight && rx.kindRight) = false)) →
      Leaves c s
        { s.part.records with
          partitions := upd s.part.partitions k (fun _ =>
            if (h false).presence = .cutOff then { x with health := h false, candidate := none, repeatCount := 0 }
            else { x with health := h false }) })

/-- Suspension (R14 to R17), at the settled reading of one partition of an AWAKE table whose others are CLOSED. OPENED between
two LIVE floors, both are suspended: their microphones close as forced closes with the guard, their queues stay, and their
bookings note it. CLOSED, every floor resumes, here where no auto grant can follow, and nothing else changes beside the
partition. -/
def Obligations.PartitionsSuspendAndResumeFloors : Prop :=
  ∀ (s : State) (pos k : Nat) (x : Partition) (rx : Reception) (h : Health), s.runs → s.part.control.tableState = .awake →
    s.part.wall.line = some { exchange := .sense pos, orphan := false } → s.part.roleAt pos = some (.partition k) →
    1 ≤ k → k ≤ 3 → nth s.part.partitions k = some x → x.health.presence.polled = true → rx.complete = true →
    rx.checkRight = true → rx.kindRight = true → h = (x.health.score true).move true s.part.settings.presenceSettle →
    (∀ j, j ≠ k → s.part.wallOpen j = false) →
    (∀ f g, x.state = .closed →
      s.part.settings.partitionSettle ≤ (if x.candidate = some .opened then x.repeatCount + 1 else 1) →
      (∀ e, (s.part.floorAt e).suspended = false) → s.part.floorOfZone k = some f → s.part.floorOfZone (k + 1) = some g → f ≠ g →
      (s.part.floorAt f).state = .live → (s.part.floorAt g).state = .live →
      (∀ e, 1 ≤ e → e ≤ 4 → e ≠ f → e ≠ g → (s.part.floorAt e).holds k = false ∧ (s.part.floorAt e).holds (k + 1) = false) →
      (∀ a ∈ (s.part.floorAt f).openList ++ (s.part.floorAt g).openList, (s.part.seatAt a.seat).priorityHeld = false) →
      ∃ p, Ends (.sensePartition rx pos .wallOpen) s p ∧
        (∀ e, e = f ∨ e = g → p.floorAt e = { s.part.floorAt e with suspended := true, openList := [] } ∧
          (∀ d j b, (s.part.floorAt e).booking = some d → s.part.slotOf d = some j → s.part.slotAt j = some b →
            p.slotAt j = some { b with flags := { b.flags with wasSuspended := true } })) ∧
        (∀ e, e ≠ f → e ≠ g → p.floorAt e = s.part.floorAt e) ∧
        (∀ n z, nth s.part.seats n = some z → (p.seatAt n).quiet =
          (if n ∈ ((s.part.floorAt f).openList ++ (s.part.floorAt g).openList).map (fun a => a.seat) then
            { z with guardUntil := some (s.part.now + Config.guard) } else z).quiet) ∧
        p.records = { s.part.records with
          partitions := upd s.part.partitions k (fun _ =>
            { x with health := h, state := .opened, candidate := none, repeatCount := 0 })
          seats := p.records.seats, floors := p.floors, slots := p.slots }) ∧
    (x.state = .opened →
      s.part.settings.partitionSettle ≤ (if x.candidate = some .closed then x.repeatCount + 1 else 1) →
      s.part.floors.length = 4 →
      (∀ e, (s.part.floorAt e).suspended = true →
        (s.part.floorAt e).par.mode = .moderated ∨ (s.part.queueAt e).entries = []) →
      Leaves (.sensePartition rx pos .wallClosed) s
        { s.part.records with
          partitions := upd s.part.partitions k (fun _ =>
            { x with health := h, state := .closed, candidate := none, repeatCount := 0 })
          floors := s.part.floors.map (fun fl => { fl with suspended := false }) })

/-- A PROBE of a seat position (R73, R74, R164): a unit of a seat at an ABSENT record re-initialises it in SETTLING, one of
another kind is sent PARK where no walk is requested, the eighth GOOD PROBE in a row of the same unit brings CUT_OFF to SETTLING, and a failure
clears that count. Every other record stays. How the answer's operands say what was received is the model's choice, log
entry 8. -/
def Obligations.ProbeFindsTheUnit : Prop :=
  ∀ (s : State) (seg : Segment) (pos n : Nat) (x : Seat) (rx : Reception) (u : UnitReport), s.runs →
    (s.part.engine seg).line = some { exchange := .probe pos, orphan := false } → seg ≠ .wall → n = seatOn seg pos →
    nth s.part.seats n = some x → rx.complete = true → rx.checkRight = true → rx.kindRight = true → u.position = pos →
    (u.kind = .delegate ∨ u.kind = .chair →
      (x.health.presence = .absent →
        Leaves (.probeAnswer seg rx u) s
          { s.part.records with seats := (upd s.part.seats n (fun _ =>
              { unitKind := some u.kind, unitSerial := some u.serial
                health := { presence := .settling, settleCount := 0, errorScore := 0 }
                badge := none, badgeCandidate := none, badgeRepeat := 0, occupant := none, role := .ordinary
                micConfirmed := false, takenTags := { speak := none, next := none, cancelAll := none }, priorityUp := false
                priorityHeld := false, flashDue := false, lostPresses := 0, guardUntil := x.guardUntil })).map Seat.quiet }) ∧
      (x.health.presence = .cutOff → x.unitKind = some u.kind → x.unitSerial = some u.serial →
        Leaves (.probeAnswer seg rx u) s
          { s.part.records with seats := (upd s.part.seats n (fun _ =>
              { x with health :=
                if 8 ≤ x.health.settleCount + 1 then { presence := .settling, settleCount := 0, errorScore := 0 }
                else { x.health with settleCount := x.health.settleCount + 1 } })).map Seat.quiet })) ∧
    (u.kind ≠ .delegate → u.kind ≠ .chair → (s.part.engine seg).walkRequested = false →
      ∃ p, exec (.probeAnswer seg rx u) s = .next { s with part := p } ∧ p.answer = s.part.answer ∧
        p.records = s.part.records ∧ (p.engine seg).line = some { exchange := .park pos, orphan := false }) ∧
    (x.health.presence = .absent → Leaves (.responseTimeout seg) s s.part.records) ∧
    (x.health.presence = .cutOff →
      Leaves (.responseTimeout seg) s
        { s.part.records with seats :=
            (upd s.part.seats n (fun _ => { x with health := { x.health with settleCount := 0 } })).map Seat.quiet })

/-- The walk's beginning (R159): with its line free it enters the line break with its counts at 0, and at the break's
end offers position 1. No record changes. That the beginning is a step of its own is the model's choice, log entry 9.
The answers of a walk of a seat segment (R159, R160): a unit of a seat is kept and the next position offered, PARK at
the entry address when all 48 are given; another kind is sent PARK; a parked unit is counted and the position offered
again; with no answer to an offer the walk ends, RUNNING, with the positions given so far. How the answer's operands
say what was received is the model's choice, log entry 8. -/
def Obligations.WalkOffersAndGivesPositions : Prop :=
  (∀ (s : State) (seg : Segment) (w : WalkContext), s.runs → (s.part.engine seg).state = .walking →
    (s.part.engine seg).line = none → (s.part.engine seg).walkRequested = false → (s.part.engine seg).walk = some w →
    (w.phase = .toBegin →
      ∃ p, exec (.walkBegin seg) s = .next { s with part := p } ∧ p.answer = s.part.answer ∧ p.records = s.part.records ∧
        (p.engine seg).walk.map (fun v => v.phase) = some .lineBreak ∧ (p.engine seg).urgent = [] ∧
        (p.engine seg).unitsFound = 0 ∧ (p.engine seg).unitsParked = 0 ∧ (p.engine seg).walkOverflow = false) ∧
    (w.phase = .lineBreak →
      ∃ p, exec (.lineBreakEnd seg) s = .next { s with part := p } ∧ p.answer = s.part.answer ∧
        p.records = s.part.records ∧ (p.engine seg).line = some { exchange := .assign 1, orphan := false })) ∧
  (∀ (s : State) (seg : Segment) (w : WalkContext) (pos : Nat) (rx : Reception) (u : UnitReport), s.runs → seg ≠ .wall →
    (s.part.engine seg).state = .walking → (s.part.engine seg).walkRequested = false →
    (s.part.engine seg).walk = some w → w.position = pos → rx.complete = true → rx.checkRight = true →
    rx.kindRight = true → u.position = pos →
    ((s.part.engine seg).line = some { exchange := .assign pos, orphan := false } →
      (u.kind = .delegate ∨ u.kind = .chair →
        ∃ p, exec (.assignAnswer seg rx u) s = .next { s with part := p } ∧ p.answer = s.part.answer ∧
          p.records = s.part.records ∧ (p.engine seg).walk.map (fun v => v.kept) = some (w.kept ++ [u]) ∧
          (p.engine seg).line = some
            { exchange := if w.kept.length + 1 < 48 then .assign (pos + 1) else .park 0, orphan := false }) ∧
      (u.kind ≠ .delegate → u.kind ≠ .chair →
        ∃ p, exec (.assignAnswer seg rx u) s = .next { s with part := p } ∧ p.answer = s.part.answer ∧
          p.records = s.part.records ∧ (p.engine seg).walk.map (fun v => v.kept) = some w.kept ∧
          (p.engine seg).line = some { exchange := .park pos, orphan := false }) ∧
      ∃ p, exec (.responseTimeout seg) s = .next { s with part := p } ∧ p.answer = s.part.answer ∧
        (p.engine seg).state = .running ∧ (p.engine seg).walk = none ∧ (p.engine seg).unitsFound = w.kept.length ∧
        p.clock = s.part.clock ∧ p.settings = s.part.settings ∧ p.store = s.part.store ∧
        p.partitions = s.part.partitions ∧ p.ambient = s.part.ambient ∧ p.now = s.part.now) ∧
    ((s.part.engine seg).line = some { exchange := .park pos, orphan := false } → w.phase = .parking →
      ∃ p, exec (.parkAnswer seg rx u) s = .next { s with part := p } ∧ p.answer = s.part.answer ∧
        p.records = s.part.records ∧ (p.engine seg).unitsParked = sat 255 ((s.part.engine seg).unitsParked + 1) ∧
        (p.engine seg).walkOverflow = true ∧ (p.engine seg).walk.map (fun v => v.kept) = some w.kept ∧
        (p.engine seg).line = some { exchange := .assign pos, orphan := false }))

/-- The report of a walk that ends where no unit answers (R160, R75, R3, R134, R143). At a seat segment of a table whose floors
hold none of the seats: a unit found where the record names it changes nothing, another one re-initialises the record in
SETTLING, and a record whose unit was not found becomes ABSENT, a PRESENT or DEGRADED one losing its badge, flash and hold
first; the guard stays. On WALL the units kept in the role of a display, the ambient sensor or a partition are judged in the
same way by position and serial. Every other record stays. -/
def Obligations.WalkReportsWhatItFound : Prop :=
  (∀ (s : State) (seg : Segment) (w : WalkContext) (pos : Nat), s.runs → seg ≠ .wall →
    (s.part.engine seg).state = .walking → (s.part.engine seg).walkRequested = false → (s.part.engine seg).walk = some w →
    (s.part.engine seg).line = some { exchange := .assign pos, orphan := false } → (∀ n, s.part.floorOf n = none) →
    s.part.noOperation → s.part.control.tableState = .awake →
    ∃ p, Ends (.responseTimeout seg) s p ∧ p.records = { s.part.records with seats := p.records.seats } ∧
      (∀ i n x, 1 ≤ i → i ≤ 48 → n = seatOn seg i → nth s.part.seats n = some x →
        (p.seatAt n).quiet = Seat.quiet (match nth w.kept i with
          | some u =>
            if x.health.presence ≠ .absent ∧ x.unitKind = some u.kind ∧ x.unitSerial = some u.serial then x
            else
              { unitKind := some u.kind, unitSerial := some u.serial
                health := { presence := .settling, settleCount := 0, errorScore := 0 }
                badge := none, badgeCandidate := none, badgeRepeat := 0, occupant := none, role := .ordinary
                micConfirmed := false, takenTags := { speak := none, next := none, cancelAll := none }, priorityUp := false
                priorityHeld := false, flashDue := false, lostPresses := 0, guardUntil := x.guardUntil }
          | none =>
            if x.health.presence = .absent then x
            else if x.health.presence = .present ∨ x.health.presence = .degraded then
              { x with unitKind := none, unitSerial := none, health := { x.health with presence := .absent, settleCount := 0 }
                       badge := none, badgeCandidate := none, badgeRepeat := 0, flashDue := false, priorityHeld := false }
            else
              { x with unitKind := none, unitSerial := none
                       health := { x.health with presence := .absent, settleCount := 0 } })) ∧
      (∀ n, (∀ i, 1 ≤ i → i ≤ 48 → n ≠ seatOn seg i) → (p.seatAt n).quiet = (s.part.seatAt n).quiet)) ∧
  (∀ (s : State) (w : WalkContext) (pos : Nat), s.runs → s.part.wall.state = .walking → s.part.wall.walkRequested = false →
    s.part.wall.walk = some w → s.part.wall.line = some { exchange := .assign pos, orphan := false } →
    w.roles.Nodup → w.kept.length = w.roles.length → s.part.control.tableState = .awake →
    ∃ p, Ends (.responseTimeout .wall) s p ∧
      p.records = { s.part.records with
        displays := p.records.displays, ambient := p.ambient, partitions := p.partitions } ∧
      p.wall.state = .running ∧ p.wall.walk = none ∧ p.wall.unitsFound = w.kept.length ∧
      (∀ i, 1 ≤ i → i ≤ 12 → p.roleAt i = w.roles[i - 1]?) ∧
      (∀ d x, nth s.part.displays d = some x →
        (.display d ∉ w.roles → (p.displayAt d).core =
          { position := none, serial := none, health := { x.health with presence := .absent, settleCount := 0 }
            config := x.config }) ∧
        (∀ (i : Nat) (u : UnitReport), w.roles[i]? = some (.display d) → w.kept[i]? = some u →
          (p.displayAt d).core =
            if x.health.presence ≠ .absent ∧ x.unitPosition = some (i + 1) ∧ x.unitSerial = some u.serial then x.core
            else
              { position := some (i + 1), serial := some u.serial
                health := { presence := .settling, settleCount := 0, errorScore := 0 }, config := x.config })) ∧
      (∀ k x, nth s.part.partitions k = some x →
        (.partition k ∉ w.roles → p.partitionAt k =
          { x with sensorPosition := none, sensorSerial := none, candidate := none, repeatCount := 0
                   health := { x.health with presence := .absent, settleCount := 0 } }) ∧
        (∀ (i : Nat) (u : UnitReport), w.roles[i]? = some (.partition k) → w.kept[i]? = some u →
          p.partitionAt k =
            if x.health.presence ≠ .absent ∧ x.sensorPosition = some (i + 1) ∧ x.sensorSerial = some u.serial then x
            else
              { x with sensorPosition := some (i + 1), sensorSerial := some u.serial, candidate := none, repeatCount := 0
                       health := { presence := .settling, settleCount := 0, errorScore := 0 } })) ∧
      (.ambient ∉ w.roles → p.ambient =
        { s.part.ambient with
          sensorPosition := none, sensorSerial := none
          health := { s.part.ambient.health with presence := .absent, settleCount := 0 } }) ∧
      (∀ (i : Nat) (u : UnitReport), w.roles[i]? = some .ambient → w.kept[i]? = some u →
        p.ambient =
          if s.part.ambient.health.presence ≠ .absent ∧ s.part.ambient.sensorPosition = some (i + 1) ∧
            s.part.ambient.sensorSerial = some u.serial then s.part.ambient
          else
            { s.part.ambient with
              sensorPosition := some (i + 1), sensorSerial := some u.serial
              health := { presence := .settling, settleCount := 0, errorScore := 0 } }))

/-- The units of WALL take their roles at a walk and at a probe (R159, R164, R134, R143, R3). At a walk a display unit is the
next display while there are fewer than 8, the first ambient sensor is the ambient sensor, and a partition sensor is that of the
partition it names, 1 to 3, if none is yet; any other unit is sent PARK. At a PROBE of a position without a role a display
unit is the lowest display without a unit, and a sensor that of a record without one; any other unit, and one that does not
fit the role of its position, is sent PARK. At a position that keeps its role, of a display, the ambient sensor or a
partition, an ABSENT record takes the unit and settles; a CUT_OFF one with the same serial counts towards SETTLING, and with
another takes it. How the answer's operands say what was received is the model's choice, log entry 8. -/
def Obligations.WallUnitsTakeTheirRoles : Prop :=
  (∀ (s : State) (w : WalkContext) (pos : Nat) (rx : Reception) (u : UnitReport), s.runs → s.part.wall.state = .walking →
    s.part.wall.walkRequested = false → s.part.wall.walk = some w → w.position = pos → rx.complete = true →
    rx.checkRight = true → rx.kindRight = true → u.position = pos →
    s.part.wall.line = some { exchange := .assign pos, orphan := false } →
    ∀ displays, displays = (w.roles.filter (fun r => match r with
      | .display _ => true
      | _ => false)).length →
      (∀ r, (u.kind = .display ∧ displays < 8 ∧ r = .display (displays + 1)) ∨
          (u.kind = .ambient ∧ .ambient ∉ w.roles ∧ r = .ambient) ∨
          (u.kind = .partition ∧ 1 ≤ u.partition.toNat ∧ u.partition.toNat ≤ 3 ∧ .partition u.partition.toNat ∉ w.roles ∧
            r = .partition u.partition.toNat) →
        ∃ p, Ends (.assignAnswer .wall rx u) s p ∧ p.records = s.part.records ∧
          p.wall.walk.map (fun v => (v.kept, v.roles)) = some (w.kept ++ [u], w.roles ++ [r]) ∧
          p.wall.line = some
            { exchange := if w.kept.length + 1 < 12 then .assign (pos + 1) else .park 0, orphan := false }) ∧
      (u.kind = .delegate ∨ u.kind = .chair ∨ (u.kind = .display ∧ 8 ≤ displays) ∨
          (u.kind = .ambient ∧ .ambient ∈ w.roles) ∨
          (u.kind = .partition ∧ (u.partition.toNat = 0 ∨ 3 < u.partition.toNat ∨ .partition u.partition.toNat ∈ w.roles)) →
        ∃ p, Ends (.assignAnswer .wall rx u) s p ∧ p.records = s.part.records ∧
          p.wall.walk.map (fun v => (v.kept, v.roles)) = some (w.kept, w.roles) ∧
          p.wall.line = some { exchange := .park pos, orphan := false })) ∧
  (∀ (s : State) (pos : Nat) (rx : Reception) (u : UnitReport), s.runs →
    s.part.wall.line = some { exchange := .probe pos, orphan := false } → s.part.wall.walkRequested = false →
    rx.complete = true → rx.checkRight = true → rx.kindRight = true → u.position = pos → 1 ≤ pos →
    pos ≤ s.part.wall.roles.length →
    (∀ d x, s.part.roleAt pos = none → u.kind = .display → 1 ≤ d → d ≤ 8 → nth s.part.displays d = some x →
      x.unitPosition = none → (∀ c, 1 ≤ c → c < d → (s.part.displayAt c).unitPosition ≠ none) → x.health.presence = .absent →
      ∃ p, Ends (.probeAnswer .wall rx u) s p ∧ p.roleAt pos = some (.display d) ∧
        p.records = { s.part.records with displays := (upd s.part.displays d (fun y =>
          { y with unitPosition := some pos, unitSerial := some u.serial
                   health := { presence := .settling, settleCount := 0, errorScore := 0 } })).map Display.core }) ∧
    (s.part.roleAt pos = none → u.kind = .ambient → s.part.ambient.sensorPosition = none →
      s.part.ambient.health.presence = .absent →
      ∃ p, Ends (.probeAnswer .wall rx u) s p ∧ p.roleAt pos = some .ambient ∧
        p.records = { s.part.records with ambient := { s.part.ambient with
          sensorPosition := some pos, sensorSerial := some u.serial
          health := { presence := .settling, settleCount := 0, errorScore := 0 } } }) ∧
    (∀ k x, s.part.roleAt pos = none → u.kind = .partition → u.partition.toNat = k → 1 ≤ k → k ≤ 3 →
      nth s.part.partitions k = some x → x.sensorPosition = none → x.health.presence = .absent →
      ∃ p, Ends (.probeAnswer .wall rx u) s p ∧ p.roleAt pos = some (.partition k) ∧
        p.records = { s.part.records with partitions := upd s.part.partitions k (fun _ =>
          { x with sensorPosition := some pos, sensorSerial := some u.serial, candidate := none, repeatCount := 0
                   health := { presence := .settling, settleCount := 0, errorScore := 0 } }) }) ∧
    ((s.part.roleAt pos = none ∧
        (u.kind = .delegate ∨ u.kind = .chair ∨
          (u.kind = .display ∧ ∀ d, 1 ≤ d → d ≤ 8 → (s.part.displayAt d).unitPosition ≠ none) ∨
          (u.kind = .ambient ∧ s.part.ambient.sensorPosition ≠ none) ∨
          (u.kind = .partition ∧ (u.partition.toNat = 0 ∨ 3 < u.partition.toNat ∨
            (s.part.partitionAt u.partition.toNat).sensorPosition ≠ none)))) ∨
        (∃ d, s.part.roleAt pos = some (.display d) ∧ u.kind ≠ .display) ∨
        (s.part.roleAt pos = some .ambient ∧ u.kind ≠ .ambient) ∨
        (∃ k, s.part.roleAt pos = some (.partition k) ∧ (u.kind ≠ .partition ∨ u.partition.toNat ≠ k)) →
      ∃ p, Ends (.probeAnswer .wall rx u) s p ∧ p.records = s.part.records ∧
        p.wall.line = some { exchange := .park pos, orphan := false }) ∧
    (∀ counted : Health → Health, (∀ h, counted h =
        if 8 ≤ h.settleCount + 1 then { presence := .settling, settleCount := 0, errorScore := 0 }
        else { h with settleCount := h.settleCount + 1 }) →
      (∀ d x, s.part.roleAt pos = some (.display d) → u.kind = .display → nth s.part.displays d = some x →
        x.health.presence = .cutOff ∨ x.health.presence = .absent →
        ∃ p, Ends (.probeAnswer .wall rx u) s p ∧ p.roleAt pos = some (.display d) ∧
          p.records = { s.part.records with displays := (upd s.part.displays d (fun y =>
            if x.health.presence = .cutOff ∧ x.unitSerial = some u.serial then { y with health := counted x.health }
            else
              { y with unitPosition := some pos, unitSerial := some u.serial
                       health := { presence := .settling, settleCount := 0, errorScore := 0 } })).map Display.core }) ∧
      (∀ x, s.part.roleAt pos = some .ambient → u.kind = .ambient → s.part.ambient = x →
        x.health.presence = .cutOff ∨ x.health.presence = .absent →
        ∃ p, Ends (.probeAnswer .wall rx u) s p ∧ p.roleAt pos = some .ambient ∧
          p.records = { s.part.records with ambient :=
            if x.health.presence = .cutOff ∧ x.sensorSerial = some u.serial then { x with health := counted x.health }
            else
              { x with sensorPosition := some pos, sensorSerial := some u.serial
                       health := { presence := .settling, settleCount := 0, errorScore := 0 } } }) ∧
      (∀ k x, s.part.roleAt pos = some (.partition k) → u.kind = .partition → u.partition.toNat = k →
        nth s.part.partitions k = some x → x.health.presence = .cutOff ∨ x.health.presence = .absent →
        ∃ p, Ends (.probeAnswer .wall rx u) s p ∧ p.roleAt pos = some (.partition k) ∧
          p.records = { s.part.records with partitions := upd s.part.partitions k (fun _ =>
            if x.health.presence = .cutOff ∧ x.sensorSerial = some u.serial then { x with health := counted x.health }
            else
              { x with sensorPosition := some pos, sensorSerial := some u.serial, candidate := none, repeatCount := 0
                       health := { presence := .settling, settleCount := 0, errorScore := 0 } }) })))

/-- A waiting engine (R163): PROBE_DUE takes the timebase to the earliest `probe_due` still ahead, and an exchange is then
on the line; an engine that does not wait is not moved by it: no record changes, and its line and state are as they were.
That the row takes the timebase there, and that one sent to an engine which does not wait changes nothing, is the model's
choice, log entries 4, 5 and 11. -/
def Obligations.ProbeDueSendsAnExchange : Prop :=
  ∀ (s : State) (seg : Segment), s.runs →
    (∀ t, s.part.engineWaits seg = true → (s.part.engine seg).walkRequested = false → s.part.earliestProbe seg = some t →
      ∃ p, Ends (.probeDue seg) s p ∧ p.now = max s.part.now t ∧
        (p.engine seg).line.isSome = true ∧ p.clock = s.part.clock ∧ p.settings = s.part.settings ∧
        p.slots = s.part.slots ∧ p.partitions = s.part.partitions ∧ p.ambient = s.part.ambient) ∧
    (s.part.engineWaits seg = false →
      ∃ p, Ends (.probeDue seg) s p ∧ p.records = s.part.records ∧
        ((s.part.engine seg).walkRequested = false → (seg = .wall → s.part.control.sleep.wall = false) →
          (p.engine seg).line = (s.part.engine seg).line ∧ (p.engine seg).state = (s.part.engine seg).state))

/-- What a RUNNING engine sends after an exchange (R162, R163), here after one that asks for nothing: a PROBE without an answer
at an ABSENT position, a GOOD POLL that carries nothing new, a GOOD SHOW. The oldest urgent position that is SETTLING, PRESENT
or DEGRADED is served by its round kind, and those before it are dropped; with none of them the round serves the first position
that is due, upward from the one after `round_pointer`, which then stands there, and a PROBE sets the position's `probe_due`;
with none due the line stays free. That the exchange is on the line in the same step is log entry 11. The exchanges that end
CONFLICT (R152, R153): whatever the kind, with or without an owner, the segment's `conflicts` rises by 1 up to 65535 and the
LINK flag rises under its enable; every other end leaves the count. How the answer's operands say what was received is the
model's choice, log entry 8. -/
def Obligations.EnginesSendNextAndCountConflicts : Prop :=
  (∀ (s : State) (seg : Segment) (c : Instr) (pointer : Nat) (urgent : List Nat) (round : Nat → Exchange) (due : Nat → Prop)
      (place : Nat → Nat), s.runs →
    (s.part.engine seg).state = .running → (s.part.engine seg).held = false → (s.part.engine seg).walkRequested = false →
    s.part.control.sleep.of seg = false → (s.part.engine seg).pointer = pointer → pointer ≤ seg.positions →
    (s.part.engine seg).urgent = urgent → (seg ≠ .wall → (s.part.engine seg).scope = .full) →
    (seg = .wall → s.part.displaysFollow) →
    ((∃ pos orphan, (s.part.engine seg).line = some { exchange := .probe pos, orphan := orphan } ∧ c = .responseTimeout seg ∧
        s.part.presenceAt seg pos = .absent) ∨
      (∃ n img rx up x, seg ≠ .wall ∧ c = .pollAnswer seg rx up ∧ s.goodPoll seg n img rx up ∧
        nth s.part.seats n = some x ∧ uplinkSilent up x ∧ s.part.noOperation ∧ x.flashDue = false) ∨
      (∃ pos d content drive rx kind, seg = .wall ∧ c = .showAnswer rx pos kind ∧ s.part.roleAt pos = some (.display d) ∧
        (s.part.displayAt d).health.presence = .present ∧ rx.complete = true ∧ rx.checkRight = true ∧ rx.kindRight = true ∧
        s.part.wall.line = some { exchange := .show pos content drive, orphan := false })) →
    (∀ pos, round pos = match seg with
      | .left => .poll pos (s.part.imageOf pos)
      | .right => .poll pos (s.part.imageOf (48 + pos))
      | .wall => match s.part.roleAt pos with
        | some (.display d) => .show pos (s.part.displayAt d).content (s.part.displayAt d).drive
        | _ => .sense pos) →
    (∀ pos, due pos ↔
      (∀ d, seg = .wall → (s.part.engine seg).scope = .sensors → s.part.roleAt pos ≠ some (.display d)) ∧
        ((s.part.presenceAt seg pos).polled = true ∨
          (nth (s.part.engine seg).probeDue pos).getD 0 ≤ s.part.now ∧
            (s.part.presenceAt seg pos = .cutOff ∨
              s.part.presenceAt seg pos = .absent ∧ (s.part.engine seg).scope = .full))) →
    (∀ pos, place pos = (pos + seg.positions - pointer - 1) % seg.positions) →
    ∃ p, Ends c s p ∧ (p.engine seg).state = .running ∧
      (∀ front pos back, urgent = front ++ pos :: back → (∀ q ∈ front, (s.part.presenceAt seg q).polled = false) →
        (s.part.presenceAt seg pos).polled = true →
        (p.engine seg).line = some { exchange := round pos, orphan := false } ∧ (p.engine seg).urgent = back ∧
          (p.engine seg).pointer = pointer ∧ (p.engine seg).probeDue = (s.part.engine seg).probeDue) ∧
      ((∀ q ∈ urgent, (s.part.presenceAt seg q).polled = false) →
        (p.engine seg).urgent = [] ∧
        (∀ pos, 1 ≤ pos → pos ≤ seg.positions → due pos →
          (∀ q, 1 ≤ q → q ≤ seg.positions → place q < place pos → ¬ due q) →
          (p.engine seg).pointer = pos ∧
          (if (s.part.presenceAt seg pos).polled then
            (p.engine seg).line = some { exchange := round pos, orphan := false } ∧
              (p.engine seg).probeDue = (s.part.engine seg).probeDue
          else
            (p.engine seg).line = some { exchange := .probe pos, orphan := false } ∧
              (p.engine seg).probeDue = upd (s.part.engine seg).probeDue pos (fun _ =>
                s.part.now + if s.part.presenceAt seg pos = .cutOff then 2000000 else 1000000))) ∧
        ((∀ pos, 1 ≤ pos → pos ≤ seg.positions → ¬ due pos) →
          (p.engine seg).line = none ∧ (p.engine seg).pointer = pointer ∧
            (p.engine seg).probeDue = (s.part.engine seg).probeDue))) ∧
  (∀ (s : State) (seg : Segment) (l : OnLine) (rx : Reception) (fits conflict : Bool) (c : Instr), s.runs →
    (s.part.engine seg).line = some l → s.part.answersWith seg l.exchange rx fits c →
    conflict = (rx.secondTransmitter && !(rx.complete && rx.checkRight && rx.kindRight && fits)) →
    ∃ p, Ends c s p ∧
      (p.engine seg).conflicts =
        (if conflict then min 65535 ((s.part.engine seg).conflicts + 1) else (s.part.engine seg).conflicts) ∧
      (∀ other, other ≠ seg → (p.engine other).conflicts = (s.part.engine other).conflicts) ∧
      (conflict = true → s.part.notices.enables &&& 0x040 ≠ 0 → p.notices.flags &&& 0x040 ≠ 0)) ∧
  (∀ (s : State) (seg other : Segment), s.runs →
    ∃ p, Ends (.responseTimeout seg) s p ∧ (p.engine other).conflicts = (s.part.engine other).conflicts)

/-! ### Power and rotation -/

/-- ENTER_STANDBY (R170, R171): the five conditions at an AWAKE table lead to ENTERING_STANDBY with a sleep request
outstanding at each segment, and no other record changes; where one fails, none does. That the row changes nothing where
a condition fails is the model's choice, log entry 5. -/
def Obligations.EnterStandbyByTheConditions : Prop :=
  ∀ s : State, s.runs →
    ((s.part.control.tableState = .awake ∧ s.part.settings.standbyAllowed = true ∧
        (∀ f, 1 ≤ f → f ≤ 4 → (s.part.floorAt f).state = .free) ∧
        (∀ b, some b ∈ s.part.slots → b.state = .pending ∨ b.state = .ended) ∧
        (s.part.clock.valid = true → ∀ b, some b ∈ s.part.slots → b.state = .pending →
          s.part.clock.minute + s.part.settings.standbyLead < b.startMinute - b.lead) ∧
        s.part.control.idleMark + s.part.settings.idleDelay * (60 * Config.second) ≤ s.part.now) →
      Leaves .enterStandby s
        { s.part.records with control :=
          { s.part.control with tableState := .enteringStandby, sleep := { left := true, right := true, wall := true } } }) ∧
    ((s.part.control.tableState ≠ .awake ∨ s.part.settings.standbyAllowed = false ∨
        (∃ f, 1 ≤ f ∧ f ≤ 4 ∧ (s.part.floorAt f).state ≠ .free) ∨
        (∃ b, some b ∈ s.part.slots ∧ b.state ≠ .pending ∧ b.state ≠ .ended) ∨
        (s.part.clock.valid = true ∧ ∃ b, some b ∈ s.part.slots ∧ b.state = .pending ∧
          b.startMinute - b.lead ≤ s.part.clock.minute + s.part.settings.standbyLead) ∨
        s.part.now < s.part.control.idleMark + s.part.settings.idleDelay * (60 * Config.second)) →
      Leaves .enterStandby s s.part.records)

/-- SLEEP (R165, R171): an engine asked to sleep, RUNNING with its line free, sends it; a seat segment is then IDLE with an
empty urgent list, WALL is in SENSORS scope, the request is no longer outstanding, and the table is in STANDBY when none
is. No other record changes. One that is not asked does not sleep: no record changes, and its state and scope are as they
were. That the row stands for the exchange of its own, and changes nothing where none is asked, is the model's choice, log
entries 5 and 10. WAKE_LINE_RISE (R166, R172, R173): at an IDLE segment of a table in STANDBY the table is WAKING with cause
WAKE_LINE and the segment walks; at a segment that is not IDLE no record changes, and the line is found raised when it
becomes IDLE. -/
def Obligations.SleepAndTheWakeLine : Prop :=
  (∀ (s : State) (seg : Segment) (rest : SleepRequests), s.runs →
    (s.part.control.sleep.of seg = false →
      ∃ p, Ends (.sleep seg) s p ∧ p.records = s.part.records ∧ (p.engine seg).scope = (s.part.engine seg).scope ∧
        ((s.part.engine seg).walkRequested = false → (p.engine seg).state = (s.part.engine seg).state)) ∧
    (s.part.control.sleep.of seg = true → (s.part.engine seg).state = .running → (s.part.engine seg).line = none →
      (seg = .wall → s.part.wall.blankFirst = some []) → (s.part.engine seg).wakeLine = false →
      (s.part.engine seg).walkRequested = false →
      rest.of seg = false → (∀ other, other ≠ seg → rest.of other = s.part.control.sleep.of other) →
      ∃ p, Ends (.sleep seg) s p ∧
        p.records = { s.part.records with control :=
          { s.part.control with
            sleep := rest
            tableState := if rest = { left := false, right := false, wall := false } then .standby else s.part.control.tableState } } ∧
        (seg ≠ .wall → (p.engine seg).state = .idle ∧ (p.engine seg).urgent = []) ∧
        (seg = .wall → p.wall.state = .running ∧ p.wall.scope = .sensors))) ∧
  (∀ (s : State) (seg : Segment), s.runs → (s.part.engine seg).wakeLine = false →
    ((s.part.engine seg).state = .idle → seg ≠ .wall → s.part.control.tableState = .standby →
      ∃ p, Ends (.wakeLineRise seg) s p ∧
        p.records = { s.part.records with control :=
          { s.part.control with
            tableState := .waking, lastWakeCause := .wakeLine, sleep := { left := false, right := false, wall := false } } } ∧
        (p.engine seg).state = .walking ∧ p.wall.scope = .full) ∧
    ((s.part.engine seg).state ≠ .idle →
      ∃ p, Ends (.wakeLineRise seg) s p ∧ p.records = s.part.records ∧ (p.engine seg).wakeLine = true))

/-! ### What the displays and rooms derive, and what every step keeps -/

/-- The rooms of the suite by the eight combinations of partition states (R7). What a display shows where the displays
follow the records, as they do after every step (see DisplaysFollowEveryStep): BLANK at a table that is in standby or enters
it and for a display bound to no zone, IDLE for a zone that no floor holds or whose floor is CLOSING, RESERVED while its
booking is PREPARING or READY, and at a LIVE floor BLANK for an outside-visible display of a PRIVATE booking, else the
content of its phase (R136): FOLLOW_SPEAKER by the open list (R137), the queue's first four entries (R138), the source or
BLANK; its level, 0 at a table in standby or entering it, else the band's in AUTO and the fixed one in FIXED, and its drive
value, the brightness entry of that level (R145). -/
def Obligations.RoomsContentsAndLevelsAreDerived : Prop :=
  (∀ (p : Part) (a b c : Partition), p.partitions = [a, b, c] →
    p.rooms = match a.state, b.state, c.state with
      | .closed, .closed, .closed => [⟨1, 1⟩, ⟨2, 2⟩, ⟨3, 3⟩, ⟨4, 4⟩]
      | .opened, .closed, .closed => [⟨1, 2⟩, ⟨3, 3⟩, ⟨4, 4⟩]
      | .closed, .opened, .closed => [⟨1, 1⟩, ⟨2, 3⟩, ⟨4, 4⟩]
      | .closed, .closed, .opened => [⟨1, 1⟩, ⟨2, 2⟩, ⟨3, 4⟩]
      | .opened, .opened, .closed => [⟨1, 3⟩, ⟨4, 4⟩]
      | .opened, .closed, .opened => [⟨1, 2⟩, ⟨3, 4⟩]
      | .closed, .opened, .opened => [⟨1, 1⟩, ⟨2, 4⟩]
      | .opened, .opened, .opened => [⟨1, 4⟩]) ∧
  (∀ p : Part, p.displaysFollow → ∀ d ∈ p.displays,
    (p.control.tableState = .enteringStandby ∨ p.control.tableState = .standby → d.content = .blank ∧ d.level = 0) ∧
    (p.control.tableState = .awake ∨ p.control.tableState = .waking →
      (d.level = if d.config.auto then p.settings.bandLevels.getD p.ambient.band 0 else d.config.fixedLevel) ∧
      (d.config.binding = none → d.content = .blank) ∧
      (∀ z, d.config.binding = some z →
        (p.floorOfZone z = none → d.content = .idle z) ∧
        (∀ f, p.floorOfZone z = some f →
          ((p.floorAt f).state = .closing ∨ (p.floorAt f).state = .free → d.content = .idle z) ∧
          (∀ b h, (p.floorAt f).booking = some h → p.bookingOf h = some b →
            ((p.floorAt f).state = .preparing ∨ (p.floorAt f).state = .ready → d.content = .reserved h b.startMinute) ∧
            ((p.floorAt f).state = .live → b.confidentiality = .privateMeeting → d.config.outsideVisible = true →
              d.content = .blank) ∧
            (∀ c, (p.floorAt f).state = .live → b.confidentiality = .openMeeting ∨ d.config.outsideVisible = false →
              c = (if d.phaseB then d.config.contentB.getD d.config.contentA else d.config.contentA) →
              (c = .blank → d.content = .blank) ∧ (∀ n, c = .source n → d.content = .source n) ∧
              (c = .queueView → d.content = .queueView (((p.queueAt f).entries.take 4).map
                (fun e => { seat := e.seat, tag := (p.seatAt e.seat).occupant.getD 0 }))) ∧
              (c = .followSpeaker →
                (∀ e, ((p.floorAt f).openList.filter (fun e => decide (e.cls = .delegate))).getLast? = some e →
                  d.content = .speaker e.seat ((p.seatAt e.seat).occupant.getD 0)) ∧
                ((∀ e ∈ (p.floorAt f).openList, e.cls = .chair) →
                  (∀ e, (p.floorAt f).openList.getLast? = some e →
                    d.content = .speaker e.seat ((p.seatAt e.seat).occupant.getD 0)) ∧
                  ((p.floorAt f).openList = [] → d.content = .floorCard f h)))))))) ∧
    d.drive = p.settings.brightness.getD d.level 0)

/-- The clock stays in its range (R23) in every step. The settings stay valid (R191, R192, R195): where the live
settings, a copy in flight and the stored image are valid, they are so after every step, whatever command it takes. -/
def Obligations.ClockAndSettingsStayInRange : Prop :=
  (∀ s t : State, s.part.clock.inRange → step s = .next t → t.part.clock.inRange) ∧
  (∀ s t : State, s.part.settingsValid → step s = .next t → t.part.settingsValid)

/-- No position stands twice in an urgent list (R150, R162), after every step. -/
def Obligations.UrgentListsStayOnce : Prop :=
  ∀ s t : State, s.part.urgentOnce → step s = .next t → t.part.urgentOnce

/-- In every queue the PRIORITY entries stay ahead of the ORDINARY ones (R115), after every step. The queue pool is
never overdrawn (R113): at most 64 entries stand in the four queues after every step. -/
def Obligations.QueuesStayOrderedAndInThePool : Prop :=
  (∀ s t : State, (∀ q ∈ s.part.queues, q.inClassOrder) → step s = .next t → ∀ q ∈ t.part.queues, q.inClassOrder) ∧
  (∀ s t : State, s.part.queueStanding ≤ 64 → step s = .next t → t.part.queueStanding ≤ 64)

/-- The displays of a running part show what R136 and R145 derive for them, after every step. That every display is
recomputed at the end of each step is the model's reading, log entry 15. -/
def Obligations.DisplaysFollowEveryStep : Prop :=
  ∀ s t : State, s.part.displaysFollow → step s = .next t → t.part.displaysFollow

/-- The numbers of the part (00, Numbering of places; R21): 96 seats, 4 floors, each with its queue and operation, 48 booking
slots, 3 partitions, and a mark for every record, after every step. -/
def Obligations.ThePartKeepsItsNumbers : Prop :=
  ∀ s t : State, s.part.shape = partShape → step s = .next t → t.part.shape = partShape

/-- What a step changes it tells (R184, R186): the mark of every record of which it changes a field becomes yes, but for the
fields whose changes set no mark (`spoken_s`, `waited_s`, `phase_elapsed_s`, `last_reading`), and the mark of a freed record no;
the flag of the kind becomes yes where its notice enable is yes, QUEUE's also by a change of `queue_alert` or
`queue_pool_low` (R130, R131). So for every command that a running part takes but the resets and starts, which set or clear
every mark, and for a tick. That a step is told from its first block's to its last is the model's reading, log entry 14. -/
def Obligations.ChangesAreMarkedAndNotified : Prop :=
  ∀ (s t : State) (a b : Part), s.part = a → t.part = b → a.shape = partShape → a.power = .running → step s = .next t →
    (∀ c, s.pending.head? = some c → c.restarts = false) →
    (∀ n, 1 ≤ n → n ≤ 96 → a.seatAt n ≠ b.seatAt n ∨ a.micOf n ≠ b.micOf n ∨ a.admitted n ≠ b.admitted n →
      a.tells b .seat n 0x001) ∧
    (∀ f, 1 ≤ f → f ≤ 4 →
      ({ a.floorAt f with openList := (a.floorAt f).openList.map (fun e : OpenEntry => { e with spokenS := 0 }) } ≠
        { b.floorAt f with openList := (b.floorAt f).openList.map (fun e : OpenEntry => { e with spokenS := 0 }) } ∨
        a.queueAlert f ≠ b.queueAlert f → a.tells b .floor f 0x002) ∧
      ({ a.queueAt f with entries := (a.queueAt f).entries.map (fun e : QueueEntry => { e with waitedS := 0 }) } ≠
        { b.queueAt f with entries := (b.queueAt f).entries.map (fun e : QueueEntry => { e with waitedS := 0 }) } →
        a.tells b .queue f 0x004) ∧
      (a.queueAlert f ≠ b.queueAlert f → a.notices.enables &&& 0x004 ≠ 0 → b.notices.flags &&& 0x004 ≠ 0)) ∧
    (a.queuePoolLow ≠ b.queuePoolLow → a.notices.enables &&& 0x004 ≠ 0 → b.notices.flags &&& 0x004 ≠ 0) ∧
    (∀ k, 1 ≤ k → k ≤ 48 → a.slotAt k ≠ b.slotAt k →
      ((b.slotAt k).isSome = true → a.tells b .booking k 0x008) ∧ (b.slotAt k = none → b.marks.get .booking k = false)) ∧
    (∀ d, 1 ≤ d → d ≤ 8 → { a.displayAt d with phaseElapsedS := 0 } ≠ { b.displayAt d with phaseElapsedS := 0 } →
      a.tells b .display d 0x010) ∧
    ({ a.ambient with lastReading := none } ≠ { b.ambient with lastReading := none } ∨
      (a.settings.t1, a.settings.t2, a.settings.t3, a.settings.hysteresis, a.settings.bandLevels) ≠
        (b.settings.t1, b.settings.t2, b.settings.t3, b.settings.hysteresis, b.settings.bandLevels) →
      a.tells b .ambient 1 0x010) ∧
    (a.settings.zoneMap ≠ b.settings.zoneMap ∨ a.partitions ≠ b.partitions → a.tells b .layout 1 0x020) ∧
    (a.control.tableState ≠ b.control.tableState ∨ a.control.lastWakeCause ≠ b.control.lastWakeCause ∨
      (∃ seg, (a.engine seg).view ≠ (b.engine seg).view) ∨ a.slotsFree ≠ b.slotsFree ∨ a.rosterFree ≠ b.rosterFree ∨
      a.queueFree ≠ b.queueFree → a.tells b .table 1 0x040) ∧
    (a.clock ≠ b.clock → b.marks.get .clock 1 = true) ∧
    (a.settings ≠ b.settings ∨ a.store.source ≠ b.store.source ∨ a.store.copy.isSome ≠ b.store.copy.isSome ∨
      a.store.lastStore ≠ b.store.lastStore ∨ a.store.liveDiffers ≠ b.store.liveDiffers → a.tells b .settings 1 0x080)

/-- What every step keeps holds right after power-on. -/
def Obligations.ResetMeetsTheInvariants : Prop :=
  State.reset.part.settingsValid ∧ State.reset.part.clock.inRange ∧ State.reset.part.urgentOnce ∧
  (∀ q ∈ State.reset.part.queues, q.inClassOrder) ∧ State.reset.part.queueStanding ≤ 64 ∧
  State.reset.part.displaysFollow ∧ State.reset.part.shape = partShape

end Statements
end

