-- ==== Sys2Proof/Laws/Lists.lean ====
section
/-! SUPPORT. The small lemmas of the list operations: nth, upd, mapFrom, sat and folds. -/

namespace Sys2Proof.Machine

variable {α β : Type}

@[simp] theorem nth_zero (l : List α) : nth l 0 = none := rfl

@[simp] theorem upd_zero (l : List α) (f : α → α) : upd l 0 f = l := rfl

@[simp] theorem length_upd (l : List α) (i : Nat) (f : α → α) : (upd l i f).length = l.length := by
  cases i <;> simp [upd]

/-- The entry written. -/
theorem nth_upd_same (l : List α) (i : Nat) (f : α → α) : nth (upd l i f) i = (nth l i).map f := by
  cases i with
  | zero => rfl
  | succ k => simp [nth, upd]

/-- Every other entry. -/
theorem nth_upd_ne (l : List α) (i j : Nat) (f : α → α) (h : i ≠ j) : nth (upd l i f) j = nth l j := by
  cases i with
  | zero => rfl
  | succ k =>
    cases j with
    | zero => rfl
    | succ m =>
      have hkm : k ≠ m := fun e => h (by rw [e])
      simp [nth, upd, hkm]

/-- A write that keeps what `g` sees of every entry keeps what `g` sees of the list. -/
theorem map_upd_of_keeps (g : α → β) (l : List α) (i : Nat) (f : α → α) (h : ∀ a, g (f a) = g a) :
    (upd l i f).map g = l.map g := by
  cases i with
  | zero => rfl
  | succ k =>
    apply List.ext_getElem?
    intro m
    by_cases hk : k = m
    · subst hk
      simp [upd, Function.comp_def, h]
    · simp [upd, hk]

/-- A list written with what a function gives at the entry there. -/
theorem upd_congr (l : List α) (k : Nat) (f g : α → α) (a : α) (h : nth l k = some a) (hfg : f a = g a) :
    upd l k f = upd l k g := by
  cases k with
  | zero => rfl
  | succ j =>
    apply List.ext_getElem?
    intro m
    simp only [nth] at h
    by_cases hm : j = m
    · subst hm; simp [upd, h, hfg]
    · simp [upd, hm]

@[simp] theorem length_mapFrom (f : Nat → α → β) (l : List α) : ∀ i, (mapFrom f i l).length = l.length := by
  induction l with
  | nil => intro i; rfl
  | cons a l ih => intro i; simp [mapFrom, ih]

theorem getElem?_mapFrom (f : Nat → α → β) (l : List α) :
    ∀ i k, (mapFrom f i l)[k]? = (l[k]?).map (f (i + k)) := by
  induction l with
  | nil => intro i k; simp [mapFrom]
  | cons a l ih =>
    intro i k
    cases k with
    | zero => simp [mapFrom]
    | succ m => simp [mapFrom, ih, Nat.add_assoc, Nat.add_comm 1 m]

/-- Entry `i` of a list written by number. -/
theorem nth_mapFrom (f : Nat → α → β) (l : List α) (i : Nat) : nth (mapFrom f 1 l) i = (nth l i).map (f i) := by
  cases i with
  | zero => rfl
  | succ k => simp [nth, getElem?_mapFrom, Nat.add_comm 1 k]

/-- A numbered write that keeps what `g` sees of every entry keeps what `g` sees of the list. -/
theorem map_mapFrom_of_keeps {γ : Type} (g : α → γ) (f : Nat → α → α) (l : List α) (h : ∀ i a, g (f i a) = g a) :
    ∀ i, (mapFrom f i l).map g = l.map g := by
  induction l with
  | nil => intro i; rfl
  | cons a l ih => intro i; simp [mapFrom, ih, h]

theorem map_map_of_keeps {γ : Type} (g : α → γ) (f : α → α) (l : List α) (h : ∀ a, g (f a) = g a) :
    (l.map f).map g = l.map g := by
  simp [List.map_map, Function.comp_def, h]

/-- A fold of a step that keeps what `g` sees keeps what `g` sees. -/
theorem foldl_keeps {γ σ : Type} (g : σ → γ) (f : σ → α → σ) (h : ∀ s a, g (f s a) = g s) (l : List α) :
    ∀ s, g (l.foldl f s) = g s := by
  induction l with
  | nil => intro s; rfl
  | cons a l ih => intro s; rw [List.foldl_cons, ih, h]

/-- A fold of a step that keeps an invariant keeps the invariant. -/
theorem foldl_inv {σ : Type} (P : σ → Prop) (f : σ → α → σ) (h : ∀ s a, P s → P (f s a)) (l : List α) :
    ∀ s, P s → P (l.foldl f s) := by
  induction l with
  | nil => intro s hs; exact hs
  | cons a l ih => intro s hs; exact ih _ (h s a hs)

/-- A list of one value reads as that value everywhere. -/
theorem nth_replicate_getD (n i : Nat) (a : α) : (nth (List.replicate n a) i).getD a = a := by
  cases i with
  | zero => rfl
  | succ k =>
    simp only [nth, List.getElem?_replicate]
    split <;> rfl

theorem sat_le (top k : Nat) : sat top k ≤ top := Nat.min_le_left top k

end Sys2Proof.Machine
end

