-- ==== Sys2Proof/Laws/State.lean ====
section
/-! SUPPORT. One lemma per field for every named update of the part: what it writes, and that it leaves the rest. -/

namespace Sys2Proof.Machine

/-! ### updSeat -/

@[simp] theorem Part.updSeat_power (p : Part) (n : Nat) (f : Seat → Seat) : (p.updSeat n f).power = p.power := rfl
@[simp] theorem Part.updSeat_now (p : Part) (n : Nat) (f : Seat → Seat) : (p.updSeat n f).now = p.now := rfl
@[simp] theorem Part.updSeat_seats (p : Part) (n : Nat) (f : Seat → Seat) : (p.updSeat n f).seats = upd p.seats n f := rfl
@[simp] theorem Part.updSeat_floors (p : Part) (n : Nat) (f : Seat → Seat) : (p.updSeat n f).floors = p.floors := rfl
@[simp] theorem Part.updSeat_queues (p : Part) (n : Nat) (f : Seat → Seat) : (p.updSeat n f).queues = p.queues := rfl
@[simp] theorem Part.updSeat_slots (p : Part) (n : Nat) (f : Seat → Seat) : (p.updSeat n f).slots = p.slots := rfl
@[simp] theorem Part.updSeat_lastHandle (p : Part) (n : Nat) (f : Seat → Seat) : (p.updSeat n f).lastHandle = p.lastHandle := rfl
@[simp] theorem Part.updSeat_clock (p : Part) (n : Nat) (f : Seat → Seat) : (p.updSeat n f).clock = p.clock := rfl
@[simp] theorem Part.updSeat_contexts (p : Part) (n : Nat) (f : Seat → Seat) : (p.updSeat n f).contexts = p.contexts := rfl
@[simp] theorem Part.updSeat_partitions (p : Part) (n : Nat) (f : Seat → Seat) : (p.updSeat n f).partitions = p.partitions := rfl
@[simp] theorem Part.updSeat_displays (p : Part) (n : Nat) (f : Seat → Seat) : (p.updSeat n f).displays = p.displays := rfl
@[simp] theorem Part.updSeat_ambient (p : Part) (n : Nat) (f : Seat → Seat) : (p.updSeat n f).ambient = p.ambient := rfl
@[simp] theorem Part.updSeat_left (p : Part) (n : Nat) (f : Seat → Seat) : (p.updSeat n f).left = p.left := rfl
@[simp] theorem Part.updSeat_right (p : Part) (n : Nat) (f : Seat → Seat) : (p.updSeat n f).right = p.right := rfl
@[simp] theorem Part.updSeat_wall (p : Part) (n : Nat) (f : Seat → Seat) : (p.updSeat n f).wall = p.wall := rfl
@[simp] theorem Part.updSeat_control (p : Part) (n : Nat) (f : Seat → Seat) : (p.updSeat n f).control = p.control := rfl
@[simp] theorem Part.updSeat_settings (p : Part) (n : Nat) (f : Seat → Seat) : (p.updSeat n f).settings = p.settings := rfl
@[simp] theorem Part.updSeat_store (p : Part) (n : Nat) (f : Seat → Seat) : (p.updSeat n f).store = p.store := rfl
@[simp] theorem Part.updSeat_notices (p : Part) (n : Nat) (f : Seat → Seat) : (p.updSeat n f).notices = p.notices := rfl
@[simp] theorem Part.updSeat_marks (p : Part) (n : Nat) (f : Seat → Seat) : (p.updSeat n f).marks = p.marks := rfl
@[simp] theorem Part.updSeat_answer (p : Part) (n : Nat) (f : Seat → Seat) : (p.updSeat n f).answer = p.answer := rfl

/-! ### updFloor -/

@[simp] theorem Part.updFloor_power (p : Part) (n : Nat) (f : Floor → Floor) : (p.updFloor n f).power = p.power := rfl
@[simp] theorem Part.updFloor_now (p : Part) (n : Nat) (f : Floor → Floor) : (p.updFloor n f).now = p.now := rfl
@[simp] theorem Part.updFloor_seats (p : Part) (n : Nat) (f : Floor → Floor) : (p.updFloor n f).seats = p.seats := rfl
@[simp] theorem Part.updFloor_floors (p : Part) (n : Nat) (f : Floor → Floor) : (p.updFloor n f).floors = upd p.floors n f := rfl
@[simp] theorem Part.updFloor_queues (p : Part) (n : Nat) (f : Floor → Floor) : (p.updFloor n f).queues = p.queues := rfl
@[simp] theorem Part.updFloor_slots (p : Part) (n : Nat) (f : Floor → Floor) : (p.updFloor n f).slots = p.slots := rfl
@[simp] theorem Part.updFloor_lastHandle (p : Part) (n : Nat) (f : Floor → Floor) : (p.updFloor n f).lastHandle = p.lastHandle := rfl
@[simp] theorem Part.updFloor_clock (p : Part) (n : Nat) (f : Floor → Floor) : (p.updFloor n f).clock = p.clock := rfl
@[simp] theorem Part.updFloor_contexts (p : Part) (n : Nat) (f : Floor → Floor) : (p.updFloor n f).contexts = p.contexts := rfl
@[simp] theorem Part.updFloor_partitions (p : Part) (n : Nat) (f : Floor → Floor) : (p.updFloor n f).partitions = p.partitions := rfl
@[simp] theorem Part.updFloor_displays (p : Part) (n : Nat) (f : Floor → Floor) : (p.updFloor n f).displays = p.displays := rfl
@[simp] theorem Part.updFloor_ambient (p : Part) (n : Nat) (f : Floor → Floor) : (p.updFloor n f).ambient = p.ambient := rfl
@[simp] theorem Part.updFloor_left (p : Part) (n : Nat) (f : Floor → Floor) : (p.updFloor n f).left = p.left := rfl
@[simp] theorem Part.updFloor_right (p : Part) (n : Nat) (f : Floor → Floor) : (p.updFloor n f).right = p.right := rfl
@[simp] theorem Part.updFloor_wall (p : Part) (n : Nat) (f : Floor → Floor) : (p.updFloor n f).wall = p.wall := rfl
@[simp] theorem Part.updFloor_control (p : Part) (n : Nat) (f : Floor → Floor) : (p.updFloor n f).control = p.control := rfl
@[simp] theorem Part.updFloor_settings (p : Part) (n : Nat) (f : Floor → Floor) : (p.updFloor n f).settings = p.settings := rfl
@[simp] theorem Part.updFloor_store (p : Part) (n : Nat) (f : Floor → Floor) : (p.updFloor n f).store = p.store := rfl
@[simp] theorem Part.updFloor_notices (p : Part) (n : Nat) (f : Floor → Floor) : (p.updFloor n f).notices = p.notices := rfl
@[simp] theorem Part.updFloor_marks (p : Part) (n : Nat) (f : Floor → Floor) : (p.updFloor n f).marks = p.marks := rfl
@[simp] theorem Part.updFloor_answer (p : Part) (n : Nat) (f : Floor → Floor) : (p.updFloor n f).answer = p.answer := rfl

/-! ### updQueue -/

@[simp] theorem Part.updQueue_power (p : Part) (n : Nat) (f : Queue → Queue) : (p.updQueue n f).power = p.power := rfl
@[simp] theorem Part.updQueue_now (p : Part) (n : Nat) (f : Queue → Queue) : (p.updQueue n f).now = p.now := rfl
@[simp] theorem Part.updQueue_seats (p : Part) (n : Nat) (f : Queue → Queue) : (p.updQueue n f).seats = p.seats := rfl
@[simp] theorem Part.updQueue_floors (p : Part) (n : Nat) (f : Queue → Queue) : (p.updQueue n f).floors = p.floors := rfl
@[simp] theorem Part.updQueue_queues (p : Part) (n : Nat) (f : Queue → Queue) : (p.updQueue n f).queues = upd p.queues n f := rfl
@[simp] theorem Part.updQueue_slots (p : Part) (n : Nat) (f : Queue → Queue) : (p.updQueue n f).slots = p.slots := rfl
@[simp] theorem Part.updQueue_lastHandle (p : Part) (n : Nat) (f : Queue → Queue) : (p.updQueue n f).lastHandle = p.lastHandle := rfl
@[simp] theorem Part.updQueue_clock (p : Part) (n : Nat) (f : Queue → Queue) : (p.updQueue n f).clock = p.clock := rfl
@[simp] theorem Part.updQueue_contexts (p : Part) (n : Nat) (f : Queue → Queue) : (p.updQueue n f).contexts = p.contexts := rfl
@[simp] theorem Part.updQueue_partitions (p : Part) (n : Nat) (f : Queue → Queue) : (p.updQueue n f).partitions = p.partitions := rfl
@[simp] theorem Part.updQueue_displays (p : Part) (n : Nat) (f : Queue → Queue) : (p.updQueue n f).displays = p.displays := rfl
@[simp] theorem Part.updQueue_ambient (p : Part) (n : Nat) (f : Queue → Queue) : (p.updQueue n f).ambient = p.ambient := rfl
@[simp] theorem Part.updQueue_left (p : Part) (n : Nat) (f : Queue → Queue) : (p.updQueue n f).left = p.left := rfl
@[simp] theorem Part.updQueue_right (p : Part) (n : Nat) (f : Queue → Queue) : (p.updQueue n f).right = p.right := rfl
@[simp] theorem Part.updQueue_wall (p : Part) (n : Nat) (f : Queue → Queue) : (p.updQueue n f).wall = p.wall := rfl
@[simp] theorem Part.updQueue_control (p : Part) (n : Nat) (f : Queue → Queue) : (p.updQueue n f).control = p.control := rfl
@[simp] theorem Part.updQueue_settings (p : Part) (n : Nat) (f : Queue → Queue) : (p.updQueue n f).settings = p.settings := rfl
@[simp] theorem Part.updQueue_store (p : Part) (n : Nat) (f : Queue → Queue) : (p.updQueue n f).store = p.store := rfl
@[simp] theorem Part.updQueue_notices (p : Part) (n : Nat) (f : Queue → Queue) : (p.updQueue n f).notices = p.notices := rfl
@[simp] theorem Part.updQueue_marks (p : Part) (n : Nat) (f : Queue → Queue) : (p.updQueue n f).marks = p.marks := rfl
@[simp] theorem Part.updQueue_answer (p : Part) (n : Nat) (f : Queue → Queue) : (p.updQueue n f).answer = p.answer := rfl

/-! ### setContext -/

@[simp] theorem Part.setContext_power (p : Part) (n : Nat) (c : Option OpContext) : (p.setContext n c).power = p.power := rfl
@[simp] theorem Part.setContext_now (p : Part) (n : Nat) (c : Option OpContext) : (p.setContext n c).now = p.now := rfl
@[simp] theorem Part.setContext_seats (p : Part) (n : Nat) (c : Option OpContext) : (p.setContext n c).seats = p.seats := rfl
@[simp] theorem Part.setContext_floors (p : Part) (n : Nat) (c : Option OpContext) : (p.setContext n c).floors = p.floors := rfl
@[simp] theorem Part.setContext_queues (p : Part) (n : Nat) (c : Option OpContext) : (p.setContext n c).queues = p.queues := rfl
@[simp] theorem Part.setContext_slots (p : Part) (n : Nat) (c : Option OpContext) : (p.setContext n c).slots = p.slots := rfl
@[simp] theorem Part.setContext_lastHandle (p : Part) (n : Nat) (c : Option OpContext) : (p.setContext n c).lastHandle = p.lastHandle := rfl
@[simp] theorem Part.setContext_clock (p : Part) (n : Nat) (c : Option OpContext) : (p.setContext n c).clock = p.clock := rfl
@[simp] theorem Part.setContext_contexts (p : Part) (n : Nat) (c : Option OpContext) : (p.setContext n c).contexts = upd p.contexts n (fun _ => c) := rfl
@[simp] theorem Part.setContext_partitions (p : Part) (n : Nat) (c : Option OpContext) : (p.setContext n c).partitions = p.partitions := rfl
@[simp] theorem Part.setContext_displays (p : Part) (n : Nat) (c : Option OpContext) : (p.setContext n c).displays = p.displays := rfl
@[simp] theorem Part.setContext_ambient (p : Part) (n : Nat) (c : Option OpContext) : (p.setContext n c).ambient = p.ambient := rfl
@[simp] theorem Part.setContext_left (p : Part) (n : Nat) (c : Option OpContext) : (p.setContext n c).left = p.left := rfl
@[simp] theorem Part.setContext_right (p : Part) (n : Nat) (c : Option OpContext) : (p.setContext n c).right = p.right := rfl
@[simp] theorem Part.setContext_wall (p : Part) (n : Nat) (c : Option OpContext) : (p.setContext n c).wall = p.wall := rfl
@[simp] theorem Part.setContext_control (p : Part) (n : Nat) (c : Option OpContext) : (p.setContext n c).control = p.control := rfl
@[simp] theorem Part.setContext_settings (p : Part) (n : Nat) (c : Option OpContext) : (p.setContext n c).settings = p.settings := rfl
@[simp] theorem Part.setContext_store (p : Part) (n : Nat) (c : Option OpContext) : (p.setContext n c).store = p.store := rfl
@[simp] theorem Part.setContext_notices (p : Part) (n : Nat) (c : Option OpContext) : (p.setContext n c).notices = p.notices := rfl
@[simp] theorem Part.setContext_marks (p : Part) (n : Nat) (c : Option OpContext) : (p.setContext n c).marks = p.marks := rfl
@[simp] theorem Part.setContext_answer (p : Part) (n : Nat) (c : Option OpContext) : (p.setContext n c).answer = p.answer := rfl

/-! ### updPartition -/

@[simp] theorem Part.updPartition_power (p : Part) (n : Nat) (f : Partition → Partition) : (p.updPartition n f).power = p.power := rfl
@[simp] theorem Part.updPartition_now (p : Part) (n : Nat) (f : Partition → Partition) : (p.updPartition n f).now = p.now := rfl
@[simp] theorem Part.updPartition_seats (p : Part) (n : Nat) (f : Partition → Partition) : (p.updPartition n f).seats = p.seats := rfl
@[simp] theorem Part.updPartition_floors (p : Part) (n : Nat) (f : Partition → Partition) : (p.updPartition n f).floors = p.floors := rfl
@[simp] theorem Part.updPartition_queues (p : Part) (n : Nat) (f : Partition → Partition) : (p.updPartition n f).queues = p.queues := rfl
@[simp] theorem Part.updPartition_slots (p : Part) (n : Nat) (f : Partition → Partition) : (p.updPartition n f).slots = p.slots := rfl
@[simp] theorem Part.updPartition_lastHandle (p : Part) (n : Nat) (f : Partition → Partition) : (p.updPartition n f).lastHandle = p.lastHandle := rfl
@[simp] theorem Part.updPartition_clock (p : Part) (n : Nat) (f : Partition → Partition) : (p.updPartition n f).clock = p.clock := rfl
@[simp] theorem Part.updPartition_contexts (p : Part) (n : Nat) (f : Partition → Partition) : (p.updPartition n f).contexts = p.contexts := rfl
@[simp] theorem Part.updPartition_partitions (p : Part) (n : Nat) (f : Partition → Partition) : (p.updPartition n f).partitions = upd p.partitions n f := rfl
@[simp] theorem Part.updPartition_displays (p : Part) (n : Nat) (f : Partition → Partition) : (p.updPartition n f).displays = p.displays := rfl
@[simp] theorem Part.updPartition_ambient (p : Part) (n : Nat) (f : Partition → Partition) : (p.updPartition n f).ambient = p.ambient := rfl
@[simp] theorem Part.updPartition_left (p : Part) (n : Nat) (f : Partition → Partition) : (p.updPartition n f).left = p.left := rfl
@[simp] theorem Part.updPartition_right (p : Part) (n : Nat) (f : Partition → Partition) : (p.updPartition n f).right = p.right := rfl
@[simp] theorem Part.updPartition_wall (p : Part) (n : Nat) (f : Partition → Partition) : (p.updPartition n f).wall = p.wall := rfl
@[simp] theorem Part.updPartition_control (p : Part) (n : Nat) (f : Partition → Partition) : (p.updPartition n f).control = p.control := rfl
@[simp] theorem Part.updPartition_settings (p : Part) (n : Nat) (f : Partition → Partition) : (p.updPartition n f).settings = p.settings := rfl
@[simp] theorem Part.updPartition_store (p : Part) (n : Nat) (f : Partition → Partition) : (p.updPartition n f).store = p.store := rfl
@[simp] theorem Part.updPartition_notices (p : Part) (n : Nat) (f : Partition → Partition) : (p.updPartition n f).notices = p.notices := rfl
@[simp] theorem Part.updPartition_marks (p : Part) (n : Nat) (f : Partition → Partition) : (p.updPartition n f).marks = p.marks := rfl
@[simp] theorem Part.updPartition_answer (p : Part) (n : Nat) (f : Partition → Partition) : (p.updPartition n f).answer = p.answer := rfl

/-! ### updDisplay -/

@[simp] theorem Part.updDisplay_power (p : Part) (n : Nat) (f : Display → Display) : (p.updDisplay n f).power = p.power := rfl
@[simp] theorem Part.updDisplay_now (p : Part) (n : Nat) (f : Display → Display) : (p.updDisplay n f).now = p.now := rfl
@[simp] theorem Part.updDisplay_seats (p : Part) (n : Nat) (f : Display → Display) : (p.updDisplay n f).seats = p.seats := rfl
@[simp] theorem Part.updDisplay_floors (p : Part) (n : Nat) (f : Display → Display) : (p.updDisplay n f).floors = p.floors := rfl
@[simp] theorem Part.updDisplay_queues (p : Part) (n : Nat) (f : Display → Display) : (p.updDisplay n f).queues = p.queues := rfl
@[simp] theorem Part.updDisplay_slots (p : Part) (n : Nat) (f : Display → Display) : (p.updDisplay n f).slots = p.slots := rfl
@[simp] theorem Part.updDisplay_lastHandle (p : Part) (n : Nat) (f : Display → Display) : (p.updDisplay n f).lastHandle = p.lastHandle := rfl
@[simp] theorem Part.updDisplay_clock (p : Part) (n : Nat) (f : Display → Display) : (p.updDisplay n f).clock = p.clock := rfl
@[simp] theorem Part.updDisplay_contexts (p : Part) (n : Nat) (f : Display → Display) : (p.updDisplay n f).contexts = p.contexts := rfl
@[simp] theorem Part.updDisplay_partitions (p : Part) (n : Nat) (f : Display → Display) : (p.updDisplay n f).partitions = p.partitions := rfl
@[simp] theorem Part.updDisplay_displays (p : Part) (n : Nat) (f : Display → Display) : (p.updDisplay n f).displays = upd p.displays n f := rfl
@[simp] theorem Part.updDisplay_ambient (p : Part) (n : Nat) (f : Display → Display) : (p.updDisplay n f).ambient = p.ambient := rfl
@[simp] theorem Part.updDisplay_left (p : Part) (n : Nat) (f : Display → Display) : (p.updDisplay n f).left = p.left := rfl
@[simp] theorem Part.updDisplay_right (p : Part) (n : Nat) (f : Display → Display) : (p.updDisplay n f).right = p.right := rfl
@[simp] theorem Part.updDisplay_wall (p : Part) (n : Nat) (f : Display → Display) : (p.updDisplay n f).wall = p.wall := rfl
@[simp] theorem Part.updDisplay_control (p : Part) (n : Nat) (f : Display → Display) : (p.updDisplay n f).control = p.control := rfl
@[simp] theorem Part.updDisplay_settings (p : Part) (n : Nat) (f : Display → Display) : (p.updDisplay n f).settings = p.settings := rfl
@[simp] theorem Part.updDisplay_store (p : Part) (n : Nat) (f : Display → Display) : (p.updDisplay n f).store = p.store := rfl
@[simp] theorem Part.updDisplay_notices (p : Part) (n : Nat) (f : Display → Display) : (p.updDisplay n f).notices = p.notices := rfl
@[simp] theorem Part.updDisplay_marks (p : Part) (n : Nat) (f : Display → Display) : (p.updDisplay n f).marks = p.marks := rfl
@[simp] theorem Part.updDisplay_answer (p : Part) (n : Nat) (f : Display → Display) : (p.updDisplay n f).answer = p.answer := rfl

/-! ### updSlot -/

@[simp] theorem Part.updSlot_power (p : Part) (n : Nat) (f : Booking → Booking) : (p.updSlot n f).power = p.power := rfl
@[simp] theorem Part.updSlot_now (p : Part) (n : Nat) (f : Booking → Booking) : (p.updSlot n f).now = p.now := rfl
@[simp] theorem Part.updSlot_seats (p : Part) (n : Nat) (f : Booking → Booking) : (p.updSlot n f).seats = p.seats := rfl
@[simp] theorem Part.updSlot_floors (p : Part) (n : Nat) (f : Booking → Booking) : (p.updSlot n f).floors = p.floors := rfl
@[simp] theorem Part.updSlot_queues (p : Part) (n : Nat) (f : Booking → Booking) : (p.updSlot n f).queues = p.queues := rfl
@[simp] theorem Part.updSlot_slots (p : Part) (n : Nat) (f : Booking → Booking) : (p.updSlot n f).slots = upd p.slots n (fun b => b.map f) := rfl
@[simp] theorem Part.updSlot_lastHandle (p : Part) (n : Nat) (f : Booking → Booking) : (p.updSlot n f).lastHandle = p.lastHandle := rfl
@[simp] theorem Part.updSlot_clock (p : Part) (n : Nat) (f : Booking → Booking) : (p.updSlot n f).clock = p.clock := rfl
@[simp] theorem Part.updSlot_contexts (p : Part) (n : Nat) (f : Booking → Booking) : (p.updSlot n f).contexts = p.contexts := rfl
@[simp] theorem Part.updSlot_partitions (p : Part) (n : Nat) (f : Booking → Booking) : (p.updSlot n f).partitions = p.partitions := rfl
@[simp] theorem Part.updSlot_displays (p : Part) (n : Nat) (f : Booking → Booking) : (p.updSlot n f).displays = p.displays := rfl
@[simp] theorem Part.updSlot_ambient (p : Part) (n : Nat) (f : Booking → Booking) : (p.updSlot n f).ambient = p.ambient := rfl
@[simp] theorem Part.updSlot_left (p : Part) (n : Nat) (f : Booking → Booking) : (p.updSlot n f).left = p.left := rfl
@[simp] theorem Part.updSlot_right (p : Part) (n : Nat) (f : Booking → Booking) : (p.updSlot n f).right = p.right := rfl
@[simp] theorem Part.updSlot_wall (p : Part) (n : Nat) (f : Booking → Booking) : (p.updSlot n f).wall = p.wall := rfl
@[simp] theorem Part.updSlot_control (p : Part) (n : Nat) (f : Booking → Booking) : (p.updSlot n f).control = p.control := rfl
@[simp] theorem Part.updSlot_settings (p : Part) (n : Nat) (f : Booking → Booking) : (p.updSlot n f).settings = p.settings := rfl
@[simp] theorem Part.updSlot_store (p : Part) (n : Nat) (f : Booking → Booking) : (p.updSlot n f).store = p.store := rfl
@[simp] theorem Part.updSlot_notices (p : Part) (n : Nat) (f : Booking → Booking) : (p.updSlot n f).notices = p.notices := rfl
@[simp] theorem Part.updSlot_marks (p : Part) (n : Nat) (f : Booking → Booking) : (p.updSlot n f).marks = p.marks := rfl
@[simp] theorem Part.updSlot_answer (p : Part) (n : Nat) (f : Booking → Booking) : (p.updSlot n f).answer = p.answer := rfl

/-! ### updEngine -/

@[simp] theorem Part.updEngine_power (p : Part) (seg : Segment) (g : Engine → Engine) : (p.updEngine seg g).power = p.power := by
  cases seg <;> rfl
@[simp] theorem Part.updEngine_now (p : Part) (seg : Segment) (g : Engine → Engine) : (p.updEngine seg g).now = p.now := by
  cases seg <;> rfl
@[simp] theorem Part.updEngine_seats (p : Part) (seg : Segment) (g : Engine → Engine) : (p.updEngine seg g).seats = p.seats := by
  cases seg <;> rfl
@[simp] theorem Part.updEngine_floors (p : Part) (seg : Segment) (g : Engine → Engine) : (p.updEngine seg g).floors = p.floors := by
  cases seg <;> rfl
@[simp] theorem Part.updEngine_queues (p : Part) (seg : Segment) (g : Engine → Engine) : (p.updEngine seg g).queues = p.queues := by
  cases seg <;> rfl
@[simp] theorem Part.updEngine_slots (p : Part) (seg : Segment) (g : Engine → Engine) : (p.updEngine seg g).slots = p.slots := by
  cases seg <;> rfl
@[simp] theorem Part.updEngine_lastHandle (p : Part) (seg : Segment) (g : Engine → Engine) : (p.updEngine seg g).lastHandle = p.lastHandle := by
  cases seg <;> rfl
@[simp] theorem Part.updEngine_clock (p : Part) (seg : Segment) (g : Engine → Engine) : (p.updEngine seg g).clock = p.clock := by
  cases seg <;> rfl
@[simp] theorem Part.updEngine_contexts (p : Part) (seg : Segment) (g : Engine → Engine) : (p.updEngine seg g).contexts = p.contexts := by
  cases seg <;> rfl
@[simp] theorem Part.updEngine_partitions (p : Part) (seg : Segment) (g : Engine → Engine) : (p.updEngine seg g).partitions = p.partitions := by
  cases seg <;> rfl
@[simp] theorem Part.updEngine_displays (p : Part) (seg : Segment) (g : Engine → Engine) : (p.updEngine seg g).displays = p.displays := by
  cases seg <;> rfl
@[simp] theorem Part.updEngine_ambient (p : Part) (seg : Segment) (g : Engine → Engine) : (p.updEngine seg g).ambient = p.ambient := by
  cases seg <;> rfl
@[simp] theorem Part.updEngine_control (p : Part) (seg : Segment) (g : Engine → Engine) : (p.updEngine seg g).control = p.control := by
  cases seg <;> rfl
@[simp] theorem Part.updEngine_settings (p : Part) (seg : Segment) (g : Engine → Engine) : (p.updEngine seg g).settings = p.settings := by
  cases seg <;> rfl
@[simp] theorem Part.updEngine_store (p : Part) (seg : Segment) (g : Engine → Engine) : (p.updEngine seg g).store = p.store := by
  cases seg <;> rfl
@[simp] theorem Part.updEngine_notices (p : Part) (seg : Segment) (g : Engine → Engine) : (p.updEngine seg g).notices = p.notices := by
  cases seg <;> rfl
@[simp] theorem Part.updEngine_marks (p : Part) (seg : Segment) (g : Engine → Engine) : (p.updEngine seg g).marks = p.marks := by
  cases seg <;> rfl
@[simp] theorem Part.updEngine_answer (p : Part) (seg : Segment) (g : Engine → Engine) : (p.updEngine seg g).answer = p.answer := by
  cases seg <;> rfl

/-- The engine written. -/
@[simp] theorem Part.engine_updEngine_same (p : Part) (seg : Segment) (g : Engine → Engine) :
    (p.updEngine seg g).engine seg = g (p.engine seg) := by
  cases seg <;> rfl

/-- The other engines. -/
theorem Part.engine_updEngine_ne (p : Part) (a b : Segment) (g : Engine → Engine) (h : a ≠ b) :
    (p.updEngine a g).engine b = p.engine b := by
  cases a <;> cases b <;> first | rfl | exact absurd rfl h

/-! ### The state -/

@[simp] theorem State.become_eq (s : State) (p : Part) : s.become p = .next { s with part := p } := rfl

/-! ### Records by number -/

/-- The seat written, for a seat of the table. -/
theorem Part.seatAt_updSeat_same (p : Part) (n : Nat) (f : Seat → Seat) (s : Seat) (h : nth p.seats n = some s) :
    (p.updSeat n f).seatAt n = f s := by
  simp [Part.seatAt, nth_upd_same, h]

/-- Every other seat. -/
theorem Part.seatAt_updSeat_ne (p : Part) (n m : Nat) (f : Seat → Seat) (h : n ≠ m) :
    (p.updSeat n f).seatAt m = p.seatAt m := by
  simp [Part.seatAt, nth_upd_ne, h]

/-- The floor written, for a floor of the pool. -/
theorem Part.floorAt_updFloor_same (p : Part) (n : Nat) (f : Floor → Floor) (x : Floor) (h : nth p.floors n = some x) :
    (p.updFloor n f).floorAt n = f x := by
  simp [Part.floorAt, nth_upd_same, h]

/-- Every other floor. -/
theorem Part.floorAt_updFloor_ne (p : Part) (n m : Nat) (f : Floor → Floor) (h : n ≠ m) :
    (p.updFloor n f).floorAt m = p.floorAt m := by
  simp [Part.floorAt, nth_upd_ne, h]

/-- The queue written, for a queue of the part. -/
theorem Part.queueAt_updQueue_same (p : Part) (n : Nat) (f : Queue → Queue) (x : Queue) (h : nth p.queues n = some x) :
    (p.updQueue n f).queueAt n = f x := by
  simp [Part.queueAt, nth_upd_same, h]

/-- Every other queue. -/
theorem Part.queueAt_updQueue_ne (p : Part) (n m : Nat) (f : Queue → Queue) (h : n ≠ m) :
    (p.updQueue n f).queueAt m = p.queueAt m := by
  simp [Part.queueAt, nth_upd_ne, h]

/-- The display written, for a display of the part. -/
theorem Part.displayAt_updDisplay_same (p : Part) (n : Nat) (f : Display → Display) (x : Display)
    (h : nth p.displays n = some x) : (p.updDisplay n f).displayAt n = f x := by
  simp [Part.displayAt, nth_upd_same, h]

/-- Every other display. -/
theorem Part.displayAt_updDisplay_ne (p : Part) (n m : Nat) (f : Display → Display) (h : n ≠ m) :
    (p.updDisplay n f).displayAt m = p.displayAt m := by
  simp [Part.displayAt, nth_upd_ne, h]

/-- The partition written. -/
theorem Part.partitionAt_updPartition_same (p : Part) (n : Nat) (f : Partition → Partition) (x : Partition)
    (h : nth p.partitions n = some x) : (p.updPartition n f).partitionAt n = f x := by
  simp [Part.partitionAt, nth_upd_same, h]

/-- The context written, for a floor of the pool. -/
theorem Part.contextAt_setContext_same (p : Part) (n : Nat) (c : Option OpContext) (x : Option OpContext)
    (h : nth p.contexts n = some x) : (p.setContext n c).contextAt n = c := by
  simp [Part.contextAt, nth_upd_same, h]

end Sys2Proof.Machine
end

