-- ==== Sys2Proof/Laws/Base.lean ====
section
/-! SUPPORT. What the operations of the floors, queues, bookings, links, displays and the power controller never touch: the base
of a part. One lemma per operation; later proofs cite these and unfold nothing. -/

namespace Sys2Proof.Machine

/-- What a seat record says of its unit. -/
structure UnitView where
  kind : Option UnitKind
  serial : Option Serial
  health : Health
  deriving DecidableEq, Repr

def Seat.unit (s : Seat) : UnitView := { kind := s.unitKind, serial := s.unitSerial, health := s.health }

/-- The base of a part: everything but seats' people, floors, queues, bookings, contexts, displays, engines, the power
controller, flags and marks. -/
structure Base where
  power : Power
  now : Nat
  clock : Clock
  partitions : List Partition
  ambient : Ambient
  settings : Settings
  store : Store
  answer : Answer
  enables : NoticeSet
  signals : NoticeSet
  units : List UnitView
  deriving DecidableEq, Repr

def Part.base (p : Part) : Base :=
  { power := p.power, now := p.now, clock := p.clock, partitions := p.partitions, ambient := p.ambient
    settings := p.settings, store := p.store, answer := p.answer, enables := p.notices.enables
    signals := p.notices.signals, units := p.seats.map Seat.unit }

/-! ### Fields of parts with equal bases -/

theorem Part.power_of_base (p q : Part) (h : p.base = q.base) : p.power = q.power := congrArg Base.power h
theorem Part.now_of_base (p q : Part) (h : p.base = q.base) : p.now = q.now := congrArg Base.now h
theorem Part.clock_of_base (p q : Part) (h : p.base = q.base) : p.clock = q.clock := congrArg Base.clock h
theorem Part.partitions_of_base (p q : Part) (h : p.base = q.base) : p.partitions = q.partitions := congrArg Base.partitions h
theorem Part.ambient_of_base (p q : Part) (h : p.base = q.base) : p.ambient = q.ambient := congrArg Base.ambient h
theorem Part.settings_of_base (p q : Part) (h : p.base = q.base) : p.settings = q.settings := congrArg Base.settings h
theorem Part.store_of_base (p q : Part) (h : p.base = q.base) : p.store = q.store := congrArg Base.store h
theorem Part.answer_of_base (p q : Part) (h : p.base = q.base) : p.answer = q.answer := congrArg Base.answer h
theorem Part.enables_of_base (p q : Part) (h : p.base = q.base) : p.notices.enables = q.notices.enables := congrArg Base.enables h
theorem Part.signals_of_base (p q : Part) (h : p.base = q.base) : p.notices.signals = q.notices.signals := congrArg Base.signals h

/-! ### Updates -/

theorem Part.updSeat_base (p : Part) (n : Nat) (f : Seat → Seat) (h : ∀ s, (f s).unit = s.unit) :
    (p.updSeat n f).base = p.base := by
  simp [Part.base, map_upd_of_keeps Seat.unit _ _ _ h]

@[simp] theorem Part.updFloor_base (p : Part) (n : Nat) (f : Floor → Floor) : (p.updFloor n f).base = p.base := rfl
@[simp] theorem Part.updQueue_base (p : Part) (n : Nat) (f : Queue → Queue) : (p.updQueue n f).base = p.base := rfl
@[simp] theorem Part.setContext_base (p : Part) (n : Nat) (c : Option OpContext) : (p.setContext n c).base = p.base := rfl
@[simp] theorem Part.updDisplay_base (p : Part) (n : Nat) (f : Display → Display) : (p.updDisplay n f).base = p.base := rfl
@[simp] theorem Part.updSlot_base (p : Part) (n : Nat) (f : Booking → Booking) : (p.updSlot n f).base = p.base := rfl
@[simp] theorem Part.updEngine_base (p : Part) (seg : Segment) (g : Engine → Engine) :
    (p.updEngine seg g).base = p.base := by cases seg <;> rfl
@[simp] theorem Part.raise_base (p : Part) (k : NoticeKind) : (p.raise k).base = p.base := rfl
@[simp] theorem Part.setControl_base (p : Part) (c : PowerControl) : ({ p with control := c } : Part).base = p.base := rfl

@[simp] theorem Part.updBooking_base (p : Part) (h : Nat) (g : Booking → Booking) : (p.updBooking h g).base = p.base := by
  unfold Part.updBooking; split <;> rfl
@[simp] theorem Part.freeBooking_base (p : Part) (h : Nat) : (p.freeBooking h).base = p.base := by
  unfold Part.freeBooking; split <;> rfl
@[simp] theorem Part.setGuard_base (p : Part) (n : Nat) : (p.setGuard n).base = p.base :=
  p.updSeat_base n _ (fun _ => rfl)
@[simp] theorem Part.flash_base (p : Part) (n : Nat) : (p.flash n).base = p.base :=
  p.updSeat_base n _ (fun s => by split <;> rfl)
@[simp] theorem Part.touchBooking_base (p : Part) (h : Nat) : (p.touchBooking h).base = p.base := by
  unfold Part.touchBooking; split <;> rfl
@[simp] theorem Part.addFlag_base (p : Part) (h : Nat) (g : Booking → Booking) : (p.addFlag h g).base = p.base := by
  unfold Part.addFlag; split <;> simp
@[simp] theorem Part.touchFloor_base (p : Part) (f : Nat) : (p.touchFloor f).base = p.base := rfl
@[simp] theorem Part.touchTable_base (p : Part) : p.touchTable.base = p.base := rfl
@[simp] theorem Part.touchSeat_base (p : Part) (n : Nat) : (p.touchSeat n).base = p.base := rfl
@[simp] theorem Part.requestUrgent_base (p : Part) (seg : Segment) (pos : Nat) : (p.requestUrgent seg pos).base = p.base := by
  unfold Part.requestUrgent; split <;> simp
@[simp] theorem Part.requestSeat_base (p : Part) (n : Nat) : (p.requestSeat n).base = p.base := p.requestUrgent_base _ _
@[simp] theorem Part.requestDisplay_base (p : Part) (d : Nat) : (p.requestDisplay d).base = p.base := by
  unfold Part.requestDisplay; split <;> simp

/-! ### Queues -/

@[simp] theorem Part.joinQueue_base (p : Part) (f n : Nat) (c : QueueClass) : (p.joinQueue f n c).base = p.base := rfl
@[simp] theorem Part.leaveQueue_base (p : Part) (f n : Nat) : (p.leaveQueue f n).base = p.base := rfl
@[simp] theorem Part.emptyQueue_base (p : Part) (f : Nat) : (p.emptyQueue f).base = p.base := rfl
@[simp] theorem Part.moveQueued_base (p : Part) (f n pos : Nat) : (p.moveQueued f n pos).base = p.base := rfl
@[simp] theorem Part.reclassQueued_base (p : Part) (f n : Nat) (c : QueueClass) : (p.reclassQueued f n c).base = p.base := rfl
@[simp] theorem Part.expireQueue_base (p : Part) (f : Nat) : (p.expireQueue f).base = p.base := by
  unfold Part.expireQueue; split <;> rfl
@[simp] theorem Part.trimQueue_base (p : Part) (f : Nat) : (p.trimQueue f).base = p.base := rfl
theorem Part.enqueueSeat_base (p q : Part) (f n : Nat) (c : QueueClass) (h : p.enqueueSeat f n c = some q) :
    q.base = p.base := by
  unfold Part.enqueueSeat at h
  split at h
  · cases h; simp
  · cases h

/-! ### Floors -/

@[simp] theorem Part.openSeat_base (p : Part) (f n : Nat) : (p.openSeat f n).base = p.base := by
  unfold Part.openSeat; split <;> simp
@[simp] theorem Part.endHold_base (p : Part) (f n : Nat) : (p.endHold f n).base = p.base := by
  unfold Part.endHold
  split
  · exact p.updSeat_base n _ (fun _ => rfl)
  · rfl
@[simp] theorem Part.dropEntry_base (p : Part) (f n : Nat) : (p.dropEntry f n).base = p.base := rfl
@[simp] theorem Part.closeEntry_base (p : Part) (f n : Nat) : (p.closeEntry f n).base = p.base := by
  simp [Part.closeEntry]
@[simp] theorem Part.forceClose_base (p : Part) (f n : Nat) : (p.forceClose f n).base = p.base := by
  simp [Part.forceClose]
@[simp] theorem Part.grantHead_base (p : Part) (f : Nat) : (p.grantHead f).base = p.base := by
  unfold Part.grantHead; split <;> simp
theorem grantLoop_base (k f : Nat) : ∀ p : Part, (grantLoop k f p).base = p.base := by
  induction k with
  | zero => intro p; rfl
  | succ k ih => intro p; unfold grantLoop; split <;> simp [ih]
@[simp] theorem Part.autoGrant_base (p : Part) (f : Nat) : (p.autoGrant f).base = p.base := grantLoop_base _ _ _
@[simp] theorem Part.closeThenGrant_base (p : Part) (f n : Nat) (b : Bool) : (p.closeThenGrant f n b).base = p.base := by
  unfold Part.closeThenGrant; cases b <;> simp <;> split <;> simp
@[simp] theorem Part.enqueueOrFlash_base (p : Part) (f n : Nat) : (p.enqueueOrFlash f n).base = p.base := by
  unfold Part.enqueueOrFlash
  cases h : p.enqueueSeat f n (p.seatAt n).role.queueClass with
  | none => simp
  | some q => simpa using p.enqueueSeat_base q f n _ h
@[simp] theorem Part.speakChair_base (p : Part) (f n : Nat) : (p.speakChair f n).base = p.base := by
  unfold Part.speakChair; split <;> simp
@[simp] theorem Part.speakOverflow_base (p : Part) (f n : Nat) : (p.speakOverflow f n).base = p.base := by
  unfold Part.speakOverflow; split <;> (try split) <;> simp
@[simp] theorem Part.speakClosed_base (p : Part) (f n : Nat) : (p.speakClosed f n).base = p.base := by
  unfold Part.speakClosed
  split
  · split <;> simp
  · simp
  · split
    · simp
    · next q h => simpa using p.enqueueSeat_base q f n _ h
@[simp] theorem Part.speakDelegate_base (p : Part) (f n : Nat) : (p.speakDelegate f n).base = p.base := by
  unfold Part.speakDelegate; repeat' split
  all_goals simp
@[simp] theorem Part.speakUnguarded_base (p : Part) (f n : Nat) : (p.speakUnguarded f n).base = p.base := by
  unfold Part.speakUnguarded; repeat' split
  all_goals simp
@[simp] theorem Part.speakPress_base (p : Part) (f n : Nat) : (p.speakPress f n).base = p.base := by
  unfold Part.speakPress; split <;> simp
@[simp] theorem Part.nextSpeaker_base (p : Part) (f : Nat) : (p.nextSpeaker f).base = p.base := by
  unfold Part.nextSpeaker; repeat' split
  all_goals simp
@[simp] theorem Part.nextPress_base (p : Part) (f n : Nat) : (p.nextPress f n).base = p.base := by
  unfold Part.nextPress; split <;> simp
@[simp] theorem Part.forceCloseAll_base (p : Part) (f : Nat) (l : List Nat) : (p.forceCloseAll f l).base = p.base :=
  foldl_keeps Part.base _ (fun s a => s.forceClose_base f a) l p
@[simp] theorem Part.cancelAll_base (p : Part) (f : Nat) : (p.cancelAll f).base = p.base := by simp [Part.cancelAll]
@[simp] theorem Part.cancelAllPress_base (p : Part) (f n : Nat) : (p.cancelAllPress f n).base = p.base := by
  unfold Part.cancelAllPress; split <;> simp
@[simp] theorem Part.startHold_base (p : Part) (f n : Nat) : (p.startHold f n).base = p.base := by
  unfold Part.startHold
  repeat' split
  all_goals try simp
  all_goals exact p.updSeat_base n _ (fun _ => rfl)
@[simp] theorem Part.priorityPress_base (p : Part) (f n : Nat) : (p.priorityPress f n).base = p.base := by
  unfold Part.priorityPress; split <;> simp
@[simp] theorem Part.updEntry_base (p : Part) (f n : Nat) (g : OpenEntry → OpenEntry) : (p.updEntry f n g).base = p.base := rfl
@[simp] theorem Part.warnEntry_base (p : Part) (f n : Nat) : (p.warnEntry f n).base = p.base := by
  unfold Part.warnEntry; repeat' split
  all_goals simp
@[simp] theorem Part.expireEntry_base (p : Part) (f n : Nat) : (p.expireEntry f n).base = p.base := by
  unfold Part.expireEntry; repeat' split
  all_goals simp
@[simp] theorem Part.takeWarning_base (p : Part) (f n : Nat) : (p.takeWarning f n).base = p.base := by
  unfold Part.takeWarning; repeat' split
  all_goals simp
@[simp] theorem Part.settleTimers_base (p : Part) (f : Nat) (b : Bool) : (p.settleTimers f b).base = p.base := by
  unfold Part.settleTimers; split <;> simp
@[simp] theorem Part.timerChange_base (p : Part) (f : Nat) (o n : FloorParams) (b : Bool) :
    (p.timerChange f o n b).base = p.base := by
  unfold Part.timerChange
  dsimp only
  repeat' split
  all_goals simp
theorem closeExcess_base (k f : Nat) : ∀ p : Part, (closeExcess k f p).base = p.base := by
  induction k with
  | zero => intro p; rfl
  | succ k ih =>
    intro p
    unfold closeExcess
    repeat' split
    all_goals simp [ih]
@[simp] theorem Part.enforceLimit_base (p : Part) (f : Nat) : (p.enforceLimit f).base = p.base := closeExcess_base _ _ _
@[simp] theorem Part.roleOfOpen_base (p : Part) (f n : Nat) (e : OpenEntry) (r : Role) :
    (p.roleOfOpen f n e r).base = p.base := by
  unfold Part.roleOfOpen; split <;> simp
@[simp] theorem Part.roleOfQueued_base (p : Part) (f n : Nat) (r : Role) : (p.roleOfQueued f n r).base = p.base := by
  unfold Part.roleOfQueued; repeat' split
  all_goals simp
@[simp] theorem Part.roleChanged_base (p : Part) (f n : Nat) (r : Role) : (p.roleChanged f n r).base = p.base := by
  unfold Part.roleChanged
  dsimp only
  repeat' split
  all_goals simp
@[simp] theorem Part.takeSuspension_base (p : Part) (f : Nat) : (p.takeSuspension f).base = p.base := by
  unfold Part.takeSuspension
  dsimp only
  split <;> simp
@[simp] theorem Part.resume_base (p : Part) (f : Nat) : (p.resume f).base = p.base := by simp [Part.resume]
@[simp] theorem Part.evalSuspensionOf_base (p : Part) (f : Nat) : (p.evalSuspensionOf f).base = p.base := by
  unfold Part.evalSuspensionOf; repeat' split
  all_goals simp
@[simp] theorem Part.evalSuspension_base (p : Part) : p.evalSuspension.base = p.base :=
  foldl_keeps Part.base _ (fun s a => s.evalSuspensionOf_base a) _ p
@[simp] theorem Part.removeUnadmitted_base (p : Part) (f n : Nat) : (p.removeUnadmitted f n).base = p.base := by
  unfold Part.removeUnadmitted; split <;> simp
@[simp] theorem Part.enforceAdmission_base (p : Part) (f : Nat) : (p.enforceAdmission f).base = p.base := by
  unfold Part.enforceAdmission
  split
  · exact foldl_keeps Part.base _ (fun s a => s.removeUnadmitted_base f a) _ p
  · rfl

/-! ### Links, displays and the end of a step -/

@[simp] theorem Part.setProbeDue_base (p : Part) (seg : Segment) (pos : Nat) : (p.setProbeDue seg pos).base = p.base := by
  simp [Part.setProbeDue]
@[simp] theorem Part.send_base (p : Part) (seg : Segment) (x : Exchange) : (p.send seg x).base = p.base := by
  simp [Part.send]
@[simp] theorem Part.countConflict_base (p : Part) (seg : Segment) (o : LinkOutcome) : (p.countConflict seg o).base = p.base := by
  unfold Part.countConflict; split <;> simp
@[simp] theorem Part.serveRound_base (p : Part) (seg : Segment) : (p.serveRound seg).base = p.base := by
  unfold Part.serveRound
  repeat' split
  all_goals try dsimp only
  all_goals simp
@[simp] theorem Part.serveNext_base (p : Part) (seg : Segment) : (p.serveNext seg).base = p.base := by
  unfold Part.serveNext; split <;> simp
@[simp] theorem Part.serveBlank_base (p : Part) : p.serveBlank.base = p.base := by
  unfold Part.serveBlank; split <;> simp
@[simp] theorem Part.kick_base (p : Part) (seg : Segment) : (p.kick seg).base = p.base := by
  unfold Part.kick; repeat' split
  all_goals simp
@[simp] theorem Part.kickAll_base (p : Part) : p.kickAll.base = p.base := by simp [Part.kickAll]
@[simp] theorem Part.takeWalk_base (p : Part) (seg : Segment) : (p.takeWalk seg).base = p.base := by
  unfold Part.takeWalk; split <;> simp
@[simp] theorem Part.takeWalks_base (p : Part) : p.takeWalks.base = p.base := by simp [Part.takeWalks]
@[simp] theorem Part.recomputeAll_base (p : Part) : p.recomputeAll.base = p.base := by
  unfold Part.recomputeAll
  dsimp only
  rw [foldl_keeps Part.base _ (fun s a => by split <;> simp)]
  rfl
@[simp] theorem Part.restartRotations_base (p : Part) (f : Nat) : (p.restartRotations f).base = p.base := rfl
@[simp] theorem Part.noteChanges_base (old p : Part) : (old.noteChanges p).base = p.base := rfl
@[simp] theorem Part.unconfirm_base (old p : Part) : (old.unconfirm p).base = p.base := by
  simp only [Part.base, Part.unconfirm]
  rw [map_mapFrom_of_keeps Seat.unit _ _ (fun i a => by split <;> rfl)]
@[simp] theorem Part.syncSeats_base (old p : Part) : (old.syncSeats p).base = p.base := by
  unfold Part.syncSeats
  rw [foldl_keeps Part.base _ (fun s a => by split <;> simp)]
  simp
@[simp] theorem Part.follow_base (old p : Part) : (old.follow p).base = p.base := by simp [Part.follow]
@[simp] theorem Part.settle_base (old p : Part) : (old.settle p).base = p.base := by simp [Part.settle]

/-! ### Bookings -/

@[simp] theorem Part.writeSeats_base (p : Part) (run : ZoneRun) (g : Nat → Option RosterEntry) :
    (p.writeSeats run g).base = p.base := by
  simp only [Part.base, Part.writeSeats]
  rw [map_mapFrom_of_keeps Seat.unit _ _ (fun i a => by split <;> rfl)]
@[simp] theorem Part.requestSeats_base (p : Part) (l : List Nat) : (p.requestSeats l).base = p.base :=
  foldl_keeps Part.base _ (fun s a => s.requestSeat_base a) l p
@[simp] theorem Part.addBooking_base (p : Part) (b : Booking) : (p.addBooking b).base = p.base := by
  unfold Part.addBooking; split <;> rfl
@[simp] theorem Part.beginPush_base (p : Part) (f : Nat) (b : Booking) : (p.beginPush f b).base = p.base := by
  unfold Part.beginPush
  dsimp only
  split <;> simp
@[simp] theorem Part.beginApply_base (p : Part) (f : Nat) (b : Booking) : (p.beginApply f b).base = p.base := by
  simp [Part.beginApply]
@[simp] theorem Part.floorLive_base (p : Part) (f : Nat) : (p.floorLive f).base = p.base := by simp [Part.floorLive]
@[simp] theorem Part.dropPending_base (p : Part) (b : Booking) : (p.dropPending b).base = p.base := by
  unfold Part.dropPending; repeat' split
  all_goals simp
@[simp] theorem Part.takePending_base (p : Part) (f : Nat) (b : Booking) : (p.takePending f b).base = p.base := by
  unfold Part.takePending; repeat' split
  all_goals simp
@[simp] theorem Part.applyLive_base (p : Part) (f : Nat) (b : Booking) : (p.applyLive f b).base = p.base := by
  unfold Part.applyLive
  dsimp only
  split <;> simp
@[simp] theorem Part.completeApply_base (p : Part) (f : Nat) (b : Booking) : (p.completeApply f b).base = p.base := by
  unfold Part.completeApply
  dsimp only
  split <;> simp
@[simp] theorem Part.releaseFloor_base (p : Part) (f : Nat) : (p.releaseFloor f).base = p.base := by
  simp [Part.releaseFloor]
@[simp] theorem Part.beginCloseOut_base (p : Part) (f h : Nat) : (p.beginCloseOut f h).base = p.base := by
  simp [Part.beginCloseOut]
@[simp] theorem Part.beginClear_base (p : Part) (f : Nat) (b : Booking) : (p.beginClear f b).base = p.base := by
  simp [Part.beginClear]
@[simp] theorem Part.completeCloseOut_base (p : Part) (f : Nat) (b : Booking) : (p.completeCloseOut f b).base = p.base := by
  unfold Part.completeCloseOut
  dsimp only
  split <;> simp
@[simp] theorem Part.abortApply_base (p : Part) (f : Nat) (b : Booking) (k : Bool) : (p.abortApply f b k).base = p.base := by
  unfold Part.abortApply
  dsimp only
  split <;> simp
@[simp] theorem Part.takeOccStart_base (p : Part) (h : Nat) : (p.takeOccStart h).1.base = p.base := by
  unfold Part.takeOccStart; repeat' split
  all_goals simp
@[simp] theorem Part.takeStart_base (p : Part) (h : Nat) : (p.takeStart h).1.base = p.base := by
  unfold Part.takeStart; repeat' split
  all_goals simp
@[simp] theorem Part.takeEnd_base (p : Part) (h : Nat) : (p.takeEnd h).1.base = p.base := by
  unfold Part.takeEnd; repeat' split
  all_goals simp
@[simp] theorem Part.startApply_base (p : Part) (b : Booking) : (p.startApply b).1.base = p.base := by
  unfold Part.startApply; split <;> simp
@[simp] theorem Part.takeTry_base (p : Part) (h : Nat) : (p.takeTry h).1.base = p.base := by
  unfold Part.takeTry; repeat' split
  all_goals simp
@[simp] theorem Part.takeCloseOut_base (p : Part) (h : Nat) : (p.takeCloseOut h).1.base = p.base := by
  unfold Part.takeCloseOut; repeat' split
  all_goals simp
@[simp] theorem Part.takeAdvance_base (p : Part) (f : Nat) : (p.takeAdvance f).1.base = p.base := by
  unfold Part.takeAdvance; repeat' split
  all_goals simp
@[simp] theorem Part.takeChain_base (p : Part) (k : Nat) : (p.takeChain k).1.base = p.base := by
  unfold Part.takeChain; repeat' split
  all_goals simp
@[simp] theorem Part.doTask_base (p : Part) (t : Task) : (p.doTask t).1.base = p.base := by
  cases t <;> simp [Part.doTask]
theorem runFuel_base (k : Nat) : ∀ (ts : List Task) (p : Part), (runFuel k ts p).base = p.base := by
  induction k with
  | zero => intro ts p; cases ts <;> rfl
  | succ k ih =>
    intro ts p
    cases ts with
    | nil => rfl
    | cons t ts => simp [runFuel, ih]
@[simp] theorem Part.runTasks_base (p : Part) (ts : List Task) : (p.runTasks ts).base = p.base := runFuel_base _ _ _
@[simp] theorem Part.evalTimes_base (p : Part) : p.evalTimes.base = p.base := by
  unfold Part.evalTimes; split <;> simp
@[simp] theorem Part.bumpOne_base (occ : Nat) (p : Part) (h : Nat) : (Part.bumpOne occ p h).base = p.base := by
  simp [Part.bumpOne]
@[simp] theorem Part.bumpAll_base (p : Part) (run : ZoneRun) (a e : Nat) : (p.bumpAll run a e).base = p.base :=
  foldl_keeps Part.base _ (fun s h => Part.bumpOne_base a s h) _ p
@[simp] theorem Part.adHocPress_base (p : Part) (n : Nat) : (p.adHocPress n).base = p.base := by
  unfold Part.adHocPress; repeat' split
  all_goals simp
@[simp] theorem Part.workFailed_base (p : Part) (c : OpContext) : (p.workFailed c).base = p.base := by
  unfold Part.workFailed; split <;> simp
@[simp] theorem Part.afterAttempt_base (p : Part) (c : OpContext) (n : Nat) : (p.afterAttempt c n).base = p.base := by
  unfold Part.afterAttempt; repeat' split
  all_goals simp
@[simp] theorem Part.workOutcome_base (p : Part) (n : Nat) (g e : Bool) : (p.workOutcome n g e).base = p.base := by
  unfold Part.workOutcome; repeat' split
  all_goals simp
@[simp] theorem Part.workSkipped_base (p : Part) (c : OpContext) (n : Nat) : (p.workSkipped c n).base = p.base := by
  unfold Part.workSkipped; repeat' split
  all_goals simp
@[simp] theorem Part.workLost_base (p : Part) (n : Nat) : (p.workLost n).base = p.base := by
  unfold Part.workLost; repeat' split
  all_goals simp

/-! ### Power -/

@[simp] theorem Part.becomeAwake_base (p : Part) : p.becomeAwake.base = p.base := by
  unfold Part.becomeAwake; rw [Part.runTasks_base]; rfl
@[simp] theorem Part.checkAwake_base (p : Part) : p.checkAwake.base = p.base := by
  unfold Part.checkAwake; split <;> simp
@[simp] theorem Part.toWaking_base (p : Part) (c : WakeCause) : (p.toWaking c).base = p.base := rfl
@[simp] theorem Part.wake_base (p : Part) (c : WakeCause) : (p.wake c).base = p.base := by
  unfold Part.wake; split <;> simp
@[simp] theorem Part.dueTest_base (p : Part) : p.dueTest.base = p.base := by
  unfold Part.dueTest; split <;> simp
@[simp] theorem Part.beginStandby_base (p : Part) : p.beginStandby.base = p.base := rfl
@[simp] theorem Part.sendSleep_base (p : Part) (seg : Segment) : (p.sendSleep seg).base = p.base := by cases seg <;> rfl
@[simp] theorem Part.seeWakeLine_base (p : Part) (seg : Segment) : (p.seeWakeLine seg).base = p.base := by
  unfold Part.seeWakeLine; split <;> simp
@[simp] theorem Part.takeSleep_base (p : Part) (seg : Segment) : (p.takeSleep seg).base = p.base := by
  unfold Part.takeSleep; split <;> simp
@[simp] theorem Part.raiseWakeLine_base (p : Part) (seg : Segment) : (p.raiseWakeLine seg).base = p.base := by
  unfold Part.raiseWakeLine; split <;> simp

/-! ### What a GOOD POLL sets off at its seat, after the moves of score and presence -/

@[simp] theorem Part.floorLoses_base (p : Part) (f n : Nat) : (p.floorLoses f n).base = p.base := by
  unfold Part.floorLoses
  dsimp only
  split <;> simp <;> rw [Part.updSeat_base _ n Seat.lose (fun _ => rfl)] <;> exact p.endHold_base f n
@[simp] theorem Part.loseSeat_base (p : Part) (n : Nat) : (p.loseSeat n).base = p.base := by
  unfold Part.loseSeat; split
  · simpa using p.updSeat_base n Seat.lose (fun _ => rfl)
  · simp
@[simp] theorem Part.presenceMoved_base (p : Part) (n : Nat) (o : Presence) : (p.presenceMoved n o).base = p.base := by
  unfold Part.presenceMoved
  dsimp only
  repeat' split
  all_goals try simp
  all_goals first | exact p.updSeat_base n _ (fun _ => rfl) | (rw [Part.updSeat_base _ n (fun s => s.take (p.offeredEntry n)) (fun _ => rfl)]; exact p.loseSeat_base n)
@[simp] theorem Part.stopHold_base (p : Part) (n : Nat) : (p.stopHold n).base = p.base := by
  unfold Part.stopHold; split <;> simp
@[simp] theorem Part.admissionLost_base (p : Part) (f n : Nat) : (p.admissionLost f n).base = p.base := by
  unfold Part.admissionLost
  dsimp only
  split <;> simp
@[simp] theorem Part.reportAdmission_base (p : Part) (n : Nat) (b : Bool) : (p.reportAdmission n b).base = p.base := by
  unfold Part.reportAdmission; repeat' split
  all_goals simp
theorem Seat.readBadge_unit (need : Nat) (t : Tag) (s : Seat) : (Seat.readBadge need t s).unit = s.unit := by
  unfold Seat.readBadge
  dsimp only
  repeat' split
  all_goals rfl
@[simp] theorem Part.takeBadge_base (p : Part) (n : Nat) (t : Tag) : (p.takeBadge n t).base = p.base := by
  rw [Part.takeBadge, Part.reportAdmission_base, p.updSeat_base n _ (Seat.readBadge_unit _ _)]
@[simp] theorem Part.recordTag_base (p : Part) (n : Nat) (b : Button) (t : PressTag) : (p.recordTag n b t).base = p.base :=
  p.updSeat_base n _ (fun _ => rfl)
@[simp] theorem Part.countOverrun_base (p : Part) (n : Nat) (o : Bool) : (p.countOverrun n o).base = p.base := by
  unfold Part.countOverrun; split
  · exact p.updSeat_base n _ (fun _ => rfl)
  · rfl
@[simp] theorem Part.pressAt_base (p : Part) (n : Nat) (b : Button) : (p.pressAt n b).base = p.base := by
  unfold Part.pressAt; repeat' split
  all_goals simp
@[simp] theorem Part.dispatch_base (p : Part) (n : Nat) (b : Button) : (p.dispatch n b).base = p.base := by
  unfold Part.dispatch; split <;> simp
@[simp] theorem Part.notePress_base (p : Part) : p.notePress.base = p.base := by
  unfold Part.notePress
  dsimp only
  split <;> simp
@[simp] theorem Part.takeEvent_base (p : Part) (n : Nat) (b : Button) (e : Option PressEvent) :
    (p.takeEvent n b e).base = p.base := by
  unfold Part.takeEvent; repeat' split
  all_goals simp
@[simp] theorem Part.takeEvents_base (p : Part) (n : Nat) (u : Uplink) : (p.takeEvents n u).base = p.base := by
  simp [Part.takeEvents]
@[simp] theorem Part.risingEdge_base (p : Part) (n : Nat) : (p.risingEdge n).base = p.base := by
  unfold Part.risingEdge; repeat' split
  all_goals simp
@[simp] theorem Part.takeLevel_base (p : Part) (n : Nat) (l : Bool) : (p.takeLevel n l).base = p.base := by
  unfold Part.takeLevel
  dsimp only
  split <;> try simp
  all_goals exact p.updSeat_base n _ (fun _ => rfl)
@[simp] theorem Part.pollTakes_base (p : Part) (n : Nat) (i : Image) (u : Uplink) : (p.pollTakes n i u).base = p.base := by
  simp only [Part.pollTakes, Part.takeLevel_base, Part.takeEvents_base, Part.takeBadge_base, Part.follow_base]
  exact p.updSeat_base n _ (fun _ => rfl)

end Sys2Proof.Machine
end

