-- ==== Sys2Proof/Laws/Settle.lean ====
section
/-! SUPPORT. What the end of a step never touches: floors, queues, bookings, operations, the power controller, the seats but for
`mic_confirmed`, and the displays' units and configurations. -/

namespace Sys2Proof.Machine

@[simp] theorem Part.updEngine_records (p : Part) (seg : Segment) (g : Engine → Engine) :
    (p.updEngine seg g).records = p.records := by cases seg <;> rfl
@[simp] theorem Part.raise_records (p : Part) (k : NoticeKind) : (p.raise k).records = p.records := rfl
@[simp] theorem Part.requestUrgent_records (p : Part) (seg : Segment) (pos : Nat) :
    (p.requestUrgent seg pos).records = p.records := by
  unfold Part.requestUrgent; split <;> simp
@[simp] theorem Part.requestSeat_records (p : Part) (n : Nat) : (p.requestSeat n).records = p.records :=
  p.requestUrgent_records _ _
@[simp] theorem Part.requestDisplay_records (p : Part) (d : Nat) : (p.requestDisplay d).records = p.records := by
  unfold Part.requestDisplay; split <;> simp
@[simp] theorem Part.setProbeDue_records (p : Part) (seg : Segment) (pos : Nat) : (p.setProbeDue seg pos).records = p.records := by
  simp [Part.setProbeDue]
@[simp] theorem Part.send_records (p : Part) (seg : Segment) (x : Exchange) : (p.send seg x).records = p.records := by
  simp [Part.send]
@[simp] theorem Part.serveRound_records (p : Part) (seg : Segment) : (p.serveRound seg).records = p.records := by
  unfold Part.serveRound
  repeat' split
  all_goals try dsimp only
  all_goals simp
@[simp] theorem Part.serveNext_records (p : Part) (seg : Segment) : (p.serveNext seg).records = p.records := by
  unfold Part.serveNext; split <;> simp
@[simp] theorem Part.serveBlank_records (p : Part) : p.serveBlank.records = p.records := by
  unfold Part.serveBlank; split <;> simp
@[simp] theorem Part.kick_records (p : Part) (seg : Segment) : (p.kick seg).records = p.records := by
  unfold Part.kick; repeat' split
  all_goals simp
@[simp] theorem Part.kickAll_records (p : Part) : p.kickAll.records = p.records := by simp [Part.kickAll]
@[simp] theorem Part.takeWalk_records (p : Part) (seg : Segment) : (p.takeWalk seg).records = p.records := by
  unfold Part.takeWalk; split <;> simp
@[simp] theorem Part.takeWalks_records (p : Part) : p.takeWalks.records = p.records := by simp [Part.takeWalks]

theorem Part.recomputed_core (p : Part) (d : Display) : (p.recomputed d).core = d.core := by
  simp only [Part.recomputed, Part.restRotation]
  split <;> rfl

@[simp] theorem Part.recomputeAll_records (p : Part) : p.recomputeAll.records = p.records := by
  unfold Part.recomputeAll
  dsimp only
  rw [foldl_keeps Part.records _ (fun s a => by split <;> simp)]
  simp only [Part.records, map_map_of_keeps Display.core _ _ p.recomputed_core]
@[simp] theorem Part.noteChanges_records (old p : Part) : (old.noteChanges p).records = p.records := rfl
@[simp] theorem Part.unconfirm_records (old p : Part) : (old.unconfirm p).records = p.records := by
  simp only [Part.records, Part.unconfirm]
  rw [map_mapFrom_of_keeps Seat.quiet _ _ (fun i a => by split <;> rfl)]
@[simp] theorem Part.syncSeats_records (old p : Part) : (old.syncSeats p).records = p.records := by
  unfold Part.syncSeats
  rw [foldl_keeps Part.records _ (fun s a => by split <;> simp)]
  simp
/-- What follows a block's step touches none of the records. -/
@[simp] theorem Part.follow_records (old p : Part) : (old.follow p).records = p.records := by simp [Part.follow]
/-- The end of a step touches none of the records. -/
@[simp] theorem Part.settle_records (old p : Part) : (old.settle p).records = p.records := by simp [Part.settle]

/-! ### Field by field -/

theorem Part.records_power (p : Part) : p.records.power = p.power := rfl
theorem Part.records_now (p : Part) : p.records.now = p.now := rfl
theorem Part.records_floors (p : Part) : p.records.floors = p.floors := rfl
theorem Part.records_queues (p : Part) : p.records.queues = p.queues := rfl
theorem Part.records_slots (p : Part) : p.records.slots = p.slots := rfl
theorem Part.records_lastHandle (p : Part) : p.records.lastHandle = p.lastHandle := rfl
theorem Part.records_clock (p : Part) : p.records.clock = p.clock := rfl
theorem Part.records_contexts (p : Part) : p.records.contexts = p.contexts := rfl
theorem Part.records_partitions (p : Part) : p.records.partitions = p.partitions := rfl
theorem Part.records_ambient (p : Part) : p.records.ambient = p.ambient := rfl
theorem Part.records_control (p : Part) : p.records.control = p.control := rfl
theorem Part.records_settings (p : Part) : p.records.settings = p.settings := rfl
theorem Part.records_store (p : Part) : p.records.store = p.store := rfl
theorem Part.records_enables (p : Part) : p.records.enables = p.notices.enables := rfl
theorem Part.records_signals (p : Part) : p.records.signals = p.notices.signals := rfl

@[simp] theorem Part.settle_power (old p : Part) : (old.settle p).power = p.power := by
  rw [← Part.records_power, Part.settle_records, Part.records_power]
@[simp] theorem Part.settle_now (old p : Part) : (old.settle p).now = p.now := by
  rw [← Part.records_now, Part.settle_records, Part.records_now]
@[simp] theorem Part.settle_floors (old p : Part) : (old.settle p).floors = p.floors := by
  rw [← Part.records_floors, Part.settle_records, Part.records_floors]
@[simp] theorem Part.settle_queues (old p : Part) : (old.settle p).queues = p.queues := by
  rw [← Part.records_queues, Part.settle_records, Part.records_queues]
@[simp] theorem Part.settle_slots (old p : Part) : (old.settle p).slots = p.slots := by
  rw [← Part.records_slots, Part.settle_records, Part.records_slots]
@[simp] theorem Part.settle_lastHandle (old p : Part) : (old.settle p).lastHandle = p.lastHandle := by
  rw [← Part.records_lastHandle, Part.settle_records, Part.records_lastHandle]
@[simp] theorem Part.settle_clock (old p : Part) : (old.settle p).clock = p.clock := by
  rw [← Part.records_clock, Part.settle_records, Part.records_clock]
@[simp] theorem Part.settle_contexts (old p : Part) : (old.settle p).contexts = p.contexts := by
  rw [← Part.records_contexts, Part.settle_records, Part.records_contexts]
@[simp] theorem Part.settle_partitions (old p : Part) : (old.settle p).partitions = p.partitions := by
  rw [← Part.records_partitions, Part.settle_records, Part.records_partitions]
@[simp] theorem Part.settle_ambient (old p : Part) : (old.settle p).ambient = p.ambient := by
  rw [← Part.records_ambient, Part.settle_records, Part.records_ambient]
@[simp] theorem Part.settle_control (old p : Part) : (old.settle p).control = p.control := by
  rw [← Part.records_control, Part.settle_records, Part.records_control]
@[simp] theorem Part.settle_settings (old p : Part) : (old.settle p).settings = p.settings := by
  rw [← Part.records_settings, Part.settle_records, Part.records_settings]
@[simp] theorem Part.settle_store (old p : Part) : (old.settle p).store = p.store := by
  rw [← Part.records_store, Part.settle_records, Part.records_store]
@[simp] theorem Part.settle_enables (old p : Part) : (old.settle p).notices.enables = p.notices.enables := by
  rw [← Part.records_enables, Part.settle_records, Part.records_enables]
@[simp] theorem Part.settle_signals (old p : Part) : (old.settle p).notices.signals = p.notices.signals := by
  rw [← Part.records_signals, Part.settle_records, Part.records_signals]
@[simp] theorem Part.settle_answer (old p : Part) : (old.settle p).answer = p.answer :=
  congrArg (fun l => l.answer) (old.settle_base p)
@[simp] theorem Part.settle_floorAt (old p : Part) (f : Nat) : (old.settle p).floorAt f = p.floorAt f := by
  simp [Part.floorAt]
@[simp] theorem Part.settle_queueAt (old p : Part) (f : Nat) : (old.settle p).queueAt f = p.queueAt f := by
  simp [Part.queueAt]
@[simp] theorem Part.settle_slotAt (old p : Part) (k : Nat) : (old.settle p).slotAt k = p.slotAt k := by
  simp [Part.slotAt]
@[simp] theorem Part.settle_contextAt (old p : Part) (f : Nat) : (old.settle p).contextAt f = p.contextAt f := by
  simp [Part.contextAt]
@[simp] theorem Part.settle_partitionAt (old p : Part) (k : Nat) : (old.settle p).partitionAt k = p.partitionAt k := by
  simp [Part.partitionAt]

theorem nth_of_map {α β : Type} (g : α → β) (l m : List α) (h : l.map g = m.map g) (i : Nat) :
    (nth l i).map g = (nth m i).map g := by
  cases i with
  | zero => rfl
  | succ k =>
    have := congrArg (fun x => x[k]?) h
    simpa [nth] using this

theorem getD_of_map {α β : Type} (g : α → β) (a b : Option α) (d : α) (h : a.map g = b.map g) :
    g (a.getD d) = g (b.getD d) := by
  cases a <;> cases b <;> simp_all

/-- A seat record after the end of a step: only `mic_confirmed` may differ. -/
@[simp] theorem Part.settle_seatAt_quiet (old p : Part) (n : Nat) : ((old.settle p).seatAt n).quiet = (p.seatAt n).quiet :=
  getD_of_map Seat.quiet _ _ _ (nth_of_map Seat.quiet _ _ (congrArg Records.seats (old.settle_records p)) n)

/-- A display's unit and configuration after the end of a step. -/
@[simp] theorem Part.settle_displayAt_core (old p : Part) (d : Nat) :
    ((old.settle p).displayAt d).core = (p.displayAt d).core :=
  getD_of_map Display.core _ _ _ (nth_of_map Display.core _ _ (congrArg Records.displays (old.settle_records p)) d)

@[simp] theorem Part.settle_seatAt_health (old p : Part) (n : Nat) : ((old.settle p).seatAt n).health = (p.seatAt n).health :=
  congrArg (fun s => s.health) (old.settle_seatAt_quiet p n)
@[simp] theorem Part.settle_seatAt_role (old p : Part) (n : Nat) : ((old.settle p).seatAt n).role = (p.seatAt n).role :=
  congrArg (fun s => s.role) (old.settle_seatAt_quiet p n)
@[simp] theorem Part.settle_seatAt_occupant (old p : Part) (n : Nat) :
    ((old.settle p).seatAt n).occupant = (p.seatAt n).occupant :=
  congrArg (fun s => s.occupant) (old.settle_seatAt_quiet p n)
@[simp] theorem Part.settle_seatAt_badge (old p : Part) (n : Nat) : ((old.settle p).seatAt n).badge = (p.seatAt n).badge :=
  congrArg (fun s => s.badge) (old.settle_seatAt_quiet p n)
@[simp] theorem Part.settle_seatAt_guard (old p : Part) (n : Nat) :
    ((old.settle p).seatAt n).guardUntil = (p.seatAt n).guardUntil :=
  congrArg (fun s => s.guardUntil) (old.settle_seatAt_quiet p n)

end Sys2Proof.Machine
end

