-- ==== Sys2Proof/Laws/Port.lean ====
section
/-! SUPPORT. What taking a request can do, case by case, and how the statements' words follow from it. -/

namespace Sys2Proof.Machine

variable {α : Type}

/-! ### Small updates and the records -/

@[simp] theorem Part.setAnswer_engine (p : Part) (c : Byte) (st : Status) (b : List Byte) (seg : Segment) :
    (p.setAnswer c st b).engine seg = p.engine seg := by cases seg <;> rfl
@[simp] theorem Part.setAnswer_records (p : Part) (c : Byte) (st : Status) (b : List Byte) :
    (p.setAnswer c st b).records = p.records := rfl
@[simp] theorem Part.setAnswer_answer (p : Part) (c : Byte) (st : Status) (b : List Byte) :
    (p.setAnswer c st b).answer = { status := st, code := c, body := b } := rfl
@[simp] theorem Part.setAnswer_power (p : Part) (c : Byte) (st : Status) (b : List Byte) :
    (p.setAnswer c st b).power = p.power := rfl
@[simp] theorem Part.setAnswer_now (p : Part) (c : Byte) (st : Status) (b : List Byte) :
    (p.setAnswer c st b).now = p.now := rfl
@[simp] theorem Part.setAnswer_seats (p : Part) (c : Byte) (st : Status) (b : List Byte) :
    (p.setAnswer c st b).seats = p.seats := rfl
@[simp] theorem Part.setAnswer_floors (p : Part) (c : Byte) (st : Status) (b : List Byte) :
    (p.setAnswer c st b).floors = p.floors := rfl
@[simp] theorem Part.setAnswer_queues (p : Part) (c : Byte) (st : Status) (b : List Byte) :
    (p.setAnswer c st b).queues = p.queues := rfl
@[simp] theorem Part.setAnswer_slots (p : Part) (c : Byte) (st : Status) (b : List Byte) :
    (p.setAnswer c st b).slots = p.slots := rfl
@[simp] theorem Part.setAnswer_lastHandle (p : Part) (c : Byte) (st : Status) (b : List Byte) :
    (p.setAnswer c st b).lastHandle = p.lastHandle := rfl
@[simp] theorem Part.setAnswer_clock (p : Part) (c : Byte) (st : Status) (b : List Byte) :
    (p.setAnswer c st b).clock = p.clock := rfl
@[simp] theorem Part.setAnswer_contexts (p : Part) (c : Byte) (st : Status) (b : List Byte) :
    (p.setAnswer c st b).contexts = p.contexts := rfl
@[simp] theorem Part.setAnswer_partitions (p : Part) (c : Byte) (st : Status) (b : List Byte) :
    (p.setAnswer c st b).partitions = p.partitions := rfl
@[simp] theorem Part.setAnswer_displays (p : Part) (c : Byte) (st : Status) (b : List Byte) :
    (p.setAnswer c st b).displays = p.displays := rfl
@[simp] theorem Part.setAnswer_ambient (p : Part) (c : Byte) (st : Status) (b : List Byte) :
    (p.setAnswer c st b).ambient = p.ambient := rfl
@[simp] theorem Part.setAnswer_left (p : Part) (c : Byte) (st : Status) (b : List Byte) :
    (p.setAnswer c st b).left = p.left := rfl
@[simp] theorem Part.setAnswer_right (p : Part) (c : Byte) (st : Status) (b : List Byte) :
    (p.setAnswer c st b).right = p.right := rfl
@[simp] theorem Part.setAnswer_wall (p : Part) (c : Byte) (st : Status) (b : List Byte) :
    (p.setAnswer c st b).wall = p.wall := rfl
@[simp] theorem Part.setAnswer_control (p : Part) (c : Byte) (st : Status) (b : List Byte) :
    (p.setAnswer c st b).control = p.control := rfl
@[simp] theorem Part.setAnswer_settings (p : Part) (c : Byte) (st : Status) (b : List Byte) :
    (p.setAnswer c st b).settings = p.settings := rfl
@[simp] theorem Part.setAnswer_store (p : Part) (c : Byte) (st : Status) (b : List Byte) :
    (p.setAnswer c st b).store = p.store := rfl
@[simp] theorem Part.setAnswer_notices (p : Part) (c : Byte) (st : Status) (b : List Byte) :
    (p.setAnswer c st b).notices = p.notices := rfl
@[simp] theorem Part.setAnswer_marks (p : Part) (c : Byte) (st : Status) (b : List Byte) :
    (p.setAnswer c st b).marks = p.marks := rfl
@[simp] theorem Part.setAnswer_seatAt (p : Part) (c : Byte) (st : Status) (b : List Byte) (n : Nat) :
    (p.setAnswer c st b).seatAt n = p.seatAt n := rfl

/-! ### A request -/

/-- A body that does not fit (R180). -/
theorem Part.request_none (p : Part) (c : Byte) (owner : α → Part → Reply) (h : p.power = .running) :
    p.request c none owner = p.setAnswer c .badValue [] := by
  simp [Part.request, h]

/-- A request refused by its owner (R180). -/
theorem Part.request_refused (p : Part) (c : Byte) (a : α) (owner : α → Part → Reply) (st : Status)
    (h : p.power = .running) (ho : owner a p = p.refuse st) (hst : st.taken = false) :
    p.request c (some a) owner = p.setAnswer c st [] := by
  simp [Part.request, h, Part.finish, ho, Part.refuse, hst]

/-- A request taken by its owner (R178, R180). -/
theorem Part.request_taken (p : Part) (c : Byte) (a : α) (owner : α → Part → Reply) (h : p.power = .running)
    (hst : (owner a p).status.taken = true) :
    p.request c (some a) owner =
      (p.settle (owner a p).part).setAnswer c (owner a p).status (owner a p).body := by
  simp [Part.request, h, Part.finish, hst]

/-- A request that finds the part not running is lost (R190). -/
theorem Part.request_stopped (p : Part) (c : Byte) (o : Option α) (owner : α → Part → Reply) (h : p.power ≠ .running) :
    p.request c o owner = p := by
  simp [Part.request, h]

/-- A taken request leaves the records as its owner wrote them. -/
theorem Part.request_taken_records (p : Part) (c : Byte) (a : α) (owner : α → Part → Reply) (h : p.power = .running)
    (hst : (owner a p).status.taken = true) :
    (p.request c (some a) owner).records = (owner a p).part.records := by
  rw [p.request_taken c a owner h hst]; simp

/-- An event of a running part leaves the records as its block wrote them. -/
theorem Part.event_records (p : Part) (g : Part → Part) (h : p.power = .running) :
    (p.event g).records = (g p).records := by
  simp [Part.event, h]

/-- An event of a part that does not run changes nothing. -/
theorem Part.event_stopped (p : Part) (g : Part → Part) (h : p.power ≠ .running) : p.event g = p := by
  simp [Part.event, h]

/-- An event leaves the answer buffer as its block leaves it. -/
theorem Part.event_answer (p : Part) (g : Part → Part) (h : p.power = .running) : (p.event g).answer = (g p).answer := by
  simp [Part.event, h]

/-! ### From a request or an event to a statement -/

/-- A body that does not fit is answered BAD_VALUE, and nothing else changes. -/
theorem answers_of_none (c : Instr) (s : State) (code : Byte) (owner : α → Part → Reply)
    (hx : exec c s = s.become (s.part.request code none owner)) (hr : s.runs) : Answers c s code .badValue [] := by
  rw [Answers, hx, s.part.request_none code owner hr]; rfl

/-- A refused request changes nothing but the answer buffer. -/
theorem answers_of_refused (c : Instr) (s : State) (code : Byte) (a : α) (owner : α → Part → Reply) (st : Status)
    (hx : exec c s = s.become (s.part.request code (some a) owner)) (hr : s.runs) (ho : owner a s.part = s.part.refuse st)
    (hst : st.taken = false) : Answers c s code st [] := by
  rw [Answers, hx, s.part.request_refused code a owner st hr ho hst]; rfl

/-- A taken request leaves its owner's records and answer. -/
theorem answersWith_of_taken (c : Instr) (s : State) (code : Byte) (a : α) (owner : α → Part → Reply) (r : Reply)
    (hx : exec c s = s.become (s.part.request code (some a) owner)) (hr : s.runs) (ho : owner a s.part = r)
    (hst : r.status.taken = true) : AnswersWith c s code r.status r.body r.part.records := by
  refine ⟨s.part.request code (some a) owner, hx, ?_, ?_⟩
  · rw [s.part.request_taken code a owner hr (by rw [ho]; exact hst), ho]; rfl
  · rw [s.part.request_taken_records code a owner hr (by rw [ho]; exact hst), ho]

/-- An event leaves its block's records, and the answer where the block leaves it; `q` is the part as the block leaves it. -/
theorem leaves_of_event (c : Instr) (s : State) (g : Part → Part) (q : Part)
    (hx : exec c s = s.become (s.part.event g)) (hr : s.runs) (hg : g s.part = q) (ha : q.answer = s.part.answer) :
    Leaves c s q.records := by
  subst hg
  exact ⟨s.part.event g, hx, by rw [s.part.event_answer g hr, ha], s.part.event_records g hr⟩

/-! ### The check word and the request in hand -/

@[simp] theorem crc16_nil : crc16 [] = 0xFFFF#16 := rfl

/-- A byte more enters the check word (R177). -/
theorem crc16_append (l : List Byte) (b : Byte) : crc16 (l ++ [b]) = crcByte (crc16 l) b := by
  simp [crc16, List.foldl_append]

/-- A part that does not run has no request in hand (R190). -/
theorem State.inHand_stopped (s : State) (h : s.part.power ≠ .running) : s.inHand = none := by
  simp [State.inHand, h]

/-- With no command waiting there is no request in hand (R176). -/
theorem State.inHand_empty (s : State) (h : s.pending = []) : s.inHand = none := by
  simp [State.inHand, h]

/-! ### One byte, two bytes -/

@[simp] theorem bigEndian_nil : bigEndian [] = 0 := rfl

/-- A number of one byte reads back. -/
theorem readNat_byte (n : Nat) (h : n < 256) (l : List Byte) : readNat 1 (byte n ++ l) = some (n, l) := by
  simp [readNat, byte, bigEndian, Nat.mod_eq_of_lt h]

theorem parseByte_byte (n : Nat) (h : n < 256) : parseByte (byte n) = some n := by
  have := readNat_byte n h []
  simp only [List.append_nil] at this
  simp [parseByte, this, whole]

/-- A number of two bytes reads back. -/
theorem readNat_two (v : Nat) (h : v < 65536) (l : List Byte) : readNat 2 (bytes 2 v ++ l) = some (v, l) := by
  have h2 : v / 256 < 256 := by omega
  simp [readNat, bytes, List.range_succ, bigEndian]
  omega

/-- A number of three bytes reads back. -/
theorem readNat_three (v : Nat) (h : v < 16777216) (l : List Byte) : readNat 3 (bytes 3 v ++ l) = some (v, l) := by
  simp [readNat, bytes, List.range_succ, bigEndian]
  omega

theorem readCode_byte {α : Type} (code : Nat → Option α) (n : Nat) (h : n < 256) (l : List Byte) :
    readCode code (byte n ++ l) = (code n).map (fun a => (a, l)) := by
  simp only [readCode, readNat_byte n h l]
  cases hc : code n <;> simp [hc]

/-- READ of a kind other than BOOKING. -/
theorem parseRead_other (c i : Nat) (k : RecordKind) (hc : c < 256) (hi : i < 65536) (hk : kindOf c = some k)
    (hb : k ≠ .booking) : parseRead (byte c ++ bytes 2 i) = some { kind := k, index := i, page := 0 } := by
  have h2 := readNat_two i hi []
  simp only [List.append_nil] at h2
  simp [parseRead, readCode_byte _ c hc, hk, h2, hb, readIf, whole]

/-- READ of a booking's page. -/
theorem parseRead_booking (h page : Nat) (hh : h < 65536) (hp : page < 256) :
    parseRead (byte 4 ++ (bytes 2 h ++ byte page)) = some { kind := .booking, index := h, page := page } := by
  have h3 := readNat_byte page hp []
  simp only [List.append_nil] at h3
  simp [parseRead, readCode_byte _ 4 (by decide), kindOf, readNat_two h hh, h3, readIf, whole]

theorem parseFind_eq (c i : Nat) (k : RecordKind) (hc : c < 256) (hi : i < 256) (hk : kindOf c = some k) :
    parseFind (byte c ++ byte i) = some (k, i) := by
  have h2 := readNat_byte i hi []
  simp only [List.append_nil] at h2
  simp [parseFind, readCode_byte _ c hc, hk, h2, whole]

/-- A notice set reads back; a number beyond its nine bits does not fit (R187, R188). -/
theorem readSet_eq (v : Nat) (h : v < 65536) (l : List Byte) :
    readSet (bytes 2 v ++ l) = if v < 512 then some (BitVec.ofNat 9 v, l) else none := by
  simp [readSet, readNat_two v h]

end Sys2Proof.Machine
end

