-- ==== Sys2Proof/Laws/Bookings.lean ====
section
/-! SUPPORT. Booking records by handle and slot, time events that find nothing to do, and the wake test of an AWAKE table. -/

namespace Sys2Proof.Machine

/-! ### Slots and handles -/

/-- The slot of a handle is one of the 48 and holds the record with that handle (R21). -/
theorem Part.slotOf_some (p : Part) (h k : Nat) (hk : p.slotOf h = some k) :
    1 ≤ k ∧ k ≤ 48 ∧ ∃ b, p.slotAt k = some b ∧ b.handle = h := by
  unfold Part.slotOf at hk
  have hm := List.mem_of_find?_eq_some hk
  have hp := List.find?_some hk
  simp only [slotNumbers, List.mem_range'_1] at hm
  refine ⟨by omega, by omega, ?_⟩
  cases hb : p.slotAt k with
  | none => simp [hb, hasHandle] at hp
  | some b => exact ⟨b, rfl, by simpa [hb, hasHandle] using hp⟩

theorem Part.bookingOf_slot (p : Part) (h k : Nat) (hk : p.slotOf h = some k) : p.bookingOf h = p.slotAt k := by
  simp [Part.bookingOf, hk]

/-- The record of a handle has that handle. -/
theorem Part.bookingOf_handle (p : Part) (h : Nat) (b : Booking) (hb : p.bookingOf h = some b) : b.handle = h := by
  cases hk : p.slotOf h with
  | none => simp [Part.bookingOf, hk] at hb
  | some k =>
    obtain ⟨_, _, c, hc, hh⟩ := p.slotOf_some h k hk
    rw [p.bookingOf_slot h k hk, hc] at hb
    cases hb; exact hh

theorem Part.bookingOf_some (p : Part) (h : Nat) (b : Booking) (hb : p.bookingOf h = some b) :
    ∃ k, p.slotOf h = some k ∧ p.slotAt k = some b := by
  cases hk : p.slotOf h with
  | none => simp [Part.bookingOf, hk] at hb
  | some k => exact ⟨k, rfl, by rw [← p.bookingOf_slot h k hk]; exact hb⟩

/-- A write by handle is a write of its slot. -/
theorem Part.updBooking_slot (p : Part) (h k : Nat) (g : Booking → Booking) (hk : p.slotOf h = some k) :
    p.updBooking h g = p.updSlot k g := by
  simp [Part.updBooking, hk]

theorem Part.slotAt_some (p : Part) (k : Nat) (b : Booking) (h : p.slotAt k = some b) : nth p.slots k = some (some b) := by
  unfold Part.slotAt at h
  cases hn : nth p.slots k with
  | none => simp [hn] at h
  | some x => simp [hn] at h; rw [h]

theorem Part.slotAt_updSlot_same (p : Part) (k : Nat) (g : Booking → Booking) (b : Booking) (h : p.slotAt k = some b) :
    (p.updSlot k g).slotAt k = some (g b) := by
  simp [Part.slotAt, nth_upd_same, p.slotAt_some k b h]

theorem Part.slotAt_updSlot_ne (p : Part) (k j : Nat) (g : Booking → Booking) (h : k ≠ j) :
    (p.updSlot k g).slotAt j = p.slotAt j := by
  simp [Part.slotAt, nth_upd_ne _ _ _ _ h]

/-- A record written by handle, as a write of the list of slots. -/
theorem Part.updBooking_slots (p : Part) (h k : Nat) (g : Booking → Booking) (b : Booking) (hk : p.slotOf h = some k)
    (hb : p.slotAt k = some b) : (p.updBooking h g).slots = upd p.slots k (fun _ => some (g b)) := by
  rw [p.updBooking_slot h k g hk, Part.updSlot_slots]
  exact upd_congr _ _ _ _ (some b) (p.slotAt_some k b hb) rfl

/-- A write of one record changes nothing but the slots. -/
theorem Part.updBooking_eq (p : Part) (h k : Nat) (g : Booking → Booking) (b : Booking) (hk : p.slotOf h = some k)
    (hb : p.slotAt k = some b) : p.updBooking h g = { p with slots := upd p.slots k (fun _ => some (g b)) } := by
  have := p.updBooking_slots h k g b hk hb
  rw [p.updBooking_slot h k g hk] at this ⊢
  simp only [Part.updSlot] at this ⊢
  rw [this]

/-- A write that keeps a record's handle keeps where every handle is found. -/
theorem Part.slotOf_updSlot (p : Part) (k h : Nat) (g : Booking → Booking)
    (hg : ∀ b, p.slotAt k = some b → (g b).handle = b.handle) : (p.updSlot k g).slotOf h = p.slotOf h := by
  have e : ∀ j, hasHandle h ((p.updSlot k g).slotAt j) = hasHandle h (p.slotAt j) := by
    intro j
    by_cases hk : k = j
    · subst hk
      cases hb : p.slotAt k with
      | none =>
        have : (p.updSlot k g).slotAt k = none := by
          simp only [Part.slotAt, Part.updSlot_slots, nth_upd_same] at hb ⊢
          cases hn : nth p.slots k with
          | none => rfl
          | some x => simp [hn] at hb; simp [hb]
        rw [this]
      | some b => rw [Part.slotAt_updSlot_same _ _ _ b hb]; simp [hasHandle, hg b hb]
    · rw [Part.slotAt_updSlot_ne _ _ _ _ hk]
  simp [Part.slotOf, e]

/-! ### Tasks that find nothing to do -/

/-- Tasks that find nothing to do at these records leave the records. -/
theorem runFuel_idle (r : Records) (ts : List Task) (h : ∀ q : Part, q.records = r → ∀ t ∈ ts, q.doTask t = (q, [])) :
    ∀ (k : Nat) (p : Part), p.records = r → (runFuel k ts p).records = r := by
  induction ts with
  | nil => intro k p hp; cases k <;> exact hp
  | cons t ts ih =>
    intro k p hp
    cases k with
    | zero => exact hp
    | succ k =>
      simp only [runFuel, h p hp t (List.mem_cons_self ..), List.nil_append]
      exact ih (fun q hq t' ht' => h q hq t' (List.mem_cons_of_mem _ ht')) k _ (by rw [Part.follow_records, hp])

theorem Part.runTasks_idle (p : Part) (ts : List Task)
    (h : ∀ q : Part, q.records = p.records → ∀ t ∈ ts, q.doTask t = (q, [])) : (p.runTasks ts).records = p.records :=
  runFuel_idle p.records ts h _ p rfl

/-- The time events of a booking whose occupation start lies ahead do nothing (R26, R27). -/
theorem Part.timeEvents_ahead (p : Part) (h : Nat)
    (hb : ∀ b, p.bookingOf h = some b → b.state = .ended ∨
      (p.clock.minute < b.occStart ∧ p.clock.minute < b.startMinute ∧ p.clock.minute < b.occEnd)) :
    ∀ t ∈ timeEvents h, p.doTask t = (p, []) := by
  intro t ht
  cases hk : p.bookingOf h with
  | none =>
    simp only [timeEvents, List.mem_cons, List.not_mem_nil, or_false] at ht
    rcases ht with rfl | rfl | rfl <;> simp [Part.doTask, Part.takeOccStart, Part.takeStart, Part.takeEnd, hk]
  | some b =>
    simp only [timeEvents, List.mem_cons, List.not_mem_nil, or_false] at ht
    rcases hb b hk with he | ⟨h1, h2, h3⟩
    · rcases ht with rfl | rfl | rfl <;> simp [Part.doTask, Part.takeOccStart, Part.takeStart, Part.takeEnd, hk, he]
    · have e1 : ¬ b.occStart ≤ p.clock.minute := by omega
      have e2 : ¬ b.startMinute ≤ p.clock.minute := by omega
      have e3 : ¬ b.occEnd ≤ p.clock.minute := by omega
      rcases ht with rfl | rfl | rfl <;> simp [Part.doTask, Part.takeOccStart, Part.takeStart, Part.takeEnd, hk, e1, e2, e3]

/-- With every booking ENDED the evaluation of time events changes no record. -/
theorem Part.evalTimes_idle (p : Part) (h : ∀ k b, p.slotAt k = some b → b.state = .ended) :
    p.evalTimes.records = p.records := by
  unfold Part.evalTimes
  split
  · refine p.runTasks_idle _ (fun q hq t ht => ?_)
    simp only [Part.allTimeEvents, List.mem_flatMap] at ht
    obtain ⟨hd, _, ht⟩ := ht
    refine q.timeEvents_ahead hd (fun b hb => ?_) t ht
    obtain ⟨k, _, hk⟩ := q.bookingOf_some hd b hb
    have hs : q.slots = p.slots := congrArg Records.slots hq
    exact Or.inl (h k b (by rw [Part.slotAt, ← hs]; exact hk))
  · rfl

/-! ### Waking -/

@[simp] theorem TableState.dark_awake : TableState.awake.dark = false := rfl

/-- A wake cause at an AWAKE table has no effect (R172). -/
theorem Part.wake_awake (p : Part) (c : WakeCause) (h : p.control.tableState = .awake) : p.wake c = p := by
  simp [Part.wake, h]

theorem Part.dueTest_awake (p : Part) (h : p.control.tableState = .awake) : p.dueTest = p := by
  unfold Part.dueTest
  split
  · exact p.wake_awake _ h
  · rfl

/-- With every booking ENDED no booking is due. -/
theorem Part.dueTest_idle (p : Part) (h : ∀ k b, p.slotAt k = some b → b.state = .ended) : p.dueTest = p := by
  unfold Part.dueTest
  have hn : p.slots.any p.isDue = false := by
    rw [List.any_eq_false]
    intro x hx
    obtain ⟨i, hi⟩ := List.mem_iff_getElem?.mp hx
    cases x with
    | none => simp [Part.isDue]
    | some b =>
      have hs : p.slotAt (i + 1) = some b := by simp [Part.slotAt, nth, hi]
      simp [Part.isDue, h _ _ hs]
  simp [hn]

/-! ### Bumps -/

/-- Without AD_HOC bookings no booking is bumped (R31). -/
theorem Part.bumpAll_none (p : Part) (run : ZoneRun) (a e : Nat) (h : ∀ k b, p.slotAt k = some b → b.origin = .host) :
    p.bumpAll run a e = p := by
  have : p.toBump run a e = [] := by
    have hf : slotNumbers.filter (fun k => bumpedBy run a e (p.slotAt k)) = [] := by
      rw [List.filter_eq_nil_iff]
      intro k _
      cases hb : p.slotAt k with
      | none => simp [bumpedBy]
      | some b => simp [bumpedBy, h k b hb]
    simp [Part.toBump, hf]
  simp [Part.bumpAll, this]

@[simp] theorem Part.touchBooking_records (p : Part) (h : Nat) : (p.touchBooking h).records = p.records := by
  unfold Part.touchBooking; split <;> rfl

/-- A table of one booking is one where no threshold of another does anything (R26). -/
theorem Part.onlyOneMoves_of_onlyBooking (p : Part) (k : Nat) (b : Booking) (m : Nat) (h : p.onlyBooking k b) :
    p.onlyOneMoves k b m :=
  ⟨h.1, h.2.1, fun j c hc hj => absurd (h.2.2 j c hc) hj⟩

end Sys2Proof.Machine
end

