-- ==== Sys2Proof/Laws/Engines.lean ====
section
/-! SUPPORT. What the end of a step does to a segment engine: nothing to one that does not run, a longer urgent list to one
with an exchange on its line, the walk of a request, and an exchange taken by one that is free. -/

namespace Sys2Proof.Machine

/-- An engine with its urgent list put aside. -/
def Engine.bare (e : Engine) : Engine := { e with urgent := [] }

/-- An engine without what serving an exchange writes. -/
def Engine.still (e : Engine) : Engine :=
  { e with line := none, urgent := [], pointer := 0, probeDue := [], blankFirst := none }

/-- Owners have asked for exchanges: the urgent list alone may differ, and only of a RUNNING engine. -/
def Engine.asked (a b : Engine) : Prop := b.bare = a.bare ∧ (a.state ≠ .running → b = a)

theorem Engine.asked_refl (a : Engine) : a.asked a := ⟨rfl, fun _ => rfl⟩

theorem Engine.state_of_bare {a b : Engine} (h : b.bare = a.bare) : b.state = a.state := by
  have := congrArg Engine.state h; exact this
theorem Engine.line_of_bare {a b : Engine} (h : b.bare = a.bare) : b.line = a.line := by
  have := congrArg Engine.line h; exact this
theorem Engine.held_of_bare {a b : Engine} (h : b.bare = a.bare) : b.held = a.held := by
  have := congrArg Engine.held h; exact this
theorem Engine.still_of_bare {a b : Engine} (h : b.bare = a.bare) : b.still = a.still := by
  have := congrArg Engine.still h; exact this

theorem Engine.state_of_still {a b : Engine} (h : b.still = a.still) : b.state = a.state := by
  have := congrArg Engine.state h; exact this
theorem Engine.scope_of_still {a b : Engine} (h : b.still = a.still) : b.scope = a.scope := by
  have := congrArg Engine.scope h; exact this
theorem Engine.roles_of_still {a b : Engine} (h : b.still = a.still) : b.roles = a.roles := by
  have := congrArg Engine.roles h; exact this
theorem Engine.walk_of_still {a b : Engine} (h : b.still = a.still) : b.walk = a.walk := by
  have := congrArg Engine.walk h; exact this
theorem Engine.unitsFound_of_still {a b : Engine} (h : b.still = a.still) : b.unitsFound = a.unitsFound := by
  have := congrArg Engine.unitsFound h; exact this
theorem Engine.unitsParked_of_still {a b : Engine} (h : b.still = a.still) : b.unitsParked = a.unitsParked := by
  have := congrArg Engine.unitsParked h; exact this
theorem Engine.walkOverflow_of_still {a b : Engine} (h : b.still = a.still) : b.walkOverflow = a.walkOverflow := by
  have := congrArg Engine.walkOverflow h; exact this
theorem Engine.conflicts_of_still {a b : Engine} (h : b.still = a.still) : b.conflicts = a.conflicts := by
  have := congrArg Engine.conflicts h; exact this
theorem Engine.walkRequested_of_still {a b : Engine} (h : b.still = a.still) : b.walkRequested = a.walkRequested := by
  have := congrArg Engine.walkRequested h; exact this
theorem Engine.held_of_still {a b : Engine} (h : b.still = a.still) : b.held = a.held := by
  have := congrArg Engine.held h; exact this
theorem Engine.wakeLine_of_still {a b : Engine} (h : b.still = a.still) : b.wakeLine = a.wakeLine := by
  have := congrArg Engine.wakeLine h; exact this
theorem Engine.scope_of_bare {a b : Engine} (h : b.bare = a.bare) : b.scope = a.scope := by
  have := congrArg Engine.scope h; exact this
theorem Engine.roles_of_bare {a b : Engine} (h : b.bare = a.bare) : b.roles = a.roles := by
  have := congrArg Engine.roles h; exact this
theorem Engine.walk_of_bare {a b : Engine} (h : b.bare = a.bare) : b.walk = a.walk := by
  have := congrArg Engine.walk h; exact this
theorem Engine.unitsFound_of_bare {a b : Engine} (h : b.bare = a.bare) : b.unitsFound = a.unitsFound := by
  have := congrArg Engine.unitsFound h; exact this
theorem Engine.unitsParked_of_bare {a b : Engine} (h : b.bare = a.bare) : b.unitsParked = a.unitsParked := by
  have := congrArg Engine.unitsParked h; exact this
theorem Engine.walkOverflow_of_bare {a b : Engine} (h : b.bare = a.bare) : b.walkOverflow = a.walkOverflow := by
  have := congrArg Engine.walkOverflow h; exact this
theorem Engine.conflicts_of_bare {a b : Engine} (h : b.bare = a.bare) : b.conflicts = a.conflicts := by
  have := congrArg Engine.conflicts h; exact this
theorem Engine.walkRequested_of_bare {a b : Engine} (h : b.bare = a.bare) : b.walkRequested = a.walkRequested := by
  have := congrArg Engine.walkRequested h; exact this

theorem Engine.asked_trans {a b c : Engine} (h : a.asked b) (k : b.asked c) : a.asked c := by
  refine ⟨k.1.trans h.1, fun hs => ?_⟩
  have hb : b.state ≠ .running := by rw [Engine.state_of_bare h.1]; exact hs
  rw [k.2 hb, h.2 hs]

theorem Part.requestUrgent_asked (p : Part) (a seg : Segment) (pos : Nat) :
    (p.engine seg).asked ((p.requestUrgent a pos).engine seg) := by
  unfold Part.requestUrgent
  split
  · next h =>
    by_cases e : a = seg
    · subst e
      rw [Part.engine_updEngine_same]
      exact ⟨rfl, fun hs => absurd h.1 hs⟩
    · rw [Part.engine_updEngine_ne _ _ _ _ e]; exact Engine.asked_refl _
  · exact Engine.asked_refl _

theorem Part.requestSeat_asked (p : Part) (n : Nat) (seg : Segment) :
    (p.engine seg).asked ((p.requestSeat n).engine seg) := p.requestUrgent_asked _ _ _

theorem Part.requestDisplay_asked (p : Part) (d : Nat) (seg : Segment) :
    (p.engine seg).asked ((p.requestDisplay d).engine seg) := by
  unfold Part.requestDisplay
  split
  · exact Engine.asked_refl _
  · exact p.requestUrgent_asked _ _ _

theorem foldl_asked {α : Type} (seg : Segment) (f : Part → α → Part)
    (h : ∀ (p : Part) (a : α), (p.engine seg).asked ((f p a).engine seg)) (l : List α) :
    ∀ p : Part, (p.engine seg).asked ((l.foldl f p).engine seg) := by
  induction l with
  | nil => intro p; exact Engine.asked_refl _
  | cons a l ih => intro p; exact Engine.asked_trans (h p a) (ih _)

theorem Part.syncSeats_asked (old p : Part) (seg : Segment) :
    (p.engine seg).asked ((old.syncSeats p).engine seg) := by
  have h0 : (old.unconfirm p).engine seg = p.engine seg := by cases seg <;> rfl
  rw [← h0]
  refine foldl_asked seg _ (fun q n => ?_) _ _
  split
  · exact q.requestSeat_asked _ _
  · exact Engine.asked_refl _

theorem Part.recomputeAll_asked (p : Part) (seg : Segment) :
    (p.engine seg).asked (p.recomputeAll.engine seg) := by
  unfold Part.recomputeAll
  have h0 : ({ p with displays := p.displays.map p.recomputed } : Part).engine seg = p.engine seg := by cases seg <;> rfl
  rw [← h0]
  refine foldl_asked seg _ (fun q n => ?_) _ _
  split
  · exact q.requestDisplay_asked _ _
  · exact Engine.asked_refl _

@[simp] theorem Part.noteChanges_engine (old p : Part) (seg : Segment) : (old.noteChanges p).engine seg = p.engine seg := by
  cases seg <;> rfl

/-- Between the walks taken and the engines' next exchanges, owners only ask. -/
theorem Part.follow_asked (old p : Part) (seg : Segment) :
    (p.engine seg).asked ((old.follow p).engine seg) := by
  rw [Part.follow, Part.noteChanges_engine]
  exact Engine.asked_trans (old.syncSeats_asked p seg) (Part.recomputeAll_asked _ seg)

/-! ### The engines' next exchanges -/

theorem Part.send_engine_ne (p : Part) (a seg : Segment) (x : Exchange) (h : a ≠ seg) :
    (p.send a x).engine seg = p.engine seg := Part.engine_updEngine_ne _ _ _ _ h
theorem Part.setProbeDue_engine_ne (p : Part) (a seg : Segment) (pos : Nat) (h : a ≠ seg) :
    (p.setProbeDue a pos).engine seg = p.engine seg := Part.engine_updEngine_ne _ _ _ _ h

theorem Part.serveRound_engine_ne (p : Part) (a seg : Segment) (h : a ≠ seg) :
    (p.serveRound a).engine seg = p.engine seg := by
  unfold Part.serveRound
  repeat' split
  all_goals try dsimp only
  all_goals simp [Part.send_engine_ne _ _ _ _ h, Part.setProbeDue_engine_ne _ _ _ _ h, Part.engine_updEngine_ne _ _ _ _ h]

theorem Part.serveNext_engine_ne (p : Part) (a seg : Segment) (h : a ≠ seg) :
    (p.serveNext a).engine seg = p.engine seg := by
  unfold Part.serveNext
  split <;> simp [Part.send_engine_ne _ _ _ _ h, Part.serveRound_engine_ne _ _ _ h, Part.engine_updEngine_ne _ _ _ _ h]

theorem Part.serveBlank_engine_ne (p : Part) (seg : Segment) (h : Segment.wall ≠ seg) :
    p.serveBlank.engine seg = p.engine seg := by
  unfold Part.serveBlank
  split <;> simp [Part.send_engine_ne _ _ _ _ h, Part.engine_updEngine_ne _ _ _ _ h]

theorem Part.kick_engine_ne (p : Part) (a seg : Segment) (h : a ≠ seg) : (p.kick a).engine seg = p.engine seg := by
  unfold Part.kick
  repeat' split
  · exact p.serveBlank_engine_ne seg h
  · rfl
  · rfl
  · exact p.serveNext_engine_ne a seg h
  · rfl

/-- An engine that does not run, is held, or has an exchange on its line takes none. -/
theorem Part.kick_engine_busy (p : Part) (seg : Segment)
    (h : (p.engine seg).state ≠ .running ∨ (p.engine seg).line ≠ none ∨ (p.engine seg).held = true) : p.kick seg = p := by
  unfold Part.kick
  rw [if_neg]
  rintro ⟨h1, h2, h3⟩
  rcases h with h | h | h
  · exact h h1
  · exact h h2
  · rw [h3] at h; exact absurd h (by simp)

theorem Part.kickAll_engine (p : Part) (seg : Segment) :
    p.kickAll.engine seg = ((match seg with
      | .left => p
      | .right => p.kick .left
      | .wall => (p.kick .left).kick .right).kick seg).engine seg := by
  cases seg
  · rw [Part.kickAll, Part.kick_engine_ne _ _ _ (by decide), Part.kick_engine_ne _ _ _ (by decide)]
  · rw [Part.kickAll, Part.kick_engine_ne _ _ _ (by decide)]
  · rfl

theorem Part.kickAll_engine_busy (p : Part) (seg : Segment)
    (h : (p.engine seg).state ≠ .running ∨ (p.engine seg).line ≠ none ∨ (p.engine seg).held = true) :
    p.kickAll.engine seg = p.engine seg := by
  rw [Part.kickAll_engine]
  have e : (match seg with
      | .left => p
      | .right => p.kick .left
      | .wall => (p.kick .left).kick .right).engine seg = p.engine seg := by
    cases seg
    · rfl
    · exact Part.kick_engine_ne _ _ _ (by decide)
    · exact (Part.kick_engine_ne _ _ _ (by decide)).trans (Part.kick_engine_ne _ _ _ (by decide))
  rw [Part.kick_engine_busy _ _ (by rw [e]; exact h), e]

theorem Part.serveRound_still (p : Part) (seg : Segment) : ((p.serveRound seg).engine seg).still = (p.engine seg).still := by
  unfold Part.serveRound
  repeat' split
  all_goals try dsimp only
  all_goals simp [Part.send, Part.setProbeDue, Engine.still]

theorem Part.serveNext_still (p : Part) (seg : Segment) : ((p.serveNext seg).engine seg).still = (p.engine seg).still := by
  unfold Part.serveNext
  split
  · simp [Part.send, Engine.still]
  · rw [Part.serveRound_still]; simp [Engine.still]

theorem Part.serveBlank_still (p : Part) : (p.serveBlank.engine .wall).still = (p.engine .wall).still := by
  unfold Part.serveBlank
  split <;> simp [Part.send, Engine.still]

theorem Part.kick_still (p : Part) (a seg : Segment) : ((p.kick a).engine seg).still = (p.engine seg).still := by
  by_cases h : a = seg
  · subst h
    unfold Part.kick
    repeat' split
    · exact p.serveBlank_still
    · rfl
    · rfl
    · exact p.serveNext_still a
    · rfl
  · rw [p.kick_engine_ne a seg h]

theorem Part.kickAll_still (p : Part) (seg : Segment) : (p.kickAll.engine seg).still = (p.engine seg).still := by
  simp only [Part.kickAll, Part.kick_still]

/-! ### Requested walks -/

/-- The engine of a segment whose requested walk takes effect (R151). -/
def Engine.walked (e : Engine) : Engine :=
  { e with state := .walking, walk := some walkToBegin, walkRequested := false, held := false }

theorem Part.takeWalk_engine_ne (p : Part) (a seg : Segment) (h : a ≠ seg) : (p.takeWalk a).engine seg = p.engine seg := by
  unfold Part.takeWalk
  split
  · exact Part.engine_updEngine_ne _ _ _ _ h
  · rfl

theorem Part.takeWalk_engine (p : Part) (seg : Segment) :
    (p.takeWalk seg).engine seg =
      if (p.engine seg).walkRequested = true ∧ (p.engine seg).line = none then (p.engine seg).walked else p.engine seg := by
  unfold Part.takeWalk
  split <;> simp [Engine.walked]

theorem Part.takeWalks_engine (p : Part) (seg : Segment) :
    p.takeWalks.engine seg =
      if (p.engine seg).walkRequested = true ∧ (p.engine seg).line = none then (p.engine seg).walked else p.engine seg := by
  cases seg
  · rw [Part.takeWalks, Part.takeWalk_engine_ne _ _ _ (by decide), Part.takeWalk_engine_ne _ _ _ (by decide),
      Part.takeWalk_engine]
  · rw [Part.takeWalks, Part.takeWalk_engine_ne _ _ _ (by decide), Part.takeWalk_engine,
      Part.takeWalk_engine_ne _ _ _ (by decide)]
  · rw [Part.takeWalks, Part.takeWalk_engine, Part.takeWalk_engine_ne _ _ _ (by decide),
      Part.takeWalk_engine_ne _ _ _ (by decide)]

/-! ### The end of a step -/

/-- An engine that does not run, with no walk to take, is as its block left it. -/
theorem Part.settle_engine_stopped (old p : Part) (seg : Segment) (hs : (p.engine seg).state ≠ .running)
    (hw : (p.engine seg).walkRequested = false ∨ (p.engine seg).line ≠ none) :
    (old.settle p).engine seg = p.engine seg := by
  have e0 : p.takeWalks.engine seg = p.engine seg := by
    rw [Part.takeWalks_engine, if_neg]
    rintro ⟨h1, h2⟩
    rcases hw with hw | hw
    · rw [h1] at hw; exact absurd hw (by simp)
    · exact hw h2
  have e1 := ((Part.follow_asked old p.takeWalks seg).2 (by rw [e0]; exact hs)).trans e0
  rw [Part.settle, Part.kickAll_engine_busy _ _ (Or.inl (by rw [e1]; exact hs)), e1]

/-- An engine with an exchange on its line keeps all but its urgent list. -/
theorem Part.settle_engine_onLine (old p : Part) (seg : Segment) (hl : (p.engine seg).line ≠ none) :
    ((old.settle p).engine seg).bare = (p.engine seg).bare := by
  have e0 : p.takeWalks.engine seg = p.engine seg := by
    rw [Part.takeWalks_engine, if_neg]
    rintro ⟨_, h2⟩
    exact hl h2
  have e1 := (Part.follow_asked old p.takeWalks seg).1
  rw [e0] at e1
  rw [Part.settle, Part.kickAll_engine_busy _ _ (Or.inr (Or.inl (by rw [Engine.line_of_bare e1]; exact hl))), e1]

/-- A requested walk takes effect once the line is free (R151). -/
theorem Part.settle_engine_walks (old p : Part) (seg : Segment) (hw : (p.engine seg).walkRequested = true)
    (hl : (p.engine seg).line = none) : (old.settle p).engine seg = (p.engine seg).walked := by
  have e0 : p.takeWalks.engine seg = (p.engine seg).walked := by rw [Part.takeWalks_engine, if_pos ⟨hw, hl⟩]
  have hn : (p.engine seg).walked.state ≠ .running := by simp [Engine.walked]
  have e1 := ((Part.follow_asked old p.takeWalks seg).2 (by rw [e0]; exact hn)).trans e0
  rw [Part.settle, Part.kickAll_engine_busy _ _ (Or.inl (by rw [e1]; exact hn)), e1]

/-- An engine with no walk to take keeps all but what serving an exchange writes. -/
theorem Part.settle_engine_still (old p : Part) (seg : Segment)
    (hw : (p.engine seg).walkRequested = false ∨ (p.engine seg).line ≠ none) :
    ((old.settle p).engine seg).still = (p.engine seg).still := by
  have e0 : p.takeWalks.engine seg = p.engine seg := by
    rw [Part.takeWalks_engine, if_neg]
    rintro ⟨h1, h2⟩
    rcases hw with hw | hw
    · rw [h1] at hw; exact absurd hw (by simp)
    · exact hw h2
  have e1 := (Part.follow_asked old p.takeWalks seg).1
  rw [Part.settle, Part.kickAll_still, Engine.still_of_bare e1, e0]

end Sys2Proof.Machine
end

