-- ==== Sys2Proof/Laws/Floors.lean ====
section
/-! SUPPORT. What the shared operations of the floor controller and the queue manager do, each said once. -/

namespace Sys2Proof.Machine

/-! ### A floor and a queue by number -/

theorem Part.floorAt_of_nth (p : Part) (f : Nat) (fl : Floor) (h : nth p.floors f = some fl) : p.floorAt f = fl := by
  simp [Part.floorAt, h]
theorem Part.queueAt_of_nth (p : Part) (f : Nat) (x : Queue) (h : nth p.queues f = some x) : p.queueAt f = x := by
  simp [Part.queueAt, h]
theorem Part.seatAt_of_nth (p : Part) (n : Nat) (x : Seat) (h : nth p.seats n = some x) : p.seatAt n = x := by
  simp [Part.seatAt, h]

/-- A LIVE floor is one of the pool. -/
theorem Part.nth_of_live (p : Part) (f : Nat) (h : (p.floorAt f).state = .live) : nth p.floors f = some (p.floorAt f) := by
  unfold Part.floorAt at h ⊢
  cases hn : nth p.floors f with
  | none => simp [hn, startFloor] at h
  | some x => rfl

/-! ### Requests at a floor -/

/-- The floor that takes a request, where it is LIVE, the table AWAKE, and it is not suspended or that does not matter
(R10, R175). -/
theorem Part.takingFloor_live (p : Part) (n f : Nat) (w : Bool) (ha : p.control.tableState = .awake)
    (hf : p.floorOf n = some f) (hs : (p.floorAt f).state = .live) (hw : w = true ∨ (p.floorAt f).suspended = false) :
    p.takingFloor n w = some f := by
  have : p.floorTakes f w = true := by
    rcases hw with hw | hw <;> simp [Part.floorTakes, ha, hs, hw]
  simp [Part.takingFloor, hf, this]

theorem Part.takingFloor_none (p : Part) (n : Nat) (w : Bool) (hf : p.floorOf n = none) : p.takingFloor n w = none := by
  simp [Part.takingFloor, hf]

/-- A floor that is not LIVE, or is suspended where that matters, takes no request (R10). -/
theorem Part.takingFloor_not (p : Part) (n f : Nat) (w : Bool) (hf : p.floorOf n = some f)
    (hs : (p.floorAt f).state ≠ .live ∨ (w = false ∧ (p.floorAt f).suspended = true)) : p.takingFloor n w = none := by
  have : p.floorTakes f w = false := by
    rcases hs with hs | ⟨hw, hs⟩ <;> simp [Part.floorTakes, hs] 
    simp [hw]
  simp [Part.takingFloor, hf, this]

/-! ### Openings and closes -/

theorem Part.standsOpen_of_none (p : Part) (n : Nat) (h : ∀ g, p.openEntry g n = none) : p.standsOpen n = false := by
  simp [Part.standsOpen, h]

/-- An opening may be made (R90). -/
theorem Part.mayOpen_of (p : Part) (f n : Nat) (hs : p.inService n = true) (h : ∀ g, p.openEntry g n = none)
    (ha : p.isPrivate f = false ∨ p.admitted n = true) : p.mayOpen f n = true := by
  rcases ha with ha | ha <;> simp [Part.mayOpen, hs, p.standsOpen_of_none n h, ha]

/-- An opening that may be made: the entry at the tail, the next order number, the seat out of the queue (R90). -/
theorem Part.openSeat_of (p : Part) (f n : Nat) (h : p.mayOpen f n = true) :
    p.openSeat f n =
      { p with
        floors := upd p.floors f (fun fl =>
          { fl with openOrder := wrapNext fl.openOrder, openList := fl.openList ++ [newEntry fl (p.seatAt n).role n] })
        queues := upd p.queues f (fun x => { x with entries := x.entries.filter (fun e => e.seat != n) }) } := by
  simp [Part.openSeat, h, Part.updFloor, Part.leaveQueue, Part.updQueue]

/-- An opening that may not be made changes nothing. -/
theorem Part.openSeat_not (p : Part) (f n : Nat) (h : p.mayOpen f n = false) : p.openSeat f n = p := by
  simp [Part.openSeat, h]

/-- An ordinary close of a seat that holds no priority: the entry alone goes (R91). -/
theorem Part.closeEntry_free (p : Part) (f n : Nat) (h : (p.seatAt n).priorityHeld = false) :
    p.closeEntry f n = p.dropEntry f n := by
  simp [Part.closeEntry, Part.endHold, h]

/-- A forced close of a seat that holds no priority: the entry goes and the guard is set (R91, R111). -/
theorem Part.forceClose_free (p : Part) (f n : Nat) (h : (p.seatAt n).priorityHeld = false) :
    p.forceClose f n = (p.dropEntry f n).setGuard n := by
  simp [Part.forceClose, p.closeEntry_free f n h]

/-- A floor with nothing to grant by itself stays as it is (R95). -/
theorem Part.autoGrant_idle (p : Part) (f : Nat) (h : p.grantReady f = false) : p.autoGrant f = p := by
  unfold Part.autoGrant
  generalize (p.queueAt f).entries.length = k
  cases k with
  | zero => rfl
  | succ k => simp [grantLoop, h]

/-- MODERATED, or an empty queue: no auto grant (R95). -/
theorem Part.grantReady_false (p : Part) (f : Nat) (h : (p.floorAt f).par.mode = .moderated ∨ (p.queueAt f).entries = []) :
    p.grantReady f = false := by
  rcases h with h | h <;> simp [Part.grantReady, FloorParams.grantsItself, h]

/-- Closing an entry changes only the floors: the floor seen after it. -/
theorem Part.floorAt_dropEntry (p : Part) (f n : Nat) (fl : Floor) (h : nth p.floors f = some fl) :
    (p.dropEntry f n).floorAt f = { fl with openList := fl.openList.filter (fun e => e.seat != n) } :=
  Part.floorAt_updFloor_same p f _ fl h

@[simp] theorem Part.queueAt_dropEntry (p : Part) (f n g : Nat) : (p.dropEntry f n).queueAt g = p.queueAt g := rfl
@[simp] theorem Part.seatAt_dropEntry (p : Part) (f n m : Nat) : (p.dropEntry f n).seatAt m = p.seatAt m := rfl

/-! ### The queue -/

/-- An enqueue that passes R117's tests. -/
theorem Part.enqueueSeat_of (p : Part) (f n : Nat) (c : QueueClass)
    (hl : (p.queueAt f).entries.length < (p.floorAt f).par.queueCap) (hp : 0 < p.queueFree) :
    p.enqueueSeat f n c = some (p.joinQueue f n c) := by
  simp [Part.enqueueSeat, Part.queueHasRoom, hl, hp]

/-- An enqueue that fails one of them (R117). -/
theorem Part.enqueueSeat_full (p : Part) (f n : Nat) (c : QueueClass)
    (h : (p.floorAt f).par.queueCap ≤ (p.queueAt f).entries.length ∨ p.queueFree = 0) : p.enqueueSeat f n c = none := by
  have : p.queueHasRoom f = false := by
    simp only [Part.queueHasRoom, Bool.and_eq_false_iff, decide_eq_false_iff_not]
    rcases h with h | h
    · exact Or.inl (by omega)
    · exact Or.inr (by omega)
  simp [Part.enqueueSeat, this]

end Sys2Proof.Machine
end

