-- ==== Sys2Proof/Laws/Link.lean ====
section
/-! SUPPORT. The ends of exchanges: what the engine does before the owner takes the outcome, and what a POLL changes of the
units. -/

namespace Sys2Proof.Machine

@[simp] theorem Part.countConflict_records (p : Part) (seg : Segment) (o : LinkOutcome) :
    (p.countConflict seg o).records = p.records := by
  unfold Part.countConflict; split <;> simp
@[simp] theorem Part.lineEnds_records (p : Part) (seg : Segment) (o : LinkOutcome) :
    (p.lineEnds seg o).records = p.records := by simp [Part.lineEnds]
@[simp] theorem Part.lineEnds_base (p : Part) (seg : Segment) (o : LinkOutcome) :
    (p.lineEnds seg o).base = p.base := by simp [Part.lineEnds]
@[simp] theorem Part.countConflict_seats (p : Part) (seg : Segment) (o : LinkOutcome) :
    (p.countConflict seg o).seats = p.seats := by
  unfold Part.countConflict; split
  · cases seg <;> rfl
  · rfl
@[simp] theorem Part.lineEnds_seats (p : Part) (seg : Segment) (o : LinkOutcome) :
    (p.lineEnds seg o).seats = p.seats := by
  simp only [Part.lineEnds, Part.countConflict_seats]; cases seg <;> rfl
@[simp] theorem Part.lineEnds_seatAt (p : Part) (seg : Segment) (o : LinkOutcome) (n : Nat) :
    (p.lineEnds seg o).seatAt n = p.seatAt n := by simp [Part.seatAt]

@[simp] theorem Part.lineEnds_answer (p : Part) (seg : Segment) (o : LinkOutcome) :
    (p.lineEnds seg o).answer = p.answer := Part.answer_of_base _ _ (by simp)
@[simp] theorem Part.lineEnds_displays (p : Part) (seg : Segment) (o : LinkOutcome) :
    (p.lineEnds seg o).displays = p.displays := by
  unfold Part.lineEnds Part.countConflict; split <;> cases seg <;> rfl

/-- The owner of a position moved by an outcome writes only when it is next probed. -/
@[simp] theorem Part.wallMoved_records (p : Part) (pos : Nat) (o : Presence) : (p.wallMoved pos o).records = p.records := by
  unfold Part.wallMoved; split <;> simp
@[simp] theorem Part.wallMoved_answer (p : Part) (pos : Nat) (o : Presence) : (p.wallMoved pos o).answer = p.answer := by
  unfold Part.wallMoved; split <;> rfl

/-- An exchange that has ended well leaves its line free, and nothing else of the part differs. -/
theorem Part.lineEnds_of_noConflict (p : Part) (seg : Segment) (o : LinkOutcome) (h : o ≠ .conflict) :
    p.lineEnds seg o = p.updEngine seg (fun e => { e with line := none }) := by
  simp [Part.lineEnds, Part.countConflict, h]

/-- The engine of the segment after its exchange has ended. -/
theorem Part.lineEnds_engine (p : Part) (seg : Segment) (o : LinkOutcome) :
    (p.lineEnds seg o).engine seg =
      { p.engine seg with
        line := none
        conflicts := if o = .conflict then sat 65535 ((p.engine seg).conflicts + 1) else (p.engine seg).conflicts } := by
  unfold Part.lineEnds Part.countConflict
  split
  · rw [show ∀ q : Part, (q.raise .link).engine seg = q.engine seg from fun q => by cases seg <;> rfl]
    simp
  · simp

/-- The roles of WALL are those before the exchange ended. -/
@[simp] theorem Part.lineEnds_roleAt (p : Part) (seg : Segment) (o : LinkOutcome) (pos : Nat) :
    (p.lineEnds seg o).roleAt pos = p.roleAt pos := by
  have h : (p.lineEnds seg o).wall.roles = p.wall.roles := by
    unfold Part.lineEnds Part.countConflict; split <;> cases seg <;> rfl
  simp [Part.roleAt, h]

theorem Part.lineOf_of (p : Part) (seg : Segment) (l : OnLine) (hr : p.power = .running)
    (h : (p.engine seg).line = some l) : p.lineOf seg = some l := by simp [Part.lineOf, hr, h]

theorem Part.exchangeEnds_own (p : Part) (seg : Segment) (x : Exchange) (o : LinkOutcome) (report : Part → Part) :
    p.exchangeEnds seg { exchange := x, orphan := false } o report = p.settle (report (p.lineEnds seg o)) := by
  simp [Part.exchangeEnds]

/-- An outcome is GOOD when the answer meets every condition (R152). -/
theorem outcomeOf_good (rx : Reception) (fits : Bool) :
    (outcomeOf rx fits = .good) ↔ (rx.complete && rx.checkRight && rx.kindRight && fits) = true := by
  unfold outcomeOf
  split
  · simp_all
  · next h =>
    constructor
    · intro h2; split at h2 <;> simp at h2
    · intro h2; exact absurd h2 h

theorem decide_outcomeOf_good (rx : Reception) (fits : Bool) :
    decide (outcomeOf rx fits = .good) = (rx.complete && rx.checkRight && rx.kindRight && fits) := by
  cases hb : (rx.complete && rx.checkRight && rx.kindRight && fits) with
  | true => simp [(outcomeOf_good rx fits).mpr hb]
  | false =>
    have : outcomeOf rx fits ≠ .good := fun h => by rw [(outcomeOf_good rx fits).mp h] at hb; exact absurd hb (by simp)
    simp [this]

/-- An event that has ended an exchange: its step's records and answer are those its owner left. -/
theorem leaves_of_settle (c : Instr) (s : State) (q : Part) (r : Records)
    (hx : exec c s = s.become (s.part.settle q)) (ha : q.answer = s.part.answer) (hq : q.records = r) : Leaves c s r :=
  ⟨s.part.settle q, hx, by rw [Part.settle_answer, ha], by rw [Part.settle_records, hq]⟩

/-! ### The units at a POLL -/

/-- What a write of one seat's health does to the units. -/
theorem Part.units_updHealth (p : Part) (n : Nat) (g : Health → Health) :
    (p.updSeat n (fun s => { s with health := g s.health })).base =
      { p.base with units := upd p.base.units n (fun u => { u with health := g u.health }) } := by
  have : (upd p.seats n (fun s => { s with health := g s.health })).map Seat.unit =
      upd (p.seats.map Seat.unit) n (fun u => { u with health := g u.health }) := by
    cases n with
    | zero => rfl
    | succ k =>
      apply List.ext_getElem?
      intro m
      by_cases hk : k = m
      · subst hk
        simp only [upd, List.getElem?_map, List.getElem?_modify_eq]
        cases p.seats[k]? <;> rfl
      · simp [upd, hk]
  simp only [Part.base, Part.updSeat, this]

theorem upd_upd {α : Type} (l : List α) (n : Nat) (f g : α → α) : upd (upd l n f) n g = upd l n (fun a => g (f a)) := by
  cases n with
  | zero => rfl
  | succ k =>
    apply List.ext_getElem?
    intro m
    by_cases hk : k = m
    · subst hk; simp [upd, Function.comp_def]
    · simp [upd, hk]

/-- Steps 1 to 3 of R86 move the score and the presence of the seat polled, and no other unit's. -/
theorem Part.pollMoves_base (p : Part) (n : Nat) (good echo : Bool) :
    (p.pollMoves n good echo).base =
      { p.base with
        units := upd p.base.units n (fun u =>
          { u with health := (u.health.score good).move good p.settings.presenceSettle }) } := by
  have h1 : ((p.scoreSeat n good).workOutcome n good echo).base =
      { p.base with units := upd p.base.units n (fun u => { u with health := u.health.score good }) } := by
    rw [Part.workOutcome_base, Part.scoreSeat, Part.units_updHealth p n (fun h => h.score good)]
  have hs : ((p.scoreSeat n good).workOutcome n good echo).settings = p.settings :=
    Part.settings_of_base _ (p.scoreSeat n good) (by simp)
  have h2 : (((p.scoreSeat n good).workOutcome n good echo).moveSeat n good).base =
      { p.base with
        units := upd p.base.units n (fun u =>
          { u with health := (u.health.score good).move good p.settings.presenceSettle }) } := by
    rw [Part.moveSeat, Part.presenceMoved_base,
      Part.units_updHealth _ n (fun h => h.move good ((p.scoreSeat n good).workOutcome n good echo).settings.presenceSettle), h1, hs]
    simp only [upd_upd]
  unfold Part.pollMoves
  dsimp only
  split
  · exact h2
  · rw [Part.stopHold_base, h2]

/-- The end of a POLL at its seat: the polled unit's health moves, and the rest of the base stays. -/
theorem Part.pollEnd_base (old p : Part) (n : Nat) (img : Image) (o : LinkOutcome) (up : Uplink)
    (hp : (p.seatAt n).health.presence.polled = true) :
    (old.pollEnd p n img o up).base =
      { p.base with
        units := upd p.base.units n (fun u =>
          { u with health := (u.health.score (decide (o = .good))).move (decide (o = .good)) p.settings.presenceSettle }) } := by
  unfold Part.pollEnd
  rw [if_pos hp]
  by_cases h : o = .good
  · rw [if_pos h, Part.pollGood]
    dsimp only
    rw [Part.noteChanges_base, Part.settle_base, Part.pollTakes_base, Part.follow_base, Part.pollMoves_base]
    simp [h]
  · rw [if_neg h, Part.pollFailed, Part.settle_base, Part.pollMoves_base]
    simp [h]

/-- A seat that a POLL can reach is one of the records. -/
theorem Part.nth_of_polled (p : Part) (n : Nat) (h : (p.seatAt n).health.presence.polled = true) :
    nth p.seats n = some (p.seatAt n) := by
  unfold Part.seatAt at h ⊢
  cases hn : nth p.seats n with
  | none => rw [hn] at h; exact absurd h (by decide)
  | some x => rfl

/-- A seat's unit, read from the base. -/
theorem Part.seatAt_unit (p : Part) (n : Nat) : (p.seatAt n).unit = (nth p.base.units n).getD startSeat.unit := by
  simp only [Part.seatAt, Part.base]
  cases n with
  | zero => rfl
  | succ k =>
    simp only [nth, List.getElem?_map]
    cases p.seats[k]? <;> rfl

end Sys2Proof.Machine
end

