-- ==== Sys2Proof/Laws/Screens.lean ====
section
/-! SUPPORT. What the displays show after a step: the values derived from the records, display by display. -/

namespace Sys2Proof.Machine

/-- A part with given records, and nothing else told of it. -/
def Part.ofRecords (r : Records) : Part :=
  { power := r.power, now := r.now, seats := r.seats, floors := r.floors, queues := r.queues, slots := r.slots
    lastHandle := r.lastHandle, clock := r.clock, contexts := r.contexts, partitions := r.partitions, displays := []
    ambient := r.ambient, left := startEngine 0, right := startEngine 0, wall := startEngine 0, control := r.control
    settings := r.settings, store := r.store, notices := { flags := 0, enables := r.enables, signals := r.signals }
    marks := allMarks false [], answer := startAnswer .powerOn .factory }

theorem Part.ofRecords_tagOf (p : Part) (n : Nat) : (Part.ofRecords p.records).tagOf n = p.tagOf n := by
  have : ((Part.ofRecords p.records).seatAt n).occupant = (p.seatAt n).occupant := by
    unfold Part.seatAt
    cases n with
    | zero => rfl
    | succ k =>
      simp only [Part.ofRecords, Part.records, nth, List.getElem?_map]
      cases p.seats[k]? <;> rfl
  simp only [Part.tagOf, this]

theorem Part.ofRecords_followSpeaker (p : Part) (f : Nat) :
    (Part.ofRecords p.records).followSpeaker f = p.followSpeaker f := by
  unfold Part.followSpeaker
  simp only [Part.ofRecords_tagOf]
  rfl

theorem Part.ofRecords_resolveContent (p : Part) (f : Nat) (c : Content) :
    (Part.ofRecords p.records).resolveContent f c = p.resolveContent f c := by
  unfold Part.resolveContent
  simp only [Part.ofRecords_tagOf, Part.ofRecords_followSpeaker]
  rfl

theorem Part.ofRecords_heldContent (p : Part) (d : Display) (z f : Nat) :
    (Part.ofRecords p.records).heldContent d z f = p.heldContent d z f := by
  unfold Part.heldContent
  simp only [Part.ofRecords_resolveContent]
  rfl

theorem Part.ofRecords_contentFor (p : Part) (d : Display) :
    (Part.ofRecords p.records).contentFor d = p.contentFor d := by
  unfold Part.contentFor
  simp only [Part.ofRecords_heldContent]
  rfl

theorem Part.ofRecords_recomputed (p : Part) (d : Display) : (Part.ofRecords p.records).recomputed d = p.recomputed d := by
  unfold Part.recomputed
  simp only [Part.ofRecords_contentFor]
  rfl

/-- What a recompute makes of a display depends on the records alone. -/
theorem Part.recomputed_of_records (p q : Part) (h : p.records = q.records) : p.recomputed = q.recomputed := by
  funext d
  rw [← p.ofRecords_recomputed d, h, q.ofRecords_recomputed d]

theorem Part.contentFor_of_records (p q : Part) (h : p.records = q.records) (d : Display) :
    p.contentFor d = q.contentFor d := by
  rw [← p.ofRecords_contentFor d, h, q.ofRecords_contentFor d]

@[simp] theorem Part.requestUrgent_displays (p : Part) (seg : Segment) (pos : Nat) :
    (p.requestUrgent seg pos).displays = p.displays := by
  unfold Part.requestUrgent; split
  · cases seg <;> rfl
  · rfl
@[simp] theorem Part.requestSeat_displays (p : Part) (n : Nat) : (p.requestSeat n).displays = p.displays :=
  p.requestUrgent_displays _ _
@[simp] theorem Part.requestDisplay_displays (p : Part) (d : Nat) : (p.requestDisplay d).displays = p.displays := by
  unfold Part.requestDisplay; split <;> simp

theorem Part.recomputeAll_displays (p : Part) : p.recomputeAll.displays = p.displays.map p.recomputed := by
  unfold Part.recomputeAll
  dsimp only
  rw [foldl_keeps Part.displays _ (fun s a => by split <;> simp)]

theorem Part.syncSeats_displays (old p : Part) : (old.syncSeats p).displays = p.displays := by
  unfold Part.syncSeats
  rw [foldl_keeps Part.displays _ (fun s a => by split <;> simp)]
  rfl

theorem Part.takeWalks_displays (p : Part) : p.takeWalks.displays = p.displays := by
  have h : ∀ (q : Part) (seg : Segment), (q.takeWalk seg).displays = q.displays := by
    intro q seg; unfold Part.takeWalk; split <;> simp
  simp only [Part.takeWalks, h]

theorem Part.kickAll_displays (p : Part) : p.kickAll.displays = p.displays := by
  have hs : ∀ (q : Part) (seg : Segment) (x : Exchange), (q.send seg x).displays = q.displays := fun q seg x => by
    simp [Part.send]
  have hp : ∀ (q : Part) (seg : Segment) (pos : Nat), (q.setProbeDue seg pos).displays = q.displays := fun q seg x => by
    simp [Part.setProbeDue]
  have hr : ∀ (q : Part) (seg : Segment), (q.serveRound seg).displays = q.displays := by
    intro q seg
    unfold Part.serveRound
    repeat' split
    all_goals try dsimp only
    all_goals simp [hs, hp]
  have h : ∀ (q : Part) (seg : Segment), (q.kick seg).displays = q.displays := by
    intro q seg
    unfold Part.kick
    repeat' split
    · unfold Part.serveBlank; split <;> simp [hs]
    · rfl
    · rfl
    · unfold Part.serveNext; split <;> simp [hs, hr]
    · rfl
  simp only [Part.kickAll, h]

/-- What follows a block's step recomputes every display from the records (R136, R141, R145). -/
theorem Part.follow_displays (old p : Part) : (old.follow p).displays = p.displays.map p.recomputed := by
  have h : ∀ o : Part, (o.syncSeats p).records = p.records := by simp
  rw [Part.follow, show ∀ o q : Part, (o.noteChanges q).displays = q.displays from fun _ _ => rfl, Part.recomputeAll_displays,
    Part.syncSeats_displays, Part.recomputed_of_records _ _ (h _)]

/-- So does the end of a step. -/
theorem Part.settle_displays (old p : Part) : (old.settle p).displays = p.displays.map p.recomputed := by
  rw [Part.settle, Part.kickAll_displays, Part.follow_displays, Part.takeWalks_displays,
    Part.recomputed_of_records _ _ p.takeWalks_records]

/-- What a recomputed display shows is what its record derives (R136, R145). -/
theorem Part.recomputed_shows (p : Part) (d : Display) :
    (p.recomputed d).content = p.contentFor (p.recomputed d) ∧ (p.recomputed d).level = p.levelFor (p.recomputed d) ∧
      (p.recomputed d).drive = p.driveFor (p.levelFor (p.recomputed d)) := ⟨rfl, rfl, rfl⟩

/-- Displays recomputed from the records show what their records derive. -/
theorem Part.follow_of_recomputed (p q : Part) (hr : q.records = p.records) (hd : q.displays = p.displays.map p.recomputed) :
    q.displaysFollow := by
  intro d hm
  rw [hd] at hm
  obtain ⟨e, _, rfl⟩ := List.mem_map.mp hm
  have hc : q.control = p.control := congrArg Records.control hr
  have hs : q.settings = p.settings := congrArg Records.settings hr
  have ha : q.ambient = p.ambient := congrArg Records.ambient hr
  have hl : q.levelFor (p.recomputed e) = p.levelFor (p.recomputed e) := by simp only [Part.levelFor, hc, hs, ha]
  obtain ⟨h1, h2, h3⟩ := p.recomputed_shows e
  refine ⟨?_, ?_, ?_⟩
  · rw [Part.contentFor_of_records _ _ hr]; exact h1
  · rw [hl]; exact h2
  · rw [hl]; simp only [Part.driveFor, hs]; exact h3

/-- After a step every display shows what its record derives. -/
theorem Part.settle_follow (old p : Part) : (old.settle p).displaysFollow :=
  Part.follow_of_recomputed p _ (Part.settle_records _ _) (Part.settle_displays _ _)

/-- The display of a number after a step. -/
theorem Part.settle_displayAt (old p : Part) (n : Nat) (d : Display) (h : nth p.displays n = some d) :
    (old.settle p).displayAt n = p.recomputed d := by
  have : nth ((old.settle p).displays) n = some (p.recomputed d) := by
    rw [Part.settle_displays]
    cases n with
    | zero => simp at h
    | succ k => simp only [nth, List.getElem?_map] at h ⊢; rw [h]; rfl
  simp [Part.displayAt, this]

end Sys2Proof.Machine
end

