-- ==== Sys2Proof/Laws/Side.lean ====
section
/-! SUPPORT. What the operations of floors, queues, seats and bookings never touch beside the base: the engines but for their urgent
lists, the power controller but for `idle_mark`, and the displays' units and configurations. -/

namespace Sys2Proof.Machine

/-- The power controller with `idle_mark` put aside. -/
def PowerControl.quiet (c : PowerControl) : PowerControl := { c with idleMark := 0 }

/-- The side of a part that floors, queues, seats and bookings leave alone. -/
structure Side where
  left : Engine
  right : Engine
  wall : Engine
  control : PowerControl
  displays : List DisplayCore
  deriving DecidableEq, Repr

def Part.side (p : Part) : Side :=
  { left := p.left.bare, right := p.right.bare, wall := p.wall.bare, control := p.control.quiet
    displays := p.displays.map Display.core }

theorem Part.control_of_side (p q : Part) (h : p.side = q.side) : p.control.quiet = q.control.quiet := congrArg Side.control h
theorem Part.tableState_of_side (p q : Part) (h : p.side = q.side) : p.control.tableState = q.control.tableState :=
  congrArg (fun s => s.control.tableState) h
theorem Part.engine_of_side (p q : Part) (h : p.side = q.side) (seg : Segment) : (p.engine seg).bare = (q.engine seg).bare := by
  cases seg
  · exact congrArg Side.left h
  · exact congrArg Side.right h
  · exact congrArg Side.wall h

@[simp] theorem Part.updSeat_side (p : Part) (n : Nat) (f : Seat → Seat) : (p.updSeat n f).side = p.side := rfl
@[simp] theorem Part.setGuard_side (p : Part) (n : Nat) : (p.setGuard n).side = p.side := rfl
@[simp] theorem Part.flash_side (p : Part) (n : Nat) : (p.flash n).side = p.side := rfl
@[simp] theorem Part.unconfirm_side (old p : Part) : (old.unconfirm p).side = p.side := rfl
@[simp] theorem Part.noteChanges_side (old p : Part) : (old.noteChanges p).side = p.side := rfl
@[simp] theorem Part.writeSeats_side (p : Part) (run : ZoneRun) (g : Nat → Option RosterEntry) :
    (p.writeSeats run g).side = p.side := rfl
@[simp] theorem Part.requestUrgent_side (p : Part) (seg : Segment) (pos : Nat) : (p.requestUrgent seg pos).side = p.side := by
  unfold Part.requestUrgent; split
  · cases seg <;> rfl
  · rfl

/-! ### Updates -/

@[simp] theorem Part.updFloor_side (p : Part) (n : Nat) (f : Floor → Floor) : (p.updFloor n f).side = p.side := rfl
@[simp] theorem Part.updQueue_side (p : Part) (n : Nat) (f : Queue → Queue) : (p.updQueue n f).side = p.side := rfl
@[simp] theorem Part.setContext_side (p : Part) (n : Nat) (c : Option OpContext) : (p.setContext n c).side = p.side := rfl
@[simp] theorem Part.updSlot_side (p : Part) (n : Nat) (f : Booking → Booking) : (p.updSlot n f).side = p.side := rfl
@[simp] theorem Part.raise_side (p : Part) (k : NoticeKind) : (p.raise k).side = p.side := rfl
@[simp] theorem Part.updBooking_side (p : Part) (h : Nat) (g : Booking → Booking) : (p.updBooking h g).side = p.side := by
  unfold Part.updBooking; split <;> rfl
@[simp] theorem Part.freeBooking_side (p : Part) (h : Nat) : (p.freeBooking h).side = p.side := by
  unfold Part.freeBooking; split <;> rfl
@[simp] theorem Part.touchBooking_side (p : Part) (h : Nat) : (p.touchBooking h).side = p.side := by
  unfold Part.touchBooking; split <;> rfl
@[simp] theorem Part.addFlag_side (p : Part) (h : Nat) (g : Booking → Booking) : (p.addFlag h g).side = p.side := by
  unfold Part.addFlag; split <;> simp
@[simp] theorem Part.touchFloor_side (p : Part) (f : Nat) : (p.touchFloor f).side = p.side := rfl
@[simp] theorem Part.touchSeat_side (p : Part) (n : Nat) : (p.touchSeat n).side = p.side := rfl
@[simp] theorem Part.touchTable_side (p : Part) : p.touchTable.side = p.side := rfl
@[simp] theorem Part.requestSeat_side (p : Part) (n : Nat) : (p.requestSeat n).side = p.side := p.requestUrgent_side _ _
@[simp] theorem Part.requestDisplay_side (p : Part) (d : Nat) : (p.requestDisplay d).side = p.side := by
  unfold Part.requestDisplay; split <;> simp

/-! ### Queues -/

@[simp] theorem Part.joinQueue_side (p : Part) (f n : Nat) (c : QueueClass) : (p.joinQueue f n c).side = p.side := rfl
@[simp] theorem Part.leaveQueue_side (p : Part) (f n : Nat) : (p.leaveQueue f n).side = p.side := rfl
@[simp] theorem Part.emptyQueue_side (p : Part) (f : Nat) : (p.emptyQueue f).side = p.side := rfl
@[simp] theorem Part.moveQueued_side (p : Part) (f n pos : Nat) : (p.moveQueued f n pos).side = p.side := rfl
@[simp] theorem Part.reclassQueued_side (p : Part) (f n : Nat) (c : QueueClass) : (p.reclassQueued f n c).side = p.side := rfl
@[simp] theorem Part.expireQueue_side (p : Part) (f : Nat) : (p.expireQueue f).side = p.side := by
  unfold Part.expireQueue; split <;> rfl
@[simp] theorem Part.trimQueue_side (p : Part) (f : Nat) : (p.trimQueue f).side = p.side := rfl
theorem Part.enqueueSeat_side (p q : Part) (f n : Nat) (c : QueueClass) (h : p.enqueueSeat f n c = some q) :
    q.side = p.side := by
  unfold Part.enqueueSeat at h
  split at h
  · cases h; simp
  · cases h

/-! ### Floors -/

@[simp] theorem Part.openSeat_side (p : Part) (f n : Nat) : (p.openSeat f n).side = p.side := by
  unfold Part.openSeat; split <;> simp
@[simp] theorem Part.endHold_side (p : Part) (f n : Nat) : (p.endHold f n).side = p.side := by
  unfold Part.endHold
  split
  · exact rfl
  · rfl
@[simp] theorem Part.dropEntry_side (p : Part) (f n : Nat) : (p.dropEntry f n).side = p.side := rfl
@[simp] theorem Part.closeEntry_side (p : Part) (f n : Nat) : (p.closeEntry f n).side = p.side := by
  simp [Part.closeEntry]
@[simp] theorem Part.forceClose_side (p : Part) (f n : Nat) : (p.forceClose f n).side = p.side := by
  simp [Part.forceClose]
@[simp] theorem Part.grantHead_side (p : Part) (f : Nat) : (p.grantHead f).side = p.side := by
  unfold Part.grantHead; split <;> simp
theorem grantLoop_side (k f : Nat) : ∀ p : Part, (grantLoop k f p).side = p.side := by
  induction k with
  | zero => intro p; rfl
  | succ k ih => intro p; unfold grantLoop; split <;> simp [ih]
@[simp] theorem Part.autoGrant_side (p : Part) (f : Nat) : (p.autoGrant f).side = p.side := grantLoop_side _ _ _
@[simp] theorem Part.closeThenGrant_side (p : Part) (f n : Nat) (b : Bool) : (p.closeThenGrant f n b).side = p.side := by
  unfold Part.closeThenGrant; cases b <;> simp <;> split <;> simp
@[simp] theorem Part.enqueueOrFlash_side (p : Part) (f n : Nat) : (p.enqueueOrFlash f n).side = p.side := by
  unfold Part.enqueueOrFlash
  cases h : p.enqueueSeat f n (p.seatAt n).role.queueClass with
  | none => simp
  | some q => simpa using p.enqueueSeat_side q f n _ h
@[simp] theorem Part.speakChair_side (p : Part) (f n : Nat) : (p.speakChair f n).side = p.side := by
  unfold Part.speakChair; split <;> simp
@[simp] theorem Part.speakOverflow_side (p : Part) (f n : Nat) : (p.speakOverflow f n).side = p.side := by
  unfold Part.speakOverflow; split <;> (try split) <;> simp
@[simp] theorem Part.speakClosed_side (p : Part) (f n : Nat) : (p.speakClosed f n).side = p.side := by
  unfold Part.speakClosed
  split
  · split <;> simp
  · simp
  · split
    · simp
    · next q h => simpa using p.enqueueSeat_side q f n _ h
@[simp] theorem Part.speakDelegate_side (p : Part) (f n : Nat) : (p.speakDelegate f n).side = p.side := by
  unfold Part.speakDelegate; repeat' split
  all_goals simp
@[simp] theorem Part.speakUnguarded_side (p : Part) (f n : Nat) : (p.speakUnguarded f n).side = p.side := by
  unfold Part.speakUnguarded; repeat' split
  all_goals simp
@[simp] theorem Part.speakPress_side (p : Part) (f n : Nat) : (p.speakPress f n).side = p.side := by
  unfold Part.speakPress; split <;> simp
@[simp] theorem Part.nextSpeaker_side (p : Part) (f : Nat) : (p.nextSpeaker f).side = p.side := by
  unfold Part.nextSpeaker; repeat' split
  all_goals simp
@[simp] theorem Part.nextPress_side (p : Part) (f n : Nat) : (p.nextPress f n).side = p.side := by
  unfold Part.nextPress; split <;> simp
@[simp] theorem Part.forceCloseAll_side (p : Part) (f : Nat) (l : List Nat) : (p.forceCloseAll f l).side = p.side :=
  foldl_keeps Part.side _ (fun s a => s.forceClose_side f a) l p
@[simp] theorem Part.cancelAll_side (p : Part) (f : Nat) : (p.cancelAll f).side = p.side := by simp [Part.cancelAll]
@[simp] theorem Part.cancelAllPress_side (p : Part) (f n : Nat) : (p.cancelAllPress f n).side = p.side := by
  unfold Part.cancelAllPress; split <;> simp
@[simp] theorem Part.startHold_side (p : Part) (f n : Nat) : (p.startHold f n).side = p.side := by
  unfold Part.startHold
  repeat' split
  all_goals try simp
@[simp] theorem Part.priorityPress_side (p : Part) (f n : Nat) : (p.priorityPress f n).side = p.side := by
  unfold Part.priorityPress; split <;> simp
@[simp] theorem Part.updEntry_side (p : Part) (f n : Nat) (g : OpenEntry → OpenEntry) : (p.updEntry f n g).side = p.side := rfl
@[simp] theorem Part.warnEntry_side (p : Part) (f n : Nat) : (p.warnEntry f n).side = p.side := by
  unfold Part.warnEntry; repeat' split
  all_goals simp
@[simp] theorem Part.expireEntry_side (p : Part) (f n : Nat) : (p.expireEntry f n).side = p.side := by
  unfold Part.expireEntry; repeat' split
  all_goals simp
@[simp] theorem Part.takeWarning_side (p : Part) (f n : Nat) : (p.takeWarning f n).side = p.side := by
  unfold Part.takeWarning; repeat' split
  all_goals simp
@[simp] theorem Part.settleTimers_side (p : Part) (f : Nat) (b : Bool) : (p.settleTimers f b).side = p.side := by
  unfold Part.settleTimers; split <;> simp
@[simp] theorem Part.timerChange_side (p : Part) (f : Nat) (o n : FloorParams) (b : Bool) :
    (p.timerChange f o n b).side = p.side := by
  unfold Part.timerChange
  dsimp only
  repeat' split
  all_goals simp
theorem closeExcess_side (k f : Nat) : ∀ p : Part, (closeExcess k f p).side = p.side := by
  induction k with
  | zero => intro p; rfl
  | succ k ih =>
    intro p
    unfold closeExcess
    repeat' split
    all_goals simp [ih]
@[simp] theorem Part.enforceLimit_side (p : Part) (f : Nat) : (p.enforceLimit f).side = p.side := closeExcess_side _ _ _
@[simp] theorem Part.roleOfOpen_side (p : Part) (f n : Nat) (e : OpenEntry) (r : Role) :
    (p.roleOfOpen f n e r).side = p.side := by
  unfold Part.roleOfOpen; split <;> simp
@[simp] theorem Part.roleOfQueued_side (p : Part) (f n : Nat) (r : Role) : (p.roleOfQueued f n r).side = p.side := by
  unfold Part.roleOfQueued; repeat' split
  all_goals simp
@[simp] theorem Part.roleChanged_side (p : Part) (f n : Nat) (r : Role) : (p.roleChanged f n r).side = p.side := by
  unfold Part.roleChanged
  dsimp only
  repeat' split
  all_goals simp
@[simp] theorem Part.takeSuspension_side (p : Part) (f : Nat) : (p.takeSuspension f).side = p.side := by
  unfold Part.takeSuspension
  dsimp only
  split <;> simp
@[simp] theorem Part.resume_side (p : Part) (f : Nat) : (p.resume f).side = p.side := by simp [Part.resume]
@[simp] theorem Part.evalSuspensionOf_side (p : Part) (f : Nat) : (p.evalSuspensionOf f).side = p.side := by
  unfold Part.evalSuspensionOf; repeat' split
  all_goals simp
@[simp] theorem Part.evalSuspension_side (p : Part) : p.evalSuspension.side = p.side :=
  foldl_keeps Part.side _ (fun s a => s.evalSuspensionOf_side a) _ p
@[simp] theorem Part.removeUnadmitted_side (p : Part) (f n : Nat) : (p.removeUnadmitted f n).side = p.side := by
  unfold Part.removeUnadmitted; split <;> simp
@[simp] theorem Part.enforceAdmission_side (p : Part) (f : Nat) : (p.enforceAdmission f).side = p.side := by
  unfold Part.enforceAdmission
  split
  · exact foldl_keeps Part.side _ (fun s a => s.removeUnadmitted_side f a) _ p
  · rfl

/-! ### Links, displays and the end of a step -/

theorem Part.side_displays (p : Part) (l : List Display) (h : l.map Display.core = p.displays.map Display.core) :
    ({ p with displays := l } : Part).side = p.side := by simp only [Part.side, h]
@[simp] theorem Part.recomputeAll_side (p : Part) : p.recomputeAll.side = p.side := by
  unfold Part.recomputeAll
  dsimp only
  rw [foldl_keeps Part.side _ (fun s a => by split <;> simp)]
  exact p.side_displays _ (map_map_of_keeps Display.core _ _ p.recomputed_core)
@[simp] theorem Part.restartRotations_side (p : Part) (f : Nat) : (p.restartRotations f).side = p.side :=
  p.side_displays _ (map_map_of_keeps Display.core _ _ (fun d => by split <;> rfl))
@[simp] theorem Part.idleMark_side (p : Part) (t : Nat) :
    ({ p with control := { p.control with idleMark := t } } : Part).side = p.side := rfl
@[simp] theorem Part.syncSeats_side (old p : Part) : (old.syncSeats p).side = p.side := by
  unfold Part.syncSeats
  rw [foldl_keeps Part.side _ (fun s a => by split <;> simp)]
  simp
@[simp] theorem Part.follow_side (old p : Part) : (old.follow p).side = p.side := by simp [Part.follow]
/-! ### Bookings -/

@[simp] theorem Part.requestSeats_side (p : Part) (l : List Nat) : (p.requestSeats l).side = p.side :=
  foldl_keeps Part.side _ (fun s a => s.requestSeat_side a) l p
@[simp] theorem Part.addBooking_side (p : Part) (b : Booking) : (p.addBooking b).side = p.side := by
  unfold Part.addBooking; split <;> rfl
@[simp] theorem Part.beginPush_side (p : Part) (f : Nat) (b : Booking) : (p.beginPush f b).side = p.side := by
  unfold Part.beginPush
  dsimp only
  split <;> simp
@[simp] theorem Part.beginApply_side (p : Part) (f : Nat) (b : Booking) : (p.beginApply f b).side = p.side := by
  simp [Part.beginApply]
@[simp] theorem Part.floorLive_side (p : Part) (f : Nat) : (p.floorLive f).side = p.side := by simp [Part.floorLive]
@[simp] theorem Part.dropPending_side (p : Part) (b : Booking) : (p.dropPending b).side = p.side := by
  unfold Part.dropPending; repeat' split
  all_goals simp
@[simp] theorem Part.takePending_side (p : Part) (f : Nat) (b : Booking) : (p.takePending f b).side = p.side := by
  unfold Part.takePending; repeat' split
  all_goals simp
@[simp] theorem Part.applyLive_side (p : Part) (f : Nat) (b : Booking) : (p.applyLive f b).side = p.side := by
  unfold Part.applyLive
  dsimp only
  split <;> simp
@[simp] theorem Part.completeApply_side (p : Part) (f : Nat) (b : Booking) : (p.completeApply f b).side = p.side := by
  unfold Part.completeApply
  dsimp only
  split <;> simp
@[simp] theorem Part.releaseFloor_side (p : Part) (f : Nat) : (p.releaseFloor f).side = p.side := by
  simp [Part.releaseFloor]
@[simp] theorem Part.beginCloseOut_side (p : Part) (f h : Nat) : (p.beginCloseOut f h).side = p.side := by
  simp [Part.beginCloseOut]
@[simp] theorem Part.beginClear_side (p : Part) (f : Nat) (b : Booking) : (p.beginClear f b).side = p.side := by
  simp [Part.beginClear]
@[simp] theorem Part.completeCloseOut_side (p : Part) (f : Nat) (b : Booking) : (p.completeCloseOut f b).side = p.side := by
  unfold Part.completeCloseOut
  dsimp only
  split <;> simp
@[simp] theorem Part.abortApply_side (p : Part) (f : Nat) (b : Booking) (k : Bool) : (p.abortApply f b k).side = p.side := by
  unfold Part.abortApply
  dsimp only
  split <;> simp
@[simp] theorem Part.takeOccStart_side (p : Part) (h : Nat) : (p.takeOccStart h).1.side = p.side := by
  unfold Part.takeOccStart; repeat' split
  all_goals simp
@[simp] theorem Part.takeStart_side (p : Part) (h : Nat) : (p.takeStart h).1.side = p.side := by
  unfold Part.takeStart; repeat' split
  all_goals simp
@[simp] theorem Part.takeEnd_side (p : Part) (h : Nat) : (p.takeEnd h).1.side = p.side := by
  unfold Part.takeEnd; repeat' split
  all_goals simp
@[simp] theorem Part.startApply_side (p : Part) (b : Booking) : (p.startApply b).1.side = p.side := by
  unfold Part.startApply; split <;> simp
@[simp] theorem Part.takeTry_side (p : Part) (h : Nat) : (p.takeTry h).1.side = p.side := by
  unfold Part.takeTry; repeat' split
  all_goals simp
@[simp] theorem Part.takeCloseOut_side (p : Part) (h : Nat) : (p.takeCloseOut h).1.side = p.side := by
  unfold Part.takeCloseOut; repeat' split
  all_goals simp
@[simp] theorem Part.takeAdvance_side (p : Part) (f : Nat) : (p.takeAdvance f).1.side = p.side := by
  unfold Part.takeAdvance; repeat' split
  all_goals simp
@[simp] theorem Part.takeChain_side (p : Part) (k : Nat) : (p.takeChain k).1.side = p.side := by
  unfold Part.takeChain; repeat' split
  all_goals simp
@[simp] theorem Part.doTask_side (p : Part) (t : Task) : (p.doTask t).1.side = p.side := by
  cases t <;> simp [Part.doTask]
theorem runFuel_side (k : Nat) : ∀ (ts : List Task) (p : Part), (runFuel k ts p).side = p.side := by
  induction k with
  | zero => intro ts p; cases ts <;> rfl
  | succ k ih =>
    intro ts p
    cases ts with
    | nil => rfl
    | cons t ts => simp [runFuel, ih]
@[simp] theorem Part.runTasks_side (p : Part) (ts : List Task) : (p.runTasks ts).side = p.side := runFuel_side _ _ _
@[simp] theorem Part.evalTimes_side (p : Part) : p.evalTimes.side = p.side := by
  unfold Part.evalTimes; split <;> simp
@[simp] theorem Part.bumpOne_side (occ : Nat) (p : Part) (h : Nat) : (Part.bumpOne occ p h).side = p.side := by
  simp [Part.bumpOne]
@[simp] theorem Part.bumpAll_side (p : Part) (run : ZoneRun) (a e : Nat) : (p.bumpAll run a e).side = p.side :=
  foldl_keeps Part.side _ (fun s h => Part.bumpOne_side a s h) _ p
@[simp] theorem Part.adHocPress_side (p : Part) (n : Nat) : (p.adHocPress n).side = p.side := by
  unfold Part.adHocPress; repeat' split
  all_goals simp
@[simp] theorem Part.workFailed_side (p : Part) (c : OpContext) : (p.workFailed c).side = p.side := by
  unfold Part.workFailed; split <;> simp
@[simp] theorem Part.afterAttempt_side (p : Part) (c : OpContext) (n : Nat) : (p.afterAttempt c n).side = p.side := by
  unfold Part.afterAttempt; repeat' split
  all_goals simp
@[simp] theorem Part.workOutcome_side (p : Part) (n : Nat) (g e : Bool) : (p.workOutcome n g e).side = p.side := by
  unfold Part.workOutcome; repeat' split
  all_goals simp
@[simp] theorem Part.workSkipped_side (p : Part) (c : OpContext) (n : Nat) : (p.workSkipped c n).side = p.side := by
  unfold Part.workSkipped; repeat' split
  all_goals simp
@[simp] theorem Part.workLost_side (p : Part) (n : Nat) : (p.workLost n).side = p.side := by
  unfold Part.workLost; repeat' split
  all_goals simp

/-! ### Loss of a seat and a walk's report -/

@[simp] theorem Part.floorLoses_side (p : Part) (f n : Nat) : (p.floorLoses f n).side = p.side := by
  unfold Part.floorLoses
  dsimp only
  split <;> simp
@[simp] theorem Part.loseSeat_side (p : Part) (n : Nat) : (p.loseSeat n).side = p.side := by
  unfold Part.loseSeat; split <;> simp
@[simp] theorem Part.stopHold_side (p : Part) (n : Nat) : (p.stopHold n).side = p.side := by
  unfold Part.stopHold; split <;> simp
@[simp] theorem Part.admissionLost_side (p : Part) (f n : Nat) : (p.admissionLost f n).side = p.side := by
  unfold Part.admissionLost
  dsimp only
  split <;> simp
@[simp] theorem Part.loseByWalk_side (p : Part) (n : Nat) (x : Presence) : (p.loseByWalk n x).side = p.side := by
  unfold Part.loseByWalk; split <;> simp
@[simp] theorem Part.walkSeat_side (p : Part) (n : Nat) (u : Option UnitReport) : (p.walkSeat n u).side = p.side := by
  unfold Part.walkSeat; repeat' split
  all_goals simp
@[simp] theorem Part.reportSeats_side (p : Part) (seg : Segment) (w : WalkContext) :
    (p.reportSeats seg w).side = p.side := foldl_keeps Part.side _ (fun q _ => q.walkSeat_side _ _) _ p

end Sys2Proof.Machine
end

