-- ==== Sys2Proof/Laws/Shape.lean ====
section
/-! SUPPORT. What no operation changes of the lists of a part: how many records and how many marks there are of each kind. -/

namespace Sys2Proof.Machine

@[simp] theorem Part.updSeat_shape (p : Part) (n : Nat) (f : Seat → Seat) : (p.updSeat n f).shape = p.shape := by simp [Part.shape, Part.updSeat]
@[simp] theorem Part.setGuard_shape (p : Part) (n : Nat) : (p.setGuard n).shape = p.shape := by simp [Part.shape, Part.setGuard]
@[simp] theorem Part.flash_shape (p : Part) (n : Nat) : (p.flash n).shape = p.shape := by simp [Part.shape, Part.flash]
@[simp] theorem Part.unconfirm_shape (old p : Part) : (old.unconfirm p).shape = p.shape := by simp [Part.shape, Part.unconfirm]
@[simp] theorem Part.noteChanges_shape (old p : Part) : (old.noteChanges p).shape = p.shape := by
  simp [Part.shape, Part.noteChanges, Part.newMarks, changedMarks]
@[simp] theorem Part.writeSeats_shape (p : Part) (run : ZoneRun) (g : Nat → Option RosterEntry) :
    (p.writeSeats run g).shape = p.shape := by simp [Part.shape, Part.writeSeats]
@[simp] theorem Part.requestUrgent_shape (p : Part) (seg : Segment) (pos : Nat) : (p.requestUrgent seg pos).shape = p.shape := by
  unfold Part.requestUrgent; split
  · cases seg <;> rfl
  · rfl

/-! ### Updates -/

@[simp] theorem Part.updFloor_shape (p : Part) (n : Nat) (f : Floor → Floor) : (p.updFloor n f).shape = p.shape := by simp [Part.shape, Part.updFloor]
@[simp] theorem Part.updQueue_shape (p : Part) (n : Nat) (f : Queue → Queue) : (p.updQueue n f).shape = p.shape := by simp [Part.shape, Part.updQueue]
@[simp] theorem Part.setContext_shape (p : Part) (n : Nat) (c : Option OpContext) : (p.setContext n c).shape = p.shape := by simp [Part.shape, Part.setContext]
@[simp] theorem Part.updSlot_shape (p : Part) (n : Nat) (f : Booking → Booking) : (p.updSlot n f).shape = p.shape := by simp [Part.shape, Part.updSlot]
@[simp] theorem Part.raise_shape (p : Part) (k : NoticeKind) : (p.raise k).shape = p.shape := by simp [Part.shape, Part.raise]
@[simp] theorem Part.updBooking_shape (p : Part) (h : Nat) (g : Booking → Booking) : (p.updBooking h g).shape = p.shape := by
  unfold Part.updBooking; split <;> simp [Part.shape]
@[simp] theorem Part.freeBooking_shape (p : Part) (h : Nat) : (p.freeBooking h).shape = p.shape := by
  unfold Part.freeBooking; split <;> simp [Part.shape]
@[simp] theorem Part.touchBooking_shape (p : Part) (h : Nat) : (p.touchBooking h).shape = p.shape := by
  unfold Part.touchBooking; split <;> simp [Part.shape, Part.raise]
@[simp] theorem Part.addFlag_shape (p : Part) (h : Nat) (g : Booking → Booking) : (p.addFlag h g).shape = p.shape := by
  unfold Part.addFlag; split <;> simp
@[simp] theorem Part.touchFloor_shape (p : Part) (f : Nat) : (p.touchFloor f).shape = p.shape := by
  simp [Part.shape, Part.touchFloor, Part.raise]
@[simp] theorem Part.touchSeat_shape (p : Part) (n : Nat) : (p.touchSeat n).shape = p.shape := by
  simp [Part.shape, Part.touchSeat, Part.raise]
@[simp] theorem Part.touchTable_shape (p : Part) : p.touchTable.shape = p.shape := by
  simp [Part.shape, Part.touchTable, Part.raise]
@[simp] theorem Part.requestSeat_shape (p : Part) (n : Nat) : (p.requestSeat n).shape = p.shape := p.requestUrgent_shape _ _
@[simp] theorem Part.requestDisplay_shape (p : Part) (d : Nat) : (p.requestDisplay d).shape = p.shape := by
  unfold Part.requestDisplay; split <;> simp

/-! ### Queues -/

@[simp] theorem Part.joinQueue_shape (p : Part) (f n : Nat) (c : QueueClass) : (p.joinQueue f n c).shape = p.shape := by simp [Part.shape, Part.joinQueue]
@[simp] theorem Part.leaveQueue_shape (p : Part) (f n : Nat) : (p.leaveQueue f n).shape = p.shape := by simp [Part.shape, Part.leaveQueue]
@[simp] theorem Part.emptyQueue_shape (p : Part) (f : Nat) : (p.emptyQueue f).shape = p.shape := by simp [Part.shape, Part.emptyQueue]
@[simp] theorem Part.moveQueued_shape (p : Part) (f n pos : Nat) : (p.moveQueued f n pos).shape = p.shape := by simp [Part.shape, Part.moveQueued]
@[simp] theorem Part.reclassQueued_shape (p : Part) (f n : Nat) (c : QueueClass) : (p.reclassQueued f n c).shape = p.shape := by simp [Part.shape, Part.reclassQueued]
@[simp] theorem Part.expireQueue_shape (p : Part) (f : Nat) : (p.expireQueue f).shape = p.shape := by
  unfold Part.expireQueue; split <;> simp [Part.shape]
@[simp] theorem Part.trimQueue_shape (p : Part) (f : Nat) : (p.trimQueue f).shape = p.shape := by simp [Part.shape, Part.trimQueue]
theorem Part.enqueueSeat_shape (p q : Part) (f n : Nat) (c : QueueClass) (h : p.enqueueSeat f n c = some q) :
    q.shape = p.shape := by
  unfold Part.enqueueSeat at h
  split at h
  · cases h; simp
  · cases h

/-! ### Floors -/

@[simp] theorem Part.openSeat_shape (p : Part) (f n : Nat) : (p.openSeat f n).shape = p.shape := by
  unfold Part.openSeat; split <;> simp
@[simp] theorem Part.endHold_shape (p : Part) (f n : Nat) : (p.endHold f n).shape = p.shape := by
  unfold Part.endHold
  split
  · simp [Part.shape, Part.updSeat, Part.updFloor]
  · rfl
@[simp] theorem Part.dropEntry_shape (p : Part) (f n : Nat) : (p.dropEntry f n).shape = p.shape := by simp [Part.shape, Part.dropEntry]
@[simp] theorem Part.closeEntry_shape (p : Part) (f n : Nat) : (p.closeEntry f n).shape = p.shape := by
  simp [Part.closeEntry]
@[simp] theorem Part.forceClose_shape (p : Part) (f n : Nat) : (p.forceClose f n).shape = p.shape := by
  simp [Part.forceClose]
@[simp] theorem Part.grantHead_shape (p : Part) (f : Nat) : (p.grantHead f).shape = p.shape := by
  unfold Part.grantHead; split <;> simp
theorem grantLoop_shape (k f : Nat) : ∀ p : Part, (grantLoop k f p).shape = p.shape := by
  induction k with
  | zero => intro p; rfl
  | succ k ih => intro p; unfold grantLoop; split <;> simp [ih]
@[simp] theorem Part.autoGrant_shape (p : Part) (f : Nat) : (p.autoGrant f).shape = p.shape := grantLoop_shape _ _ _
@[simp] theorem Part.closeThenGrant_shape (p : Part) (f n : Nat) (b : Bool) : (p.closeThenGrant f n b).shape = p.shape := by
  unfold Part.closeThenGrant; cases b <;> simp <;> split <;> simp
@[simp] theorem Part.enqueueOrFlash_shape (p : Part) (f n : Nat) : (p.enqueueOrFlash f n).shape = p.shape := by
  unfold Part.enqueueOrFlash
  cases h : p.enqueueSeat f n (p.seatAt n).role.queueClass with
  | none => simp
  | some q => simpa using p.enqueueSeat_shape q f n _ h
@[simp] theorem Part.speakChair_shape (p : Part) (f n : Nat) : (p.speakChair f n).shape = p.shape := by
  unfold Part.speakChair; split <;> simp
@[simp] theorem Part.speakOverflow_shape (p : Part) (f n : Nat) : (p.speakOverflow f n).shape = p.shape := by
  unfold Part.speakOverflow; split <;> (try split) <;> simp
@[simp] theorem Part.speakClosed_shape (p : Part) (f n : Nat) : (p.speakClosed f n).shape = p.shape := by
  unfold Part.speakClosed
  split
  · split <;> simp
  · simp
  · split
    · simp
    · next q h => simpa using p.enqueueSeat_shape q f n _ h
@[simp] theorem Part.speakDelegate_shape (p : Part) (f n : Nat) : (p.speakDelegate f n).shape = p.shape := by
  unfold Part.speakDelegate; repeat' split
  all_goals simp
@[simp] theorem Part.speakUnguarded_shape (p : Part) (f n : Nat) : (p.speakUnguarded f n).shape = p.shape := by
  unfold Part.speakUnguarded; repeat' split
  all_goals simp
@[simp] theorem Part.speakPress_shape (p : Part) (f n : Nat) : (p.speakPress f n).shape = p.shape := by
  unfold Part.speakPress; split <;> simp
@[simp] theorem Part.nextSpeaker_shape (p : Part) (f : Nat) : (p.nextSpeaker f).shape = p.shape := by
  unfold Part.nextSpeaker; repeat' split
  all_goals simp
@[simp] theorem Part.nextPress_shape (p : Part) (f n : Nat) : (p.nextPress f n).shape = p.shape := by
  unfold Part.nextPress; split <;> simp
@[simp] theorem Part.forceCloseAll_shape (p : Part) (f : Nat) (l : List Nat) : (p.forceCloseAll f l).shape = p.shape :=
  foldl_keeps Part.shape _ (fun s a => s.forceClose_shape f a) l p
@[simp] theorem Part.cancelAll_shape (p : Part) (f : Nat) : (p.cancelAll f).shape = p.shape := by simp [Part.cancelAll]
@[simp] theorem Part.cancelAllPress_shape (p : Part) (f n : Nat) : (p.cancelAllPress f n).shape = p.shape := by
  unfold Part.cancelAllPress; split <;> simp
@[simp] theorem Part.startHold_shape (p : Part) (f n : Nat) : (p.startHold f n).shape = p.shape := by
  unfold Part.startHold
  repeat' split
  all_goals try simp
@[simp] theorem Part.priorityPress_shape (p : Part) (f n : Nat) : (p.priorityPress f n).shape = p.shape := by
  unfold Part.priorityPress; split <;> simp
@[simp] theorem Part.updEntry_shape (p : Part) (f n : Nat) (g : OpenEntry → OpenEntry) : (p.updEntry f n g).shape = p.shape := by simp [Part.shape, Part.updEntry]
@[simp] theorem Part.warnEntry_shape (p : Part) (f n : Nat) : (p.warnEntry f n).shape = p.shape := by
  unfold Part.warnEntry; repeat' split
  all_goals simp
@[simp] theorem Part.expireEntry_shape (p : Part) (f n : Nat) : (p.expireEntry f n).shape = p.shape := by
  unfold Part.expireEntry; repeat' split
  all_goals simp
@[simp] theorem Part.takeWarning_shape (p : Part) (f n : Nat) : (p.takeWarning f n).shape = p.shape := by
  unfold Part.takeWarning; repeat' split
  all_goals simp
@[simp] theorem Part.settleTimers_shape (p : Part) (f : Nat) (b : Bool) : (p.settleTimers f b).shape = p.shape := by
  unfold Part.settleTimers; split <;> simp
@[simp] theorem Part.timerChange_shape (p : Part) (f : Nat) (o n : FloorParams) (b : Bool) :
    (p.timerChange f o n b).shape = p.shape := by
  unfold Part.timerChange
  dsimp only
  repeat' split
  all_goals simp
theorem closeExcess_shape (k f : Nat) : ∀ p : Part, (closeExcess k f p).shape = p.shape := by
  induction k with
  | zero => intro p; rfl
  | succ k ih =>
    intro p
    unfold closeExcess
    repeat' split
    all_goals simp [ih]
@[simp] theorem Part.enforceLimit_shape (p : Part) (f : Nat) : (p.enforceLimit f).shape = p.shape := closeExcess_shape _ _ _
@[simp] theorem Part.roleOfOpen_shape (p : Part) (f n : Nat) (e : OpenEntry) (r : Role) :
    (p.roleOfOpen f n e r).shape = p.shape := by
  unfold Part.roleOfOpen; split <;> simp
@[simp] theorem Part.roleOfQueued_shape (p : Part) (f n : Nat) (r : Role) : (p.roleOfQueued f n r).shape = p.shape := by
  unfold Part.roleOfQueued; repeat' split
  all_goals simp
@[simp] theorem Part.roleChanged_shape (p : Part) (f n : Nat) (r : Role) : (p.roleChanged f n r).shape = p.shape := by
  unfold Part.roleChanged
  dsimp only
  repeat' split
  all_goals simp
@[simp] theorem Part.takeSuspension_shape (p : Part) (f : Nat) : (p.takeSuspension f).shape = p.shape := by
  unfold Part.takeSuspension
  dsimp only
  split <;> simp
@[simp] theorem Part.resume_shape (p : Part) (f : Nat) : (p.resume f).shape = p.shape := by simp [Part.resume]
@[simp] theorem Part.evalSuspensionOf_shape (p : Part) (f : Nat) : (p.evalSuspensionOf f).shape = p.shape := by
  unfold Part.evalSuspensionOf; repeat' split
  all_goals simp
@[simp] theorem Part.evalSuspension_shape (p : Part) : p.evalSuspension.shape = p.shape :=
  foldl_keeps Part.shape _ (fun s a => s.evalSuspensionOf_shape a) _ p
@[simp] theorem Part.removeUnadmitted_shape (p : Part) (f n : Nat) : (p.removeUnadmitted f n).shape = p.shape := by
  unfold Part.removeUnadmitted; split <;> simp
@[simp] theorem Part.enforceAdmission_shape (p : Part) (f : Nat) : (p.enforceAdmission f).shape = p.shape := by
  unfold Part.enforceAdmission
  split
  · exact foldl_keeps Part.shape _ (fun s a => s.removeUnadmitted_shape f a) _ p
  · rfl

/-! ### Links, displays and the end of a step -/

@[simp] theorem Part.recomputeAll_shape (p : Part) : p.recomputeAll.shape = p.shape := by
  unfold Part.recomputeAll
  dsimp only
  rw [foldl_keeps Part.shape _ (fun s a => by split <;> simp)]
  rfl
@[simp] theorem Part.restartRotations_shape (p : Part) (f : Nat) : (p.restartRotations f).shape = p.shape := rfl
@[simp] theorem Part.idleMark_shape (p : Part) (t : Nat) :
    ({ p with control := { p.control with idleMark := t } } : Part).shape = p.shape := rfl
@[simp] theorem Part.syncSeats_shape (old p : Part) : (old.syncSeats p).shape = p.shape := by
  unfold Part.syncSeats
  rw [foldl_keeps Part.shape _ (fun s a => by split <;> simp)]
  simp
@[simp] theorem Part.follow_shape (old p : Part) : (old.follow p).shape = p.shape := by simp [Part.follow]
/-! ### Bookings -/

@[simp] theorem Part.requestSeats_shape (p : Part) (l : List Nat) : (p.requestSeats l).shape = p.shape :=
  foldl_keeps Part.shape _ (fun s a => s.requestSeat_shape a) l p
@[simp] theorem Part.addBooking_shape (p : Part) (b : Booking) : (p.addBooking b).shape = p.shape := by
  unfold Part.addBooking; split <;> simp [Part.shape]
@[simp] theorem Part.beginPush_shape (p : Part) (f : Nat) (b : Booking) : (p.beginPush f b).shape = p.shape := by
  unfold Part.beginPush
  dsimp only
  split <;> simp
@[simp] theorem Part.beginApply_shape (p : Part) (f : Nat) (b : Booking) : (p.beginApply f b).shape = p.shape := by
  simp [Part.beginApply]
@[simp] theorem Part.floorLive_shape (p : Part) (f : Nat) : (p.floorLive f).shape = p.shape := by simp [Part.floorLive]
@[simp] theorem Part.dropPending_shape (p : Part) (b : Booking) : (p.dropPending b).shape = p.shape := by
  unfold Part.dropPending; repeat' split
  all_goals simp
@[simp] theorem Part.takePending_shape (p : Part) (f : Nat) (b : Booking) : (p.takePending f b).shape = p.shape := by
  unfold Part.takePending; repeat' split
  all_goals simp
@[simp] theorem Part.applyLive_shape (p : Part) (f : Nat) (b : Booking) : (p.applyLive f b).shape = p.shape := by
  unfold Part.applyLive
  dsimp only
  split <;> simp
@[simp] theorem Part.completeApply_shape (p : Part) (f : Nat) (b : Booking) : (p.completeApply f b).shape = p.shape := by
  unfold Part.completeApply
  dsimp only
  split <;> simp
@[simp] theorem Part.releaseFloor_shape (p : Part) (f : Nat) : (p.releaseFloor f).shape = p.shape := by
  simp [Part.releaseFloor]
@[simp] theorem Part.beginCloseOut_shape (p : Part) (f h : Nat) : (p.beginCloseOut f h).shape = p.shape := by
  simp [Part.beginCloseOut]
@[simp] theorem Part.beginClear_shape (p : Part) (f : Nat) (b : Booking) : (p.beginClear f b).shape = p.shape := by
  simp [Part.beginClear]
@[simp] theorem Part.completeCloseOut_shape (p : Part) (f : Nat) (b : Booking) : (p.completeCloseOut f b).shape = p.shape := by
  unfold Part.completeCloseOut
  dsimp only
  split <;> simp
@[simp] theorem Part.abortApply_shape (p : Part) (f : Nat) (b : Booking) (k : Bool) : (p.abortApply f b k).shape = p.shape := by
  unfold Part.abortApply
  dsimp only
  split <;> simp
@[simp] theorem Part.takeOccStart_shape (p : Part) (h : Nat) : (p.takeOccStart h).1.shape = p.shape := by
  unfold Part.takeOccStart; repeat' split
  all_goals simp
@[simp] theorem Part.takeStart_shape (p : Part) (h : Nat) : (p.takeStart h).1.shape = p.shape := by
  unfold Part.takeStart; repeat' split
  all_goals simp
@[simp] theorem Part.takeEnd_shape (p : Part) (h : Nat) : (p.takeEnd h).1.shape = p.shape := by
  unfold Part.takeEnd; repeat' split
  all_goals simp
@[simp] theorem Part.startApply_shape (p : Part) (b : Booking) : (p.startApply b).1.shape = p.shape := by
  unfold Part.startApply; split <;> simp
@[simp] theorem Part.takeTry_shape (p : Part) (h : Nat) : (p.takeTry h).1.shape = p.shape := by
  unfold Part.takeTry; repeat' split
  all_goals simp
@[simp] theorem Part.takeCloseOut_shape (p : Part) (h : Nat) : (p.takeCloseOut h).1.shape = p.shape := by
  unfold Part.takeCloseOut; repeat' split
  all_goals simp
@[simp] theorem Part.takeAdvance_shape (p : Part) (f : Nat) : (p.takeAdvance f).1.shape = p.shape := by
  unfold Part.takeAdvance; repeat' split
  all_goals simp
@[simp] theorem Part.takeChain_shape (p : Part) (k : Nat) : (p.takeChain k).1.shape = p.shape := by
  unfold Part.takeChain; repeat' split
  all_goals simp
@[simp] theorem Part.doTask_shape (p : Part) (t : Task) : (p.doTask t).1.shape = p.shape := by
  cases t <;> simp [Part.doTask]
theorem runFuel_shape (k : Nat) : ∀ (ts : List Task) (p : Part), (runFuel k ts p).shape = p.shape := by
  induction k with
  | zero => intro ts p; cases ts <;> rfl
  | succ k ih =>
    intro ts p
    cases ts with
    | nil => rfl
    | cons t ts => simp [runFuel, ih]
@[simp] theorem Part.runTasks_shape (p : Part) (ts : List Task) : (p.runTasks ts).shape = p.shape := runFuel_shape _ _ _
@[simp] theorem Part.evalTimes_shape (p : Part) : p.evalTimes.shape = p.shape := by
  unfold Part.evalTimes; split <;> simp
@[simp] theorem Part.bumpOne_shape (occ : Nat) (p : Part) (h : Nat) : (Part.bumpOne occ p h).shape = p.shape := by
  simp [Part.bumpOne]
@[simp] theorem Part.bumpAll_shape (p : Part) (run : ZoneRun) (a e : Nat) : (p.bumpAll run a e).shape = p.shape :=
  foldl_keeps Part.shape _ (fun s h => Part.bumpOne_shape a s h) _ p
@[simp] theorem Part.adHocPress_shape (p : Part) (n : Nat) : (p.adHocPress n).shape = p.shape := by
  unfold Part.adHocPress; repeat' split
  all_goals simp
@[simp] theorem Part.workFailed_shape (p : Part) (c : OpContext) : (p.workFailed c).shape = p.shape := by
  unfold Part.workFailed; split <;> simp
@[simp] theorem Part.afterAttempt_shape (p : Part) (c : OpContext) (n : Nat) : (p.afterAttempt c n).shape = p.shape := by
  unfold Part.afterAttempt; repeat' split
  all_goals simp
@[simp] theorem Part.workOutcome_shape (p : Part) (n : Nat) (g e : Bool) : (p.workOutcome n g e).shape = p.shape := by
  unfold Part.workOutcome; repeat' split
  all_goals simp
@[simp] theorem Part.workSkipped_shape (p : Part) (c : OpContext) (n : Nat) : (p.workSkipped c n).shape = p.shape := by
  unfold Part.workSkipped; repeat' split
  all_goals simp
@[simp] theorem Part.workLost_shape (p : Part) (n : Nat) : (p.workLost n).shape = p.shape := by
  unfold Part.workLost; repeat' split
  all_goals simp

/-! ### Loss of a seat and a walk's report -/

@[simp] theorem Part.floorLoses_shape (p : Part) (f n : Nat) : (p.floorLoses f n).shape = p.shape := by
  unfold Part.floorLoses
  dsimp only
  split <;> simp
@[simp] theorem Part.loseSeat_shape (p : Part) (n : Nat) : (p.loseSeat n).shape = p.shape := by
  unfold Part.loseSeat; split <;> simp
@[simp] theorem Part.stopHold_shape (p : Part) (n : Nat) : (p.stopHold n).shape = p.shape := by
  unfold Part.stopHold; split <;> simp
@[simp] theorem Part.admissionLost_shape (p : Part) (f n : Nat) : (p.admissionLost f n).shape = p.shape := by
  unfold Part.admissionLost
  dsimp only
  split <;> simp
@[simp] theorem Part.loseByWalk_shape (p : Part) (n : Nat) (x : Presence) : (p.loseByWalk n x).shape = p.shape := by
  unfold Part.loseByWalk; split <;> simp
@[simp] theorem Part.walkSeat_shape (p : Part) (n : Nat) (u : Option UnitReport) : (p.walkSeat n u).shape = p.shape := by
  unfold Part.walkSeat; repeat' split
  all_goals simp
@[simp] theorem Part.reportSeats_shape (p : Part) (seg : Segment) (w : WalkContext) :
    (p.reportSeats seg w).shape = p.shape := foldl_keeps Part.shape _ (fun q _ => q.walkSeat_shape _ _) _ p

/-! ### Polls, probes and the units of WALL -/

@[simp] theorem Part.updEngine_shape (p : Part) (seg : Segment) (g : Engine → Engine) : (p.updEngine seg g).shape = p.shape := by
  cases seg <;> rfl
@[simp] theorem Part.updPartition_shape (p : Part) (k : Nat) (g : Partition → Partition) :
    (p.updPartition k g).shape = p.shape := by simp [Part.shape, Part.updPartition]
@[simp] theorem Part.updDisplay_shape (p : Part) (d : Nat) (g : Display → Display) : (p.updDisplay d g).shape = p.shape := rfl
@[simp] theorem Part.send_shape (p : Part) (seg : Segment) (x : Exchange) : (p.send seg x).shape = p.shape := by
  simp [Part.send]
@[simp] theorem Part.setProbeDue_shape (p : Part) (seg : Segment) (pos : Nat) : (p.setProbeDue seg pos).shape = p.shape := by
  simp [Part.setProbeDue]
@[simp] theorem Part.countConflict_shape (p : Part) (seg : Segment) (o : LinkOutcome) :
    (p.countConflict seg o).shape = p.shape := by
  unfold Part.countConflict; split <;> simp
@[simp] theorem Part.presenceMoved_shape (p : Part) (n : Nat) (x : Presence) : (p.presenceMoved n x).shape = p.shape := by
  unfold Part.presenceMoved; dsimp only; repeat' split
  all_goals simp
@[simp] theorem Part.moveSeat_shape (p : Part) (n : Nat) (g : Bool) : (p.moveSeat n g).shape = p.shape := by
  simp [Part.moveSeat]
@[simp] theorem Part.pollMoves_shape (p : Part) (n : Nat) (g e : Bool) : (p.pollMoves n g e).shape = p.shape := by
  unfold Part.pollMoves; dsimp only; split <;> simp [Part.scoreSeat]
@[simp] theorem Part.reportAdmission_shape (p : Part) (n : Nat) (b : Bool) : (p.reportAdmission n b).shape = p.shape := by
  unfold Part.reportAdmission; repeat' split
  all_goals simp
@[simp] theorem Part.takeBadge_shape (p : Part) (n : Nat) (t : Tag) : (p.takeBadge n t).shape = p.shape := by
  simp [Part.takeBadge]
@[simp] theorem Part.pressAt_shape (p : Part) (n : Nat) (b : Button) : (p.pressAt n b).shape = p.shape := by
  unfold Part.pressAt; repeat' split
  all_goals simp
@[simp] theorem Part.dispatch_shape (p : Part) (n : Nat) (b : Button) : (p.dispatch n b).shape = p.shape := by
  unfold Part.dispatch; split <;> simp
@[simp] theorem Part.checkAwake_shape (p : Part) : p.checkAwake.shape = p.shape := by
  unfold Part.checkAwake; split
  · rw [Part.becomeAwake, Part.runTasks_shape]; rfl
  · rfl
@[simp] theorem Part.wake_shape (p : Part) (c : WakeCause) : (p.wake c).shape = p.shape := by
  unfold Part.wake; split
  · rw [Part.checkAwake_shape]; rfl
  · rfl
@[simp] theorem Part.notePress_shape (p : Part) : p.notePress.shape = p.shape := by
  unfold Part.notePress; dsimp only; split
  · rw [Part.wake_shape]; rfl
  · rfl
@[simp] theorem Part.recordTag_shape (p : Part) (n : Nat) (b : Button) (t : PressTag) : (p.recordTag n b t).shape = p.shape := by
  simp [Part.recordTag]
@[simp] theorem Part.countOverrun_shape (p : Part) (n : Nat) (o : Bool) : (p.countOverrun n o).shape = p.shape := by
  unfold Part.countOverrun; split <;> simp
@[simp] theorem Part.takeEvent_shape (p : Part) (n : Nat) (b : Button) (e : Option PressEvent) :
    (p.takeEvent n b e).shape = p.shape := by
  unfold Part.takeEvent; repeat' split
  all_goals simp
@[simp] theorem Part.risingEdge_shape (p : Part) (n : Nat) : (p.risingEdge n).shape = p.shape := by
  unfold Part.risingEdge; repeat' split
  all_goals simp
@[simp] theorem Part.takeLevel_shape (p : Part) (n : Nat) (l : Bool) : (p.takeLevel n l).shape = p.shape := by
  unfold Part.takeLevel; dsimp only; split <;> simp
@[simp] theorem Part.pollTakes_shape (p : Part) (n : Nat) (img : Image) (up : Uplink) :
    (p.pollTakes n img up).shape = p.shape := by
  simp [Part.pollTakes, Part.takeEvents]

/-! ### Time, and the end of a step -/

@[simp] theorem Part.passTime_shape (p : Part) (t : Nat) : (p.passTime t).shape = p.shape := by
  unfold Part.passTime; split
  · rfl
  · simp [Part.shape, Part.countSeconds]
@[simp] theorem Part.dueTest_shape (p : Part) : p.dueTest.shape = p.shape := by
  unfold Part.dueTest; split <;> simp
@[simp] theorem Part.takeWalk_shape (p : Part) (seg : Segment) : (p.takeWalk seg).shape = p.shape := by
  unfold Part.takeWalk; split <;> simp
@[simp] theorem Part.takeWalks_shape (p : Part) : p.takeWalks.shape = p.shape := by simp [Part.takeWalks]
@[simp] theorem Part.serveRound_shape (p : Part) (seg : Segment) : (p.serveRound seg).shape = p.shape := by
  unfold Part.serveRound
  repeat' split
  all_goals try dsimp only
  all_goals simp
@[simp] theorem Part.serveNext_shape (p : Part) (seg : Segment) : (p.serveNext seg).shape = p.shape := by
  unfold Part.serveNext; split <;> simp
@[simp] theorem Part.serveBlank_shape (p : Part) : p.serveBlank.shape = p.shape := by
  unfold Part.serveBlank; split <;> simp
@[simp] theorem Part.kick_shape (p : Part) (seg : Segment) : (p.kick seg).shape = p.shape := by
  unfold Part.kick; repeat' split
  all_goals simp
@[simp] theorem Part.kickAll_shape (p : Part) : p.kickAll.shape = p.shape := by simp [Part.kickAll]
/-- The end of a step changes no list's length. -/
@[simp] theorem Part.settle_shape (old p : Part) : (old.settle p).shape = p.shape := by simp [Part.settle]

end Sys2Proof.Machine
end

