-- ==== Sys2Proof/Laws/Time.lean ====
section
/-! SUPPORT. The passing of time: what the timebase changes as it runs on. -/

namespace Sys2Proof.Machine

/-- A time that is not ahead changes nothing. -/
theorem Part.passTime_not_ahead (p : Part) (t : Nat) (h : t ≤ p.now) : p.passTime t = p := by
  simp [Part.passTime, h]

/-- A time ahead: `n` whole seconds are counted and the guards reached end (R104, R111, R123, R139). -/
theorem Part.passTime_ahead (p : Part) (t n : Nat) (h : ¬ t ≤ p.now) (hn : t / Config.second - p.now / Config.second = n) :
    p.passTime t = { p.countSeconds n with now := t, seats := p.seats.map (Seat.endGuard t) } := by
  simp only [Part.passTime, h, if_false, hn]
  rfl

/-- The seconds of a rotation leave the display's unit and configuration. -/
@[simp] theorem Display.passSecond_core (d : Display) : d.passSecond.core = d.core := by
  unfold Display.passSecond; split <;> rfl
@[simp] theorem Display.passSeconds_core : ∀ (n : Nat) (d : Display), (Display.passSeconds n d).core = d.core
  | 0, _ => rfl
  | n + 1, d => by rw [Display.passSeconds, Display.passSeconds_core n, Display.passSecond_core]
@[simp] theorem Display.passSeconds_zero (d : Display) : Display.passSeconds 0 d = d := rfl
@[simp] theorem Display.passSeconds_one (d : Display) : Display.passSeconds 1 d = d.passSecond := rfl

/-- Time leaves the displays' units and configurations. -/
theorem Part.countSeconds_displays (p : Part) (n : Nat) :
    (p.countSeconds n).displays.map Display.core = p.displays.map Display.core :=
  map_map_of_keeps Display.core _ _ (fun d => by split <;> simp)

@[simp] theorem Part.passTime_answer (p : Part) (t : Nat) : (p.passTime t).answer = p.answer := by
  unfold Part.passTime; split <;> rfl
@[simp] theorem Part.passTime_power (p : Part) (t : Nat) : (p.passTime t).power = p.power := by
  unfold Part.passTime; split <;> rfl
@[simp] theorem Part.passTime_clock (p : Part) (t : Nat) : (p.passTime t).clock = p.clock := by
  unfold Part.passTime; split <;> rfl
@[simp] theorem Part.passTime_slots (p : Part) (t : Nat) : (p.passTime t).slots = p.slots := by
  unfold Part.passTime; split <;> rfl
@[simp] theorem Part.passTime_settings (p : Part) (t : Nat) : (p.passTime t).settings = p.settings := by
  unfold Part.passTime; split <;> rfl
@[simp] theorem Part.passTime_control (p : Part) (t : Nat) : (p.passTime t).control = p.control := by
  unfold Part.passTime; split <;> rfl

/-- The records after time has passed to a later point. -/
theorem Part.passTime_records (p : Part) (t n : Nat) (h : ¬ t ≤ p.now) (hn : t / Config.second - p.now / Config.second = n) :
    (p.passTime t).records =
      { p.records with
        now := t
        seats := (p.seats.map (Seat.endGuard t)).map Seat.quiet
        floors := p.floors.map (fun fl => { fl with openList := fl.openList.map (OpenEntry.spend n) })
        queues := p.queues.map (fun q =>
          { q with entries := q.entries.map (fun e => { e with waitedS := sat 65535 (e.waitedS + n) }) }) } := by
  rw [p.passTime_ahead t n h hn]
  have hd := p.countSeconds_displays n
  simp only [Part.records]
  rw [hd]
  rfl

/-- The next whole second lies ahead, one second on. -/
theorem nextSecond_ahead (now : Nat) :
    ¬ nextSecond now ≤ now ∧ nextSecond now / Config.second - now / Config.second = 1 := by
  have h0 : 0 < Config.second := by decide
  unfold nextSecond
  constructor
  · have h1 := Nat.lt_div_mul_add (a := now) h0
    intro h
    rw [Nat.add_mul, Nat.one_mul] at h
    omega
  · rw [Nat.mul_div_cancel _ h0]; omega

end Sys2Proof.Machine
end

