-- ==== Sys2Proof/Machine/Units.lean ====
section
/-! DEFINITION. The units' side of the seat link (08 section 8.3, R82, R165, R166): the frames the part sends, and what a
unit and a line of units do with them. The units are other devices: no field of State holds them, step never calls this
file, and an answer row of Instr may carry anything. `UnitAnswer.command` gives the row that a unit of this file sends. -/

namespace Sys2Proof.Machine

/-! ### Frames (R154 to R156) -/

/-- A frame the part sends. An offer carries the acknowledgements of the seat it offers. -/
inductive Frame where
  | poll (position : Nat) (image : Image)
  | show (position : Nat) (content : Effective) (drive : Nat)
  | sense (position : Nat)
  | probe (position : Nat) (acks : TakenTags)
  | assign (position : Nat) (acks : TakenTags)
  | park (position : Nat)
  | parkEntry
  | sleep
  deriving DecidableEq, Repr

def noTags : TakenTags := { speak := none, next := none, cancelAll := none }

/-- The acknowledgements of an offer: the seat's taken tags when its record is not ABSENT; none for an ABSENT record and on
WALL (R156). -/
def Part.offerAcks (p : Part) (seg : Segment) (pos : Nat) : TakenTags :=
  match seg with
  | .wall => noTags
  | .left => if (p.seatAt (seatOn .left pos)).health.presence = .absent then noTags else (p.seatAt (seatOn .left pos)).takenTags
  | .right =>
    if (p.seatAt (seatOn .right pos)).health.presence = .absent then noTags else (p.seatAt (seatOn .right pos)).takenTags

/-- The frame of an exchange, as sent on a segment's line by a part in this state (R154 to R156). Position 0 of a PARK is the
entry address. -/
def Part.frameOf (p : Part) (seg : Segment) : Exchange → Frame
  | .poll pos img => .poll pos img
  | .show pos content drive => .show pos content drive
  | .sense pos => .sense pos
  | .probe pos => .probe pos (p.offerAcks seg pos)
  | .assign pos => .assign pos (p.offerAcks seg pos)
  | .park pos => if pos = 0 then .parkEntry else .park pos

/-! ### A unit -/

/-- The five link states of a unit (R157). -/
inductive LinkState where
  | unassigned
  | tentative (position : Nat)
  | assigned (position : Nat)
  | parkedOpen
  | parkedShut
  deriving DecidableEq, Repr

/-- A tagged button: its latched press, whether an answer has reported it, and its next tag (R82). -/
structure UnitButton where
  latch : Option PressEvent
  reported : Bool
  nextTag : PressTag
  deriving DecidableEq, Repr

/-- A unit of the seat link (R81, R82, R154 to R157, R165, R166). A chair unit has all three buttons, a delegate unit SPEAK;
`badge` 0 stands for an empty slot. `dark` is the screen of a sleeping display unit. While the request lamp flashes, `flashLeft`
is the time left in us and `stored` the lamp it shows afterwards (R68). -/
structure LinkUnit where
  kind : UnitKind
  serial : Serial
  partition : BitVec 4
  link : LinkState
  speak : UnitButton
  next : UnitButton
  cancelAll : UnitButton
  priorityUp : Bool
  badge : Tag
  mic : MicCommand
  ring : Ring
  lamp : Lamp
  flashLeft : Option Nat
  stored : Lamp
  occupant : Tag
  shows : Effective
  drive : Nat
  dark : Bool
  reading : Reading
  asleep : Bool
  raisesWake : Bool
  deriving DecidableEq, Repr

/-- A button at power-up: no latched press and next tag 0 (R157). -/
def freshButton : UnitButton := { latch := none, reported := false, nextTag := 0 }

/-- A unit that powers up: UNASSIGNED, no latched press, next tag 0 for each button (R157), its microphone closed and its lamps
off. No rule says what a display unit shows before its first SHOW, nor what the unit's slot, level, tag and sensor hold then:
BLANK with drive value 0, no badge, PRIORITY down, no tag and a reading of 0 are the model's choice (log entry 25). -/
def LinkUnit.powersUp (kind : UnitKind) (serial : Serial) (partition : BitVec 4) : LinkUnit :=
  { kind := kind, serial := serial, partition := partition, link := .unassigned
    speak := freshButton, next := freshButton, cancelAll := freshButton
    priorityUp := false, badge := 0, mic := .closed, ring := .off, lamp := .off, flashLeft := none, stored := .off, occupant := 0
    shows := .blank, drive := 0, dark := false, reading := .level 0, asleep := false, raisesWake := false }

/-! ### Buttons (R82, R158) -/

/-- A press: latched with the next tag; while one is latched it sets that one's overrun flag instead (R82). -/
def UnitButton.press (b : UnitButton) : UnitButton :=
  match b.latch with
  | none => { b with latch := some { tag := b.nextTag, overrun := false }, reported := false }
  | some e => { b with latch := some { e with overrun := true } }

/-- A downlink's acknowledgement releases the latch whose tag it names, and the next tag follows it; another one does not
(R82). -/
def UnitButton.acknowledge (b : UnitButton) (ack : Option PressTag) : UnitButton :=
  match b.latch with
  | none => b
  | some e => if ack = some e.tag then { latch := none, reported := false, nextTag := e.tag + 1 } else b

/-- The next tag a button without a latched press takes from the offer its unit answered (R158). -/
def UnitButton.offered (b : UnitButton) (ack : Option PressTag) : UnitButton :=
  match b.latch with
  | some _ => b
  | none =>
    match ack with
    | none => { b with nextTag := 0 }
    | some t => { b with nextTag := t + 1 }

/-- An answer reports the latched press (R82). -/
def UnitButton.report (b : UnitButton) : UnitButton := { b with reported := b.latch.isSome }

/-- A latched press that no answer has reported. -/
def UnitButton.waits (b : UnitButton) : Bool := b.latch.isSome && !b.reported

def LinkUnit.mapButtons (u : LinkUnit) (f g h : UnitButton → UnitButton) : LinkUnit :=
  { u with speak := f u.speak, next := g u.next, cancelAll := h u.cancelAll }

/-- Every button takes its acknowledgement (R82). -/
def LinkUnit.acknowledge (u : LinkUnit) (acks : TakenTags) : LinkUnit :=
  u.mapButtons (fun b => b.acknowledge acks.speak) (fun b => b.acknowledge acks.next) (fun b => b.acknowledge acks.cancelAll)

/-- Every button takes its tag from an offer (R158). -/
def LinkUnit.offered (u : LinkUnit) (acks : TakenTags) : LinkUnit :=
  u.mapButtons (fun b => b.offered acks.speak) (fun b => b.offered acks.next) (fun b => b.offered acks.cancelAll)

/-- The unit has the button (01 glossary, R81). -/
def hasButton : UnitKind → Button → Bool
  | .chair, _ => true
  | .delegate, .speak => true
  | .delegate, .next => false
  | .delegate, .cancelAll => false
  | .display, _ => false
  | .ambient, _ => false
  | .partition, _ => false

def LinkUnit.pressButton (u : LinkUnit) : Button → LinkUnit
  | .speak => { u with speak := u.speak.press }
  | .next => { u with next := u.next.press }
  | .cancelAll => { u with cancelAll := u.cancelAll.press }

/-- Some button holds a latched press that no answer has reported. -/
def LinkUnit.pressWaits (u : LinkUnit) : Bool := u.speak.waits || u.next.waits || u.cancelAll.waits

/-- A button is pressed: it is latched by R82, and a seat unit that is asleep and latches a press raises the wake line
(R166). -/
def LinkUnit.press (u : LinkUnit) (b : Button) : LinkUnit :=
  if hasButton u.kind b then
    { u.pressButton b with raisesWake := u.raisesWake || (u.asleep && (u.pressButton b).pressWaits) }
  else u

/-! ### Link state -/

/-- A seat unit's microphone closed and its lamps off; other units are as they are (R157, R165). -/
def LinkUnit.closed (u : LinkUnit) : LinkUnit :=
  if isSeatKind u.kind then { u with mic := .closed, ring := .off, lamp := .off, flashLeft := none } else u

/-- The line break at the start of a walk: UNASSIGNED, no longer asleep, the wake line let go; presses stay latched (R157,
R158, R165, R166). No rule says when a sleeping display unit's dark screen lights again: here at a line break or the next SHOW,
and not at a PROBE or PARK (the model's choice, log entry 25). -/
def LinkUnit.lineBreak (u : LinkUnit) : LinkUnit :=
  { u.closed with link := .unassigned, asleep := false, dark := false, raisesWake := false }

/-- SLEEP: a seat unit closes and lights nothing, a display unit's screen turns dark, and a press that no answer has
reported raises the wake line; a sensor unit does not act on it (R165, R167). -/
def LinkUnit.sleeps (u : LinkUnit) : LinkUnit :=
  match u.kind with
  | .delegate => { u.closed with asleep := true, raisesWake := u.raisesWake || u.pressWaits }
  | .chair => { u.closed with asleep := true, raisesWake := u.raisesWake || u.pressWaits }
  | .display => { u with asleep := true, dark := true }
  | .ambient => u
  | .partition => u

/-! ### Answers -/

/-- What a unit answers (R154 to R156). -/
inductive UnitAnswer where
  | polled (up : Uplink)
  | shown (position : Nat) (kind : ShownKind)
  | sensed (position : Nat) (reading : Reading)
  | probed (report : UnitReport)
  | assigned (report : UnitReport)
  | parked (report : UnitReport)
  deriving DecidableEq, Repr

/-- The content kind a display unit names (R155). -/
def Effective.shownKind : Effective → ShownKind
  | .blank => .blank
  | .idle _ => .idle
  | .reserved _ _ => .reserved
  | .floorCard _ _ => .floorCard
  | .speaker _ _ => .speaker
  | .queueView _ => .queueView
  | .source _ => .source

/-- The answer fields of ASSIGN, PROBE and PARK (R156). -/
def LinkUnit.reportAt (u : LinkUnit) (pos : Nat) : UnitReport :=
  { position := pos, kind := u.kind, serial := u.serial, partition := u.partition }

/-- The uplink of a POLL's answer; a delegate unit reports PRIORITY as DOWN (R81, R154). -/
def LinkUnit.uplink (u : LinkUnit) (pos : Nat) : Uplink :=
  { position := pos, speak := u.speak.latch, next := u.next.latch, cancelAll := u.cancelAll.latch
    priorityUp := decide (u.kind = .chair) && u.priorityUp, badge := u.badge, echo := u.mic }

/-- How long the refused flash lasts: 1 s (R68). -/
def flashLength : Nat := Config.second

/-- A request lamp value received (R68): the refused flash begins or begins anew, and shows afterwards the value that stood
before it; another value is shown at once, or stored while the lamp flashes. -/
def LinkUnit.takeLamp (u : LinkUnit) (lamp : Lamp) : LinkUnit :=
  match lamp, u.flashLeft with
  | .refusedFlash, none => { u with lamp := .refusedFlash, flashLeft := some flashLength, stored := u.lamp }
  | .refusedFlash, some _ => { u with flashLeft := some flashLength }
  | .off, none => { u with lamp := .off }
  | .off, some _ => { u with stored := .off }
  | .blinking, none => { u with lamp := .blinking }
  | .blinking, some _ => { u with stored := .blinking }
  | .steady, none => { u with lamp := .steady }
  | .steady, some _ => { u with stored := .steady }

/-- `t` us pass at a unit: a flash that ends shows the stored lamp (R68). -/
def LinkUnit.elapse (u : LinkUnit) (t : Nat) : LinkUnit :=
  match u.flashLeft with
  | none => u
  | some left => if left ≤ t then { u with lamp := u.stored, flashLeft := none } else { u with flashLeft := some (left - t) }

/-- A seat unit takes the image of a POLL: its microphone and lamps follow at once (R154), the request lamp by R68, and the
acknowledgements release the latches they name (R82). -/
def LinkUnit.takeImage (u : LinkUnit) (img : Image) : LinkUnit :=
  { (u.acknowledge img.acks).takeLamp img.lamp with mic := img.mic, ring := img.ring, occupant := img.occupant }

def LinkUnit.reported (u : LinkUnit) : LinkUnit := u.mapButtons UnitButton.report UnitButton.report UnitButton.report

/-- What a unit makes of a frame: itself after it, its answer, and the stamp with which it passes the frame on, if it does
(R157). -/
structure Heard where
  unit : LinkUnit
  answer : Option UnitAnswer
  onward : Option Nat
  deriving DecidableEq, Repr

/-- A POLL, SHOW or SENSE that addresses an assigned unit's position: a unit of the kind it is for takes it and answers
(R154, R155). The frame goes on with the unit's own position as its stamp. -/
def LinkUnit.served (u : LinkUnit) (pos : Nat) : Frame → Heard
  | .poll q img =>
    if q = pos ∧ isSeatKind u.kind then
      let v := { u.takeImage img with asleep := false }
      { unit := v.reported, answer := some (.polled (v.uplink pos)), onward := some pos }
    else { unit := u, answer := none, onward := some pos }
  | .show q content drive =>
    if q = pos ∧ u.kind = .display then
      { unit := { u with shows := content, drive := drive, dark := false, asleep := false }
        answer := some (.shown pos content.shownKind), onward := some pos }
    else { unit := u, answer := none, onward := some pos }
  | .sense q =>
    if q = pos ∧ (u.kind = .ambient ∨ u.kind = .partition) then
      { unit := u, answer := some (.sensed pos u.reading), onward := some pos }
    else { unit := u, answer := none, onward := some pos }
  | .sleep => { unit := u.sleeps, answer := none, onward := some pos }
  | .probe _ _ => { unit := u, answer := none, onward := some pos }
  | .assign _ _ => { unit := u, answer := none, onward := some pos }
  | .park _ => { unit := u, answer := none, onward := some pos }
  | .parkEntry => { unit := u, answer := none, onward := some pos }

/-- A unit that neither answers nor passes a frame on; it hears SLEEP all the same (R157, R165). -/
def LinkUnit.keepsStill (u : LinkUnit) (f : Frame) : Heard :=
  { unit := if f = .sleep then u.sleeps else u, answer := none, onward := none }

/-- A parked unit that has answered PARK: microphone closed and lamps off (R157). -/
def LinkUnit.parks (u : LinkUnit) (link : LinkState) : LinkUnit := { u.closed with link := link, asleep := false }

/-- UNASSIGNED (R157): it answers an offer whose stamp is the position before, and a PARK at the entry address. -/
def LinkUnit.hearUnassigned (u : LinkUnit) (stamp : Nat) : Frame → Heard
  | .assign q acks =>
    if stamp + 1 = q then
      { unit := { u.offered acks with link := .tentative q, asleep := false }
        answer := some (.assigned (u.reportAt q)), onward := none }
    else { unit := u, answer := none, onward := none }
  | .probe q acks =>
    if stamp + 1 = q then
      { unit := { u.offered acks with link := .tentative q, asleep := false }
        answer := some (.probed (u.reportAt q)), onward := none }
    else { unit := u, answer := none, onward := none }
  | .parkEntry => { unit := u.parks .parkedShut, answer := some (.parked (u.reportAt 0)), onward := none }
  | .poll q img => u.keepsStill (.poll q img)
  | .show q content drive => u.keepsStill (.show q content drive)
  | .sense q => u.keepsStill (.sense q)
  | .park q => u.keepsStill (.park q)
  | .sleep => u.keepsStill .sleep

/-- TENTATIVE at p (R157): the offer of p is answered again, PARK at p parks the unit, and any other frame makes it ASSIGNED,
which passes the frame on and answers it when it is its own. -/
def LinkUnit.hearTentative (u : LinkUnit) (pos : Nat) (f : Frame) : Heard :=
  match f with
  | .assign q acks =>
    if q = pos then { unit := u, answer := some (.assigned (u.reportAt q)), onward := none }
    else { u with link := .assigned pos }.served pos (.assign q acks)
  | .probe q acks =>
    if q = pos then { unit := u, answer := some (.probed (u.reportAt q)), onward := none }
    else { u with link := .assigned pos }.served pos (.probe q acks)
  | .park q =>
    if q = pos then { unit := u.parks .parkedOpen, answer := some (.parked (u.reportAt q)), onward := none }
    else { u with link := .assigned pos }.served pos (.park q)
  | .parkEntry => { u with link := .assigned pos }.served pos .parkEntry
  | .poll q img => { u with link := .assigned pos }.served pos (.poll q img)
  | .show q content drive => { u with link := .assigned pos }.served pos (.show q content drive)
  | .sense q => { u with link := .assigned pos }.served pos (.sense q)
  | .sleep => { u with link := .assigned pos }.served pos .sleep

/-- ASSIGNED at p (R157): PROBE and PARK of p are answered and go no further; the rest is passed on with stamp p. -/
def LinkUnit.hearAssigned (u : LinkUnit) (pos : Nat) (f : Frame) : Heard :=
  match f with
  | .probe q acks =>
    if q = pos then
      { unit := { u.acknowledge acks with asleep := false }, answer := some (.probed (u.reportAt q)), onward := none }
    else u.served pos (.probe q acks)
  | .park q =>
    if q = pos then { unit := u.parks .parkedOpen, answer := some (.parked (u.reportAt q)), onward := none }
    else u.served pos (.park q)
  | .assign q acks => u.served pos (.assign q acks)
  | .parkEntry => u.served pos .parkEntry
  | .poll q img => u.served pos (.poll q img)
  | .show q content drive => u.served pos (.show q content drive)
  | .sense q => u.served pos (.sense q)
  | .sleep => u.served pos .sleep

/-- R157's table: what a unit does with a frame whose check word is right and whose stamp is as given. -/
def LinkUnit.hear (u : LinkUnit) (stamp : Nat) (f : Frame) : Heard :=
  match u.link with
  | .unassigned => u.hearUnassigned stamp f
  | .tentative pos => u.hearTentative pos f
  | .assigned pos => u.hearAssigned pos f
  | .parkedOpen => { unit := if f = .sleep then u.sleeps else u, answer := none, onward := some stamp }
  | .parkedShut => u.keepsStill f

/-! ### A line of units -/

/-- A frame goes down a line of units, nearest first: each hears it with the stamp the one before passed on, and no unit
behind a shut port hears it. The answers come back in the line's order. -/
def hearLine : List LinkUnit → Nat → Frame → List LinkUnit × List UnitAnswer
  | [], _, _ => ([], [])
  | u :: rest, stamp, f =>
    let h := u.hear stamp f
    match h.onward with
    | none => (h.unit :: rest, h.answer.toList)
    | some next => (h.unit :: (hearLine rest next f).1, h.answer.toList ++ (hearLine rest next f).2)

/-- The part sends a frame: the stamp is 0 in every frame it sends (R156). -/
def sendDown (line : List LinkUnit) (f : Frame) : List LinkUnit × List UnitAnswer := hearLine line 0 f

/-- The walk's line break reaches every unit of the line (R157, R159). -/
def breakLine (line : List LinkUnit) : List LinkUnit := line.map LinkUnit.lineBreak

/-- Some unit raises the segment's wake line (R166). -/
def wakeLineRaised (line : List LinkUnit) : Bool := line.any (fun u => u.raisesWake)

/-- An answer received whole, from a single transmitter. -/
def clearReception : Reception := { complete := true, checkRight := true, kindRight := true, secondTransmitter := false }

/-- The row that an answer received whole brings to the part. A reading goes to the row of its sort (R155). -/
def UnitAnswer.command (seg : Segment) : UnitAnswer → Instr
  | .polled up => .pollAnswer seg clearReception up
  | .shown pos kind => .showAnswer clearReception pos kind
  | .sensed pos (.level v) => .senseAmbient clearReception pos (.level v)
  | .sensed pos .wallOpen => .sensePartition clearReception pos .wallOpen
  | .sensed pos .wallClosed => .sensePartition clearReception pos .wallClosed
  | .probed r => .probeAnswer seg clearReception r
  | .assigned r => .assignAnswer seg clearReception r
  | .parked r => .parkAnswer seg clearReception r

end Sys2Proof.Machine
end

