-- ==== Sys2Proof/Laws/Units.lean ====
section
/-! SUPPORT. What the units' side can do (R82, R157): a latch falls to its own tag alone, and a frame keeps a line's units. -/

namespace Sys2Proof.Machine

/-- The acknowledgement of the latched tag releases the latch (R82). -/
theorem UnitButton.acknowledge_latched (b : UnitButton) (e : PressEvent) (h : b.latch = some e) :
    b.acknowledge (some e.tag) = { latch := none, reported := false, nextTag := e.tag + 1 } := by
  simp [UnitButton.acknowledge, h]

/-- Another acknowledgement leaves the button as it is (R82). -/
theorem UnitButton.acknowledge_other (b : UnitButton) (e : PressEvent) (ack : Option PressTag) (h : b.latch = some e)
    (hne : ack ≠ some e.tag) : b.acknowledge ack = b := by
  simp [UnitButton.acknowledge, h, hne]

/-- A press while one is latched keeps its tag and sets its overrun flag (R82). -/
theorem UnitButton.press_latched (b : UnitButton) (e : PressEvent) (h : b.latch = some e) :
    b.press = { b with latch := some { e with overrun := true } } := by
  simp [UnitButton.press, h]

/-- An offer leaves a button with a latched press as it is (R158). -/
theorem UnitButton.offered_latched (b : UnitButton) (e : PressEvent) (ack : Option PressTag) (h : b.latch = some e) :
    b.offered ack = b := by
  simp [UnitButton.offered, h]

/-- A unit that is UNASSIGNED passes nothing on (R157). -/
theorem LinkUnit.unassigned_shuts (u : LinkUnit) (stamp : Nat) (f : Frame) (h : u.link = .unassigned) :
    (u.hear stamp f).onward = none := by
  cases f <;> simp only [LinkUnit.hear, h, LinkUnit.hearUnassigned, LinkUnit.keepsStill] <;> split <;> rfl

/-- A frame neither adds a unit to a line nor takes one away. -/
theorem hearLine_length (line : List LinkUnit) (f : Frame) :
    ∀ stamp : Nat, (hearLine line stamp f).1.length = line.length := by
  induction line with
  | nil => intro stamp; rfl
  | cons u rest ih =>
    intro stamp
    simp only [hearLine]
    split
    · rfl
    · simp [ih]

/-- Nothing behind an UNASSIGNED unit hears a frame (R157). -/
theorem hearLine_behind_unassigned (u : LinkUnit) (rest : List LinkUnit) (stamp : Nat) (f : Frame)
    (h : u.link = .unassigned) : (hearLine (u :: rest) stamp f).1.tail = rest := by
  simp only [hearLine, LinkUnit.unassigned_shuts u stamp f h, List.tail_cons]

end Sys2Proof.Machine
end

