-- ==== Sys2Proof/Tests/Slice0.lean ====
section
/-! SUPPORT. Small tests: an ill-formed term for each check of WellFormed, one step of the commands on a small meeting, and for
each statement with hypotheses a state and operands that meet them. -/

section Tests

set_option Elab.async false

open Sys2Proof Sys2Proof.Machine

/-! ### Well-formed commands -/

theorem test_wellFormed_bodyTooLong : (Instr.read (List.replicate 1025 0)).wellFormed = false := by decide +kernel
theorem test_wellFormed_resetTableScope : (Instr.resetTable [2]).wellFormed = false := by decide
theorem test_wellFormed_resetAllScope : (Instr.resetAll [1]).wellFormed = false := by decide
theorem test_wellFormed_knownCode : (Instr.unknownRequest 0x20 []).wellFormed = false := by decide
theorem test_wellFormed_knownMarker : (Instr.unknownMarker 0x5A).wellFormed = false := by decide
theorem test_wellFormed_pollOnWall :
    (Instr.pollAnswer .wall ⟨true, true, true, false⟩ ⟨1, none, none, none, false, 0, .closed⟩).wellFormed = false := by decide
theorem test_wellFormed_position : (Instr.showAnswer ⟨true, true, true, false⟩ 13 .idle).wellFormed = false := by decide
theorem test_wellFormed_floor : (Instr.lifetimeExpiry 5).wellFormed = false := by decide
theorem test_wellFormed_seat : (Instr.guardEnd 97).wellFormed = false := by decide
theorem test_wellFormed_display : (Instr.rotationPhaseChange 9).wellFormed = false := by decide
theorem test_wellFormed_good : (Instr.grant [1, 0]).wellFormed = true := by decide

/-- No row of the table gives bits: no word spells a command. -/
theorem test_noWordSpellsACommand : decodeTableWord 8 1 = none := by decide

/-! ### A small table -/

/-- The part after a command, from a part with no other command waiting. -/
def after (c : Instr) (p : Part) : Part :=
  match exec c { part := p, pending := [] } with
  | .next t => t.part
  | .fault _ => p
  | .refused _ => p

def idle (p : Part) : State := { part := p, pending := [] }

def runningEngine (n : Nat) : Engine := { startEngine n with state := .running, walk := none }

def person (kind : UnitKind) (role : Role) : Seat :=
  { startSeat with
    unitKind := some kind, unitSerial := some 1, role := role
    health := { presence := .present, settleCount := 0, errorScore := 0 } }

/-- An AWAKE table whose clock is set and whose segments run, with no booking. -/
def room : Part :=
  { State.reset.part with
    clock := { valid := true, minute := 600, second := 0 }
    left := runningEngine 48, right := runningEngine 48, wall := runningEngine 12 }

def meetingParams : FloorParams := { factoryParams with mode := .autoQueue, limit := 2 }

def booking7 : Booking :=
  { handle := 7, origin := .host, state := .live, zones := ⟨1, 1⟩, startMinute := 590, endMinute := 700, lead := 5, grace := 2
    params := meetingParams, confidentiality := .openMeeting, guestCode := 0, guestMask := 0xFFFF, roster := []
    floor := some 1, startNoted := true, closeNoted := false, pendingOutcome := none, retireOnCompletion := false
    pendingSeat := none, outcome := none
    flags := { rosterUnseated := false, wasSuspended := false, closeUnconfirmed := false, lateApply := false } }

def speaker (n order : Nat) : OpenEntry :=
  { seat := n, cls := .delegate, openedOrder := order, spokenS := 0, allowanceUsed := 0, muted := false, warned := false
    overtime := false }

def waiting (n order : Nat) (c : QueueClass) : QueueEntry := { seat := n, cls := c, arrival := order, waitedS := 0 }

def floor1 : Floor :=
  { state := .live, suspended := false, zones := some ⟨1, 1⟩, booking := some 7, params := some meetingParams
    priorityHolders := 0, openOrder := 2, openList := [speaker 2 1, speaker 3 2] }

/-- A LIVE meeting on floor F1 over zone Z1: seat 1 its chair, seats 2 and 3 speaking at the limit, seats 4 and 5 waiting. -/
def meeting : Part :=
  { room with
    seats := person .chair .chair :: List.replicate 5 (person .delegate .ordinary) ++ List.replicate 90 startSeat
    slots := some booking7 :: List.replicate 47 none
    floors := floor1 :: List.replicate 3 startFloor
    queues := { entries := [waiting 4 1 .ordinary, waiting 5 2 .ordinary], lastArrival := 2 } :: List.replicate 3 startQueue
    lastHandle := 7 }

def onLeft (x : Exchange) (p : Part) : Part := { p with left := { p.left with line := some { exchange := x, orphan := false } } }
def onWall (x : Exchange) (p : Part) : Part := { p with wall := { p.wall with line := some { exchange := x, orphan := false } } }

def good : Reception := { complete := true, checkRight := true, kindRight := true, secondTransmitter := false }

/-! ### From the lists of a part to every number -/

theorem forall_slots (p : Part) (P : Booking → Prop) (h : ∀ x ∈ p.slots, ∀ b, x = some b → P b) :
    ∀ k b, p.slotAt k = some b → P b := by
  intro k b hb
  cases k with
  | zero => cases hb
  | succ m =>
    simp only [Part.slotAt, nth] at hb
    cases hm : p.slots[m]? with
    | none => simp [hm] at hb
    | some x => exact h x (List.mem_of_getElem? hm) b (by simpa [hm] using hb)

theorem no_entries (p : Part) (n : Nat) (h : ∀ fl ∈ p.floors, fl.openList.find? (fun e => e.seat == n) = none) :
    ∀ g, p.openEntry g n = none := by
  intro g
  cases g with
  | zero => rfl
  | succ m =>
    simp only [Part.openEntry, Part.floorAt, nth]
    cases hm : p.floors[m]? with
    | none => rfl
    | some x => exact h x (List.mem_of_getElem? hm)

theorem no_contexts (p : Part) (h : ∀ x ∈ p.contexts, x = none) : ∀ f, p.contextAt f = none := by
  intro f
  cases f with
  | zero => rfl
  | succ m =>
    simp only [Part.contextAt, nth]
    cases hm : p.contexts[m]? with
    | none => rfl
    | some x => simp [h x (List.mem_of_getElem? hm)]

theorem calm_of (p : Part) (h : ∀ x ∈ p.partitions, x.state = .closed) (hs : ∀ fl ∈ p.floors, fl.suspended = false) :
    p.calm := by
  refine ⟨fun k => ?_, fun f => ?_⟩
  · cases k with
    | zero => rfl
    | succ m =>
      have hc : (p.partitionAt (m + 1)).state = .closed := by
        simp only [Part.partitionAt, nth]
        cases hm : p.partitions[m]? with
        | none => rfl
        | some x => exact h x (List.mem_of_getElem? hm)
      simp only [Part.wallOpen, hc]
      rfl
  · cases f with
    | zero => rfl
    | succ m =>
      simp only [Part.floorAt, nth]
      cases hm : p.floors[m]? with
      | none => rfl
      | some x => exact hs x (List.mem_of_getElem? hm)

theorem onlyBooking_of (p : Part) (b : Booking) (h : p.slots = some b :: List.replicate 47 none) : p.onlyBooking 1 b := by
  refine ⟨by rw [h]; rfl, by simp only [Part.slotAt, nth, h]; rfl, fun j c hc => ?_⟩
  match j with
  | 0 => cases hc
  | 1 => rfl
  | m + 2 =>
    simp only [Part.slotAt, nth, h, List.getElem?_cons_succ, List.getElem?_replicate] at hc
    split at hc <;> cases hc

theorem onlyOneMoves_of_two (p : Part) (b c : Booking) (m : Nat) (h : p.slots = some b :: some c :: List.replicate 46 none)
    (hc : c.handle ≠ b.handle ∧ c.restsAt m) : p.onlyOneMoves 1 b m := by
  refine ⟨by rw [h]; rfl, by simp only [Part.slotAt, nth, h]; rfl, fun j d hd hj => ?_⟩
  match j with
  | 0 => cases hd
  | 1 => exact absurd rfl hj
  | 2 =>
    simp only [Part.slotAt, nth, h] at hd
    cases hd
    exact hc
  | k + 3 =>
    simp only [Part.slotAt, nth, h, List.getElem?_cons_succ, List.getElem?_replicate] at hd
    split at hd <;> cases hd

/-- A POLL of seat `n` of LEFT, with the image that stands. -/
def polledAt (n : Nat) (p : Part) : Part := onLeft (.poll n (p.imageOf n)) p

theorem good_left (p : Part) (n : Nat) (up : Uplink) (hp : p.power = .running ∧ (p.seatAt n).health.presence = .present ∧
    (p.seatAt n).badge = none ∧ seatOn .left n = n ∧ up.position = n ∧ up.badge = 0) :
    (idle (polledAt n p)).goodPoll .left n (p.imageOf n) good up :=
  ⟨hp.1, ⟨n, rfl, hp.2.2.2.1.symm, hp.2.2.2.2.1⟩, hp.2.1, rfl, rfl, rfl, Or.inr ⟨hp.2.2.1, hp.2.2.2.2.2⟩⟩

theorem room_slots : ∀ x ∈ room.slots, x = none := by decide +kernel
theorem room_noBookings (P : Booking → Prop) : ∀ k b, room.slotAt k = some b → P b :=
  forall_slots room P (fun x hx b hb => by rw [room_slots x hx] at hb; cases hb)
theorem meeting_slots : ∀ x ∈ meeting.slots, x = none ∨ x = some booking7 := by decide +kernel

/-! ### States that meet the hypotheses of the statements, in their order -/

theorem test_hyps_runs : (idle room).runs ∧ (idle meeting).runs := ⟨rfl, rfl⟩

/-- ReadAnswersTheImage: the kinds with the lowest and highest index, and indices outside. -/
theorem test_hyps_read : kindOf 1 = some .seat ∧ kindOf 10 = some .settings ∧ RecordKind.seat.holds 1 = true ∧
    RecordKind.seat.holds 96 = true ∧ RecordKind.seat.holds 0 = false ∧ RecordKind.seat.holds 97 = false ∧
    RecordKind.settings.holds 1 = true ∧ RecordKind.settings.holds 2 = false := by decide

/-- ReadAnswersTheImage: a handle held, and one not held; pages 0 to 3. -/
theorem test_hyps_readBooking : meeting.slotOf 7 = some 1 ∧ meeting.slotAt 1 = some booking7 ∧ meeting.slotOf 8 = none ∧
    meeting.slotOf 65535 = none := by decide +kernel

def marked : Part := { room with marks := room.marks.set .seat 96 true }

/-- RecordImagesAreLaidOut: the segments' bytes of the TABLE image. -/
theorem test_hyps_images : ∃ segment : Engine → List Byte, ∀ e, segment e =
    byte (match e.state with | .idle => 0 | .walking => 1 | .running => 2) ++
    byte (match e.scope with | .full => 0 | .sensors => 1) ++ byte e.unitsFound ++ byte e.unitsParked ++
    flagByte e.walkOverflow ++ bytes 2 e.conflicts := ⟨_, fun _ => rfl⟩

/-- MarksAndNoticesRequests: a mark at the end of the kind, and none. -/
theorem test_hyps_findChanged : RecordKind.seat.holds 1 = true ∧ marked.marks.get .seat 96 = true ∧
    (∀ m, 1 ≤ m → m < 96 → RecordKind.seat.holds m = true → marked.marks.get .seat m = true →
      RecordKind.seat = .booking ∧ marked.slotAt m = none) ∧
    (∀ m, 1 ≤ m → RecordKind.floor.holds m = true → marked.marks.get .floor m = true →
      RecordKind.floor = .booking ∧ marked.slotAt m = none) := by
  have h1 : ∀ m, m < 96 → marked.marks.get .seat m = false := by decide +kernel
  have h2 : ∀ m, m < 5 → marked.marks.get .floor m = false := by decide +kernel
  refine ⟨by decide, by decide +kernel, fun m _ hm _ hg => ?_, fun m _ hh hg => ?_⟩
  · rw [h1 m hm] at hg; cases hg
  · have h3 : 1 ≤ m ∧ m ≤ 4 := of_decide_eq_true hh
    have : m < 5 := by omega
    rw [h2 m this] at hg; cases hg

/-- PortTurnsWritesAway: a frame with a wrong check word, a code outside the catalogue, an unknown marker. -/
theorem test_hyps_portTurns : frameOk [0, 0, 1, 0, 0] = false ∧ (0xFF : Byte).toNat ∉ catalogueCodes ∧ (1 : Byte) ≠ 0x5A ∧
    (1 : Byte) ≠ 0xA5 := by decide +kernel

/-- ResetTableClearsTheTable and ResetTableCutsBookingsAndWalks: a RESET TABLE at a meeting, and at a table asleep. -/
theorem test_hyps_resetTable : (∃ p, exec (.resetTable [1]) (idle meeting) = .next { idle meeting with part := p }) ∧
    meeting.slots.length = 48 ∧ (∀ seg, (meeting.engine seg).line = none) ∧ meeting.control.tableState = .awake := by
  refine ⟨⟨_, rfl⟩, by decide +kernel, fun seg => by cases seg <;> rfl, rfl⟩

def storing : Part := { room with store := { room.store with copy := some room.settings } }
def lowered : Part := { room with power := .resetLow }

/-- StartsLoadTheStoredImage and ResetLowAndPowerLossStopThePart; a part in each state of its supply and of RESET. -/
theorem test_hyps_starts : room.store.copy = none ∧ storing.store.copy.isSome = true ∧ lowered.power = .resetLow ∧
    (after .powerLoss room).power = .off ∧ (after .powerLoss lowered).power = .offResetLow ∧
    (after .powerOn (after .powerLoss lowered)).power = .resetLow ∧
    (after .resetPinRise (after .powerLoss lowered)).power = .off ∧ lowered.store.copy = none ∧
    (requestCode (.identify [])).isSome = true ∧ (requestCode (.wake [])).isSome = true ∧
    (requestCode (.badFrame [])).isSome = true := by decide +kernel

/-- FramesCarryTheCheckWord: a frame that passes, and the check word of nine bytes. -/
theorem test_hyps_frames : frameOk ([0, 0, 1] ++ crcBytes [0, 0, 1]) = true ∧
    crc16 [0x31, 0x32, 0x33, 0x34, 0x35, 0x36, 0x37, 0x38, 0x39] = 0x29B1#16 := by decide +kernel

/-- PortOutputsFollowTheState: a request behind an event, one caught by a fall of RESET, and one written after the rise. -/
theorem test_hyps_port : (idle room).inHand = none ∧
    ({ part := room, pending := [.clockSecond, .wake []] } : State).inHand = some 0x41 ∧
    ({ part := room, pending := [.resetPinFall, .wake [], .resetPinRise] } : State).inHand = some 0x41 ∧
    ({ part := room, pending := [.resetPinFall, .resetPinRise, .wake []] } : State).inHand = none ∧
    (idle lowered).inHand = none := by decide +kernel

/-- The request in hand at a fall of RESET is lost: its step changes nothing (R190). -/
theorem test_lostRequest : after (.wake []) (after .resetPinFall room) = after .resetPinFall room := by decide +kernel

/-- RDY is low while a request waits for its step, and a read then returns the busy image with its code (R176, R178). -/
theorem test_rdy : (idle room).rdy = true ∧ ({ part := room, pending := [.wake []] } : State).rdy = false ∧ (idle lowered).rdy = false ∧
    ({ part := room, pending := [.wake []] } : State).readTransaction 4 = (busyImage 0x41).transaction 4 := by decide +kernel

/-- TheClockIsSetAndPasses: the bounds of both numbers, and no booking that meets a threshold. -/
theorem test_hyps_setClock : (16777215 ≤ 16777215 ∧ 59 ≤ 59 ∧ 59 < 60 ∧ 60 < 256) ∧
    ∀ k b, room.slotAt k = some b → b.state = .ended := ⟨by decide, room_noBookings _⟩

def pending7 : Booking :=
  { booking7 with state := .pending, zones := ⟨2, 2⟩, startMinute := 603, floor := none, startNoted := false }

/-- A LIVE booking whose floor holds the zones of another. -/
def holder9 (run : ZoneRun) : Booking := { booking7 with handle := 9, zones := run }

/-- A booking whose occupation start is reached at minute 601, on a zone that another floor holds. -/
def atBoundary : Part :=
  { room with
    clock := { valid := true, minute := 600, second := 59 }
    slots := some pending7 :: some (holder9 ⟨2, 2⟩) :: List.replicate 46 none
    floors := { floor1 with zones := some ⟨2, 2⟩, booking := some 9 } :: List.replicate 3 startFloor }

/-- TheClockIsSetAndPasses, at a minute boundary. -/
theorem test_hyps_minuteBoundary : atBoundary.clock.valid = true ∧ atBoundary.clock.minute < 16777215 ∧ atBoundary.clock.second = 59 ∧
    pending7.state = .pending ∧ pending7.startMinute - pending7.lead ≤ atBoundary.clock.minute + 1 ∧
    atBoundary.clock.minute + 1 < pending7.startMinute ∧ atBoundary.clock.minute + 1 < pending7.endMinute + pending7.grace ∧
    atBoundary.control.tableState = .awake ∧ atBoundary.unheld pending7.zones = false := by decide +kernel
theorem test_hyps_minuteBoundary_slots : atBoundary.onlyOneMoves 1 pending7 601 :=
  onlyOneMoves_of_two _ _ _ _ rfl ⟨by decide, show 601 < 702 by decide⟩

theorem test_minuteBoundary : (after .minuteBoundary atBoundary).slotAt 1 = some { pending7 with state := .waiting } ∧
    (after .minuteBoundary atBoundary).clock = { valid := true, minute := 601, second := 0 } := by decide +kernel

/-- CREATE_BOOKING of zones Z2 to Z3 from minute 620 to 700 with the roster entry of seat 13. -/
def createBody : List Byte := [2, 3, 0, 2, 108, 0, 2, 188, 0, 1, 13, 0, 5, 3]
def createRequest : CreateRequest :=
  { zones := ⟨2, 3⟩, startMinute := 620, endMinute := 700, margins := none, params := none, admission := none
    roster := [{ seat := 13, tag := 5, role := .ordinary }] }

/-- CreateBookingMakesOrRefuses. -/
theorem test_hyps_createBooking : parseCreate createBody = some createRequest ∧ meeting.clock.valid = true ∧
    meeting.createInRange createRequest = true ∧ meeting.freeSlot = some 2 ∧
    createRequest.roster.length ≤ meeting.rosterFree ∧
    meeting.overlapConflict 0 createRequest.zones (620 - 5) (700 + 2) = false ∧ meeting.control.tableState = .awake ∧
    meeting.clock.minute < 620 - 5 := by decide +kernel
theorem test_hyps_createBooking_hosts : ∀ k b, meeting.slotAt k = some b → b.origin = .host :=
  forall_slots meeting _ (fun x hx b hb => by
    rcases meeting_slots x hx with h | h <;> rw [h] at hb <;> cases hb; rfl)

def unset : Part := { meeting with clock := { valid := false, minute := 0, second := 0 } }
def crowded : Part := { room with slots := List.replicate 48 (some { booking7 with roster := List.replicate 16 { seat := 13, tag := 5, role := .ordinary } }) }
def drained : Part := { crowded with slots := List.replicate 47 (some { booking7 with roster := List.replicate 17 { seat := 13, tag := 5, role := .ordinary } }) ++ [none] }

/-- CreateBookingMakesOrRefuses, refusal by refusal. -/
theorem test_hyps_createRefusals : unset.clock.valid = false ∧
    meeting.createInRange { createRequest with endMinute := 620 } = false ∧ crowded.createInRange createRequest = true ∧
    crowded.freeSlot = none ∧ drained.freeSlot ≠ none ∧ drained.rosterFree < createRequest.roster.length ∧
    meeting.createInRange { createRequest with zones := ⟨1, 1⟩, roster := [] } = true ∧
    meeting.overlapConflict 0 ⟨1, 1⟩ (meeting.created { createRequest with zones := ⟨1, 1⟩, roster := [] }).occStart
      (meeting.created { createRequest with zones := ⟨1, 1⟩, roster := [] }).occEnd = true := by decide +kernel

def ahead7 : Booking := { booking7 with state := .pending, floor := none, startMinute := 650, startNoted := false }
def planned : Part := { room with slots := some ahead7 :: List.replicate 47 none, lastHandle := 7 }
theorem planned_slots : ∀ x ∈ planned.slots, x = none ∨ x = some ahead7 := by decide +kernel

/-- CHANGE_BOOKING of handle 7: a new end at minute 690 with grace 3. -/
def changeBody : List Byte := [0, 7, 2, 0, 0, 2, 178, 3]
def changeRequest : ChangeRequest :=
  { handle := 7, now := false, span := none, ending := some { endMinute := 690, grace := 3 }, params := none, admission := none }

/-- ChangeBookingWritesOrRefuses. -/
theorem test_hyps_changeBooking : parseChange changeBody = some changeRequest ∧ planned.slotOf 7 = some 1 ∧
    planned.slotAt 1 = some ahead7 ∧ ahead7.state = .pending ∧ ahead7.floor = none ∧
    planned.changeInRange ahead7 changeRequest = true ∧
    planned.overlapConflict 7 ahead7.zones (650 - 5) (690 + 3) = false ∧ planned.control.tableState = .awake ∧
    planned.clock.minute < 650 - 5 ∧ planned.clock.minute < 690 + 3 := by decide +kernel
theorem test_hyps_changeBooking_hosts : ∀ k b, planned.slotAt k = some b → b.origin = .host :=
  forall_slots planned _ (fun x hx b hb => by
    rcases planned_slots x hx with h | h <;> rw [h] at hb <;> cases hb; rfl)

def withState (st : BookingState) : Part := { planned with slots := some { ahead7 with state := st } :: List.replicate 47 none }

/-- ChangeBookingWritesOrRefuses: no record, PREPARING, CLOSING, ENDED, and the span group in WAITING, READY and LIVE. -/
theorem test_hyps_changesRefused : parseChange [0, 7, 1, 0, 2, 2, 0, 2, 108, 5] =
      some { changeRequest with span := some { zones := ⟨2, 2⟩, startMinute := 620, lead := 5 }, ending := none } ∧
    room.bookingOf 7 = none ∧
    ([.preparing, .closing, .ended, .waiting, .ready, .live] : List BookingState).all
      (fun st => decide (((withState st).bookingOf 7).map (fun b => b.state) = some st)) = true ∧
    parseRosterPut [0, 7, 1, 3, 0, 5, 3] = some (7, [{ seat := 3, tag := 5, role := .ordinary }]) ∧
    parseRosterDrop [0, 7, 1, 3] = some (7, [3]) := by decide +kernel

/-- RetireBookingByState, state by state, and RosterRequestsWriteTheRoster. -/
theorem test_hyps_retireAndRoster : room.slotOf 7 = none ∧
    ([.pending, .waiting, .closing, .ended] : List BookingState).all
      (fun st => decide ((withState st).slotOf 7 = some 1 ∧ ((withState st).slotAt 1).map (fun b => b.state) = some st)) = true ∧
    noRepeats [3] = true ∧ [({ seat := 3, tag := 5, role := .ordinary } : RosterEntry)].all (planned.entryOk ahead7.zones) = true ∧
    rosterOk (putEntries [] [{ seat := 3, tag := 5, role := .ordinary }]) = true ∧ 1 ≤ planned.rosterFree := by decide +kernel

/-- RetireBookingByState, where close-out begins: with microphones open. -/
theorem test_hyps_closeOut : meeting.slotOf 7 = some 1 ∧ meeting.slotAt 1 = some booking7 ∧ booking7.state = .live ∧
    booking7.floor = some 1 ∧ nth meeting.floors 1 = some floor1 ∧ meeting.contexts.length = 4 ∧ 2 ∈ floor1.openSeats := by
  decide +kernel

/-- A READY booking, whose floor has no microphone open; its zone has seats in service, or none. -/
def readied (seats : List Seat) : Part :=
  { meeting with
    seats := seats
    slots := some { booking7 with state := .ready } :: List.replicate 47 none
    floors := { floor1 with state := .ready, openList := [] } :: List.replicate 3 startFloor
    queues := List.replicate 4 startQueue }

/-- RetireBookingByState, with an empty open list: the seats that the clear phase waits for. -/
theorem test_hyps_closeOutAtOnce :
    seatNumbers.filter (fun n => (readied meeting.seats).seatIn ⟨1, 1⟩ n && (readied meeting.seats).inService n) =
      [1, 2, 3, 4, 5, 6] ∧
    seatNumbers.filter (fun n => (readied room.seats).seatIn ⟨1, 1⟩ n && (readied room.seats).inService n) = [] ∧
    (readied room.seats).slotOf 7 = some 1 := by decide +kernel
theorem test_closeOutAtOnce :
    ((after (.retireBooking [0, 7, 0]) (readied meeting.seats)).contextAt 1).map (fun c => c.phase) = some .clear ∧
    ((after (.retireBooking [0, 7, 0]) (readied room.seats)).floorAt 1).state = .free := by decide +kernel

theorem meeting_partitions : ∀ x ∈ meeting.partitions, x.state = .closed := by decide +kernel
theorem meeting_calm : meeting.calm := calm_of meeting meeting_partitions (by decide +kernel)

theorem test_retireBeginsCloseOut : let p := after (.retireBooking [0, 7, 0]) meeting
    p.answer = { status := .accepted, code := 0x12, body := [] } ∧ (p.floorAt 1).state = .closing ∧
      (p.floorAt 1).openList = [] ∧ (p.queueAt 1).entries = [] ∧
      (p.contextAt 1).map (fun c => (c.booking, c.phase, c.work.map (fun w => w.seat))) = some (7, .close, [2, 3]) := by
  decide +kernel

/-! ### The floor and its queue -/

/-- A floor that serves a PRIVATE booking, with seat 6 not admitted to it. -/
def secret : Part :=
  { meeting with slots := some { booking7 with confidentiality := .privateMeeting } :: List.replicate 47 none }
def pausedFloor : Part := { meeting with floors := { floor1 with suspended := true } :: List.replicate 3 startFloor }
def closingFloor : Part := { meeting with floors := { floor1 with state := .closing } :: List.replicate 3 startFloor }
def openThree : Part :=
  { meeting with floors := { floor1 with params := some { meetingParams with limit := 3 } } :: List.replicate 3 startFloor }

/-- GrantOpensOrRefuses, clause by clause: no floor, a floor that is not LIVE or is suspended, a seat out of service, one not
admitted to a PRIVATE booking, one that is open. -/
theorem test_hyps_grantRefusals : meeting.floorOf 96 = none ∧ meeting.floorOf 6 = some 1 ∧ meeting.floorOf 7 = some 1 ∧
    closingFloor.floorOf 6 = some 1 ∧ (closingFloor.floorAt 1).state ≠ .live ∧ (pausedFloor.floorAt 1).suspended = true ∧
    (meeting.floorAt 1).state = .live ∧ (meeting.floorAt 1).suspended = false ∧ meeting.inService 7 = false ∧
    meeting.inService 6 = true ∧ secret.isPrivate 1 = true ∧ secret.admitted 6 = false ∧ meeting.isPrivate 1 = false ∧
    (meeting.openEntry 1 2).isSome = true := by decide +kernel

theorem meeting_noEntry (n : Nat) (h2 : n ≠ 2) (h3 : n ≠ 3) : ∀ g, meeting.openEntry g n = none :=
  no_entries meeting n (fun fl hfl => by
    simp only [meeting, List.mem_cons, List.mem_replicate] at hfl
    rcases hfl with rfl | ⟨_, rfl⟩
    · simp only [floor1, speaker, List.find?]
      have a : (2 == n) = false := by simpa using Ne.symm h2
      have b : (3 == n) = false := by simpa using Ne.symm h3
      rw [a, b]
    · rfl)

/-- GrantOpensOrRefuses: the chair at a full floor, and a delegate below the limit. -/
theorem test_hyps_grantOpens : (meeting.seatAt 1).role = .chair ∧ meeting.inService 1 = true ∧ meeting.floorOf 1 = some 1 ∧
    nth meeting.floors 1 = some floor1 ∧ floor1.params = some meetingParams ∧ floor1.delegates = 2 ∧
    openThree.floorOf 6 = some 1 ∧ openThree.inService 6 = true ∧ openThree.isPrivate 1 = false ∧
    (openThree.seatAt 6).role ≠ .chair := by decide +kernel
theorem test_hyps_grantOpens_entries : (∀ g, meeting.openEntry g 1 = none) ∧ ∀ g, meeting.openEntry g 6 = none :=
  ⟨meeting_noEntry 1 (by decide) (by decide), meeting_noEntry 6 (by decide) (by decide)⟩

/-- GrantOpensOrRefuses, at the limit. -/
theorem test_hyps_grantAtTheLimit : meeting.floorOf 6 = some 1 ∧ meetingParams.limit ≤ floor1.delegates ∧
    (meeting.seatAt 6).role ≠ .chair ∧ floor1.oldestDelegate = some 2 ∧ (meeting.seatAt 2).priorityHeld = false := by
  decide +kernel
theorem test_grantFull : (after (.grant [6, 0]) meeting).answer = { status := .floorFull, code := 0x20, body := [] } := by
  decide +kernel
theorem test_grantReplaces : (after (.grant [6, 1]) meeting).records = { meeting.records with
    seats := (upd meeting.seats 2 (fun x => { x with guardUntil := some (meeting.now + Config.guard) })).map Seat.quiet
    floors := upd meeting.floors 1 (fun _ => { floor1 with openOrder := 3, openList := [speaker 3 2, speaker 6 3] }) } := by
  decide +kernel

def moderatedFloor : Part :=
  { meeting with floors := { floor1 with params := some { meetingParams with mode := .moderated } } :: List.replicate 3 startFloor }

/-- CloseMicClosesTheEntry: a seat that is not open, one that closes without an auto grant, and one with. -/
theorem test_hyps_closeMic : meeting.openEntry 1 6 = none ∧ (moderatedFloor.openEntry 1 2).isSome = true ∧
    moderatedFloor.floorOf 2 = some 1 ∧ (moderatedFloor.floorAt 1).par.mode = .moderated ∧
    (moderatedFloor.seatAt 2).priorityHeld = false ∧ meetingParams.mode = .autoQueue ∧ floor1.delegates = meetingParams.limit ∧
    ((floor1.openList.filter (fun e => e.seat != 2)).filter (fun e => decide (e.cls = .delegate))).length + 1 =
      floor1.delegates ∧
    meeting.isDelegate 1 2 = true ∧ (meeting.queueAt 1).entries = [waiting 4 1 .ordinary, waiting 5 2 .ordinary] ∧
    (∀ y ∈ [waiting 5 2 .ordinary], y.seat ≠ 4) ∧ meeting.inService 4 = true ∧ (meeting.seatAt 4).role ≠ .chair := by
  decide +kernel
theorem test_hyps_closeMic_entries : ∀ g, meeting.openEntry g 4 = none := meeting_noEntry 4 (by decide) (by decide)
theorem test_closeMicGrantsTheHead : (after (.closeMic [2]) meeting).records = { meeting.records with
    floors := upd meeting.floors 1 (fun _ => { floor1 with openOrder := 3, openList := [speaker 3 2, speaker 4 3] })
    queues := upd meeting.queues 1 (fun _ => { entries := [waiting 5 2 .ordinary], lastArrival := 2 }) } := by decide +kernel

def fullQueue : Part :=
  { meeting with floors := { floor1 with params := some { meetingParams with queueCap := 2 } } :: List.replicate 3 startFloor }
def prioritySeat : Part := { meeting with seats := upd meeting.seats 6 (fun x => { x with role := .priority }) }

/-- EnqueuePlacesTheSeat: the refusals' states, a seat queued already, an ORDINARY seat and a PRIORITY one. -/
theorem test_hyps_enqueue : meeting.isQueued 1 4 = true ∧ meeting.openEntry 1 4 = none ∧ meeting.isQueued 1 6 = false ∧
    meeting.openEntry 1 6 = none ∧ (fullQueue.floorAt 1).par.queueCap ≤ (fullQueue.queueAt 1).entries.length ∧
    fullQueue.floorOf 6 = some 1 ∧ fullQueue.isQueued 1 6 = false ∧ (meeting.queueAt 1).entries.length < 16 ∧
    (meeting.floorAt 1).par.queueCap = 16 ∧ 0 < meeting.queueFree ∧ (meeting.seatAt 6).role = .ordinary ∧
    (prioritySeat.seatAt 6).role = .priority ∧ prioritySeat.inService 6 = true ∧ prioritySeat.floorOf 6 = some 1 := by
  decide +kernel

/-- WithdrawRemovesTheEntry: the range's bounds, a seat in the queue and one that is not, a table that sleeps. -/
theorem test_hyps_withdraw : ¬ (1 ≤ 0 ∧ 0 ≤ 96) ∧ ¬ (1 ≤ 97 ∧ 97 ≤ 96) ∧ meeting.floorOf 5 = some 1 ∧ meeting.isQueued 1 5 = true ∧
    meeting.isQueued 1 3 = false ∧ closingFloor.floorOf 5 = some 1 ∧
    ({ room with control := { room.control with tableState := .standby } } : Part).control.tableState ≠ .awake := by
  decide +kernel

/-- MoveEntryMovesWithinTheClass. -/
theorem test_hyps_moveEntry : waiting 5 2 .ordinary ∈ (meeting.queueAt 1).entries ∧ meeting.floorOf 5 = some 1 ∧
    ((meeting.queueAt 1).entries.map (fun y => y.seat)).Nodup ∧ meeting.isQueued 1 6 = false := by decide +kernel
theorem test_moveEntry :
    (after (.moveEntry [5, 1]) meeting).queueAt 1 =
      { entries := [waiting 5 2 .ordinary, waiting 4 1 .ordinary], lastArrival := 2 } ∧
    (after (.moveEntry [5, 1]) meeting).answer = { status := .done, code := 0x24, body := [1] } := by decide +kernel

/-- CancelFloorClearsTheFloor: floors 0 and 5, a FREE floor and a LIVE one. -/
theorem test_hyps_cancelFloor : ¬ (1 ≤ 0 ∧ 0 ≤ 4) ∧ ¬ (1 ≤ 5 ∧ 5 ≤ 4) ∧ (meeting.floorAt 4).state ≠ .live ∧
    nth meeting.floors 1 = some floor1 ∧ (∀ e ∈ floor1.openList, (meeting.seatAt e.seat).priorityHeld = false) ∧
    (floor1.openList.map (fun e => e.seat)).Nodup := by decide +kernel
theorem test_cancelFloor : (after (.cancelFloor [1]) meeting).floorAt 1 = { floor1 with openList := [] } ∧
    (after (.cancelFloor [1]) meeting).queueAt 1 = { entries := [], lastArrival := 2 } := by decide +kernel

def timedParams : FloorParams :=
  { meetingParams with mode := .moderated, allowance := 10, warningLead := 5, expiryAction := .close }
def timedFloor : Floor :=
  { floor1 with
    params := some timedParams
    openList := [{ speaker 2 1 with allowanceUsed := 10, spokenS := 10 }, { speaker 3 2 with allowanceUsed := 10, spokenS := 5 }] }

/-- Seat 2 has spoken its time out, and seat 3 has 5 s left, which is the warning lead. -/
def timed : Part := { meeting with floors := timedFloor :: List.replicate 3 startFloor }

/-- SpeakingTimeWaitsAndGuardsEnd. -/
theorem test_hyps_speakingTime : nth timed.floors 1 = some timedFloor ∧ timedFloor.params = some timedParams ∧
    timedFloor.openList.find? (fun x => x.seat == 2) = some { speaker 2 1 with allowanceUsed := 10, spokenS := 10 } ∧
    timedFloor.openList.find? (fun x => x.seat == 3) = some { speaker 3 2 with allowanceUsed := 10, spokenS := 5 } ∧
    10 ≤ 5 + timedParams.warningLead ∧ (timedFloor.openList.map (fun x => x.seat)).Nodup ∧
    (timed.seatAt 2).priorityHeld = false ∧ floor1.openList.find? (fun x => x.seat == 2) = some (speaker 2 1) ∧
    (speaker 2 1).allowanceUsed = 0 := by decide +kernel
theorem test_allowanceExpiry : (after (.allowanceExpiry 1 2) timed).records = { timed.records with
    seats := (upd timed.seats 2 (fun x => { x with guardUntil := some (timed.now + Config.guard) })).map Seat.quiet
    floors := upd timed.floors 1 (fun fl =>
      { fl with openList := [{ speaker 3 2 with allowanceUsed := 10, spokenS := 5 }] }) } := by decide +kernel

/-- The warning lead is 0: seat 2's warning and expiry fall together. -/
def leadless (action : ExpiryAction) : Part :=
  { timed with floors :=
      { timedFloor with params := some { timedParams with warningLead := 0, expiryAction := action } } ::
        List.replicate 3 startFloor }

/-- SpeakingTimeWaitsAndGuardsEnd, a warning lead of 0, and an overtime entry that is not warned. -/
theorem test_hyps_warningAtLeadZero : (leadless .warnOnly).floors[0]?.bind (fun fl => fl.params) =
      some { timedParams with warningLead := 0, expiryAction := .warnOnly } ∧
    (leadless .close).floors[0]?.map (fun fl => fl.openList) = some timedFloor.openList ∧
    ((leadless .close).seatAt 2).priorityHeld = false ∧ 10 ≤ 10 + 0 ∧
    ({ speaker 2 1 with overtime := true } : OpenEntry).warned = false := by decide +kernel
theorem test_warningAtLeadZero_warnOnly : ((after (.speakingWarning 1 2) (leadless .warnOnly)).floorAt 1).openList =
    [{ speaker 2 1 with allowanceUsed := 10, spokenS := 10, warned := true, overtime := true },
     { speaker 3 2 with allowanceUsed := 10, spokenS := 5 }] := by decide +kernel
theorem test_warningAtLeadZero_close :
    (after (.speakingWarning 1 2) (leadless .close)).records = (after (.allowanceExpiry 1 2) (leadless .close)).records ∧
    ((after (.speakingWarning 1 2) (leadless .close)).openEntry 1 2).isNone = true := by decide +kernel

/-- Log entry 38: an overtime entry that allowance NOW leaves with time stays open beside `expiry_action` to CLOSE. -/
theorem test_nowBeforeClose : ((((leadless .close).updEntry 1 2 (fun e => { e with warned := true, overtime := true })).timerChange 1
      { timedParams with warningLead := 0, expiryAction := .warnOnly }
      { timedParams with warningLead := 0, allowance := 20 } true).openEntry 1 2) =
    some { speaker 2 1 with allowanceUsed := 20, spokenS := 10 } := by decide +kernel
theorem test_leadToZero : ((leadless .close).timerChange 1 timedParams { timedParams with warningLead := 0 } false).openEntry 1 2 =
    none := by decide +kernel

def guarded : Part := { meeting with seats := upd meeting.seats 6 (fun x => { x with guardUntil := some 2000000 }) }

/-- SpeakingTimeWaitsAndGuardsEnd: a floor with a lifetime and one without, a guard ahead and one reached. -/
theorem test_hyps_waits : (meeting.floorAt 1).params = some meetingParams ∧ meetingParams.lifetime = 0 ∧
    ({ meetingParams with lifetime := 5 } : FloorParams).lifetime ≠ 0 ∧ (guarded.seatAt 6).guardUntil = some 2000000 ∧
    2000000 ≤ ({ guarded with now := 2000000 } : Part).now := by decide +kernel

/-- TimebaseSecondCounts. -/
theorem test_hyps_timebaseSecond : 1000000 = (meeting.now / Config.second + 1) * Config.second := by decide +kernel

def openFloorPart (overflow : Overflow) : Part :=
  { meeting with
    floors := { floor1 with params := some { meetingParams with mode := .openFloor, overflow := overflow } } ::
      List.replicate 3 startFloor }

/-! ### Displays, settings, walks and waking -/

/-- CHANGE_DISPLAY of the fixed level of D8, and of a display and a level out of range. -/
def levelOfDisplay (d level : Byte) : List Byte := [d, 0x80, 0, 0, 0, 0, 0, 0, 0, 0, 0, 0, 0, level]

/-- DisplayAndSettingsRequests, displays. -/
theorem test_hyps_changeDisplay :
    (parseDisplay (levelOfDisplay 8 15)).map (fun r => (r.display, r.fixedLevel, r.ok)) = some (8, some 15, true) ∧
    (parseDisplay (levelOfDisplay 9 15)).map (fun r => r.display) = some 9 ∧
    (parseDisplay (levelOfDisplay 8 16)).map (fun r => r.ok) = some false := by decide +kernel

/-- DisplayAndSettingsRequests: a group of settle counts, a group twice, and a store in flight. -/
theorem test_hyps_changeSettings : parseSettings [2, 4, 3, 2] = some [.counts 4 3 2] ∧
    (noRepeats ([SettingsItem.counts 4 3 2].map SettingsItem.code) && [SettingsItem.counts 4 3 2].all SettingsItem.ok) = true ∧
    parseSettings [2, 4, 3, 2, 2, 4, 3, 2] = some [.counts 4 3 2, .counts 4 3 2] ∧
    noRepeats ([SettingsItem.counts 4 3 2, .counts 4 3 2].map SettingsItem.code) = false ∧
    storing.store.copy.isSome = true ∧ room.store.copy = none ∧ (meeting.floorAt 1).state ≠ .free ∧
    (∀ i ∈ [SettingsItem.counts 4 3 2], i.code ≠ 1) := by decide +kernel
theorem test_hyps_changeSettings_map : parseSettings
    [1, 1, 12, 1, 12, 13, 24, 13, 24, 25, 36, 25, 36, 37, 48, 37, 48] ≠ none := by decide +kernel

/-- DisplayAndSettingsRequests, the store. -/
theorem test_hyps_store : storing.store.copy = some room.settings ∧ room.store.copy = none := by decide +kernel

/-- WalkAndWakeRequests: a segment whose zones no floor holds, one whose zones a floor holds, one that walks. -/
theorem test_hyps_walk : segmentCode 1 = some .left ∧ segmentCode 3 = some .wall ∧ room.control.tableState = .awake ∧
    (∀ f ∈ room.floors, f.state = .free) ∧ meeting.floorOfZone 1 = some 1 ∧
    (nth meeting.settings.zoneMap 1).map (fun r => r.on .left || r.on .right) = some true ∧
    room.left.state ≠ .walking ∧ State.reset.part.left.state = .walking ∧ room.left.line = none ∧
    (onLeft (.probe 1) room).left.line ≠ none := by decide +kernel

def asleep : Part :=
  { room with
    control := { room.control with tableState := .standby }
    left := { room.left with state := .idle }, right := { room.right with state := .idle }
    wall := { room.wall with scope := .sensors } }

/-- WalkAndWakeRequests and SleepAndTheWakeLine. -/
theorem test_hyps_wake : asleep.control.tableState = .standby ∧ asleep.left.state = .idle ∧ asleep.left.wakeLine = false ∧
    room.left.state ≠ .idle ∧ room.left.wakeLine = false := by decide +kernel

/-! ### The seat link -/

def health (pr : Presence) (c e : Nat) : Health := { presence := pr, settleCount := c, errorScore := e }

/-- PresenceAndBadgesMoveByTheRules: each clause at the bound of its range. -/
theorem test_presence : (health .settling 2 0).move true 3 = health .present 0 0 ∧
    (health .settling 1 0).move true 3 = health .settling 2 0 ∧
    ((health .present 0 88).score false).move false 3 = health .degraded 0 96 ∧
    ((health .present 0 87).score false).move false 3 = health .present 0 95 ∧
    ((health .degraded 0 248).score false).move false 3 = health .cutOff 0 256 ∧
    ((health .degraded 0 247).score false).move false 3 = health .degraded 0 255 ∧
    ((health .degraded 0 49).score true).move true 3 = health .present 0 48 ∧
    ((health .degraded 0 50).score true).move true 3 = health .degraded 0 49 ∧
    ((health .settling 2 249).score false).move false 3 = health .cutOff 0 257 ∧
    (health .settling 2 65535).score false = health .settling 2 65535 := by decide
theorem test_badge :
    let held : Seat := { startSeat with badge := some 5, badgeCandidate := some 6, badgeRepeat := 1 }
    Seat.readBadge 2 0 held = startSeat ∧ Seat.readBadge 2 5 held = { startSeat with badge := some 5 } ∧
    Seat.readBadge 2 6 held = { startSeat with badge := some 6 } ∧ Seat.readBadge 3 6 held = { held with badgeRepeat := 2 } ∧
    Seat.readBadge 2 7 held = { held with badgeCandidate := some 7, badgeRepeat := 1 } := by decide

def polled : Part := onLeft (.poll 4 (meeting.imageOf 4)) meeting
def quietUplink : Uplink :=
  { position := 4, speak := none, next := none, cancelAll := none, priorityUp := false, badge := 0, echo := .closed }

/-- PresenceAndBadgesMoveByTheRules, at the end of a POLL, and PollWithNothingNew. -/
theorem test_hyps_poll : polled.left.line = some { exchange := .poll 4 (meeting.imageOf 4), orphan := false } ∧
    seatOn .left 4 = 4 ∧ (polled.seatAt 4).health.presence = .present ∧ Presence.present.polled = true ∧
    (polled.seatAt 4).badge = none ∧ (polled.seatAt 4).priorityUp = false ∧ good.complete = true ∧ quietUplink.position = 4 := by
  decide +kernel
theorem test_hyps_poll_good : (idle polled).goodPoll .left 4 (meeting.imageOf 4) good quietUplink :=
  good_left meeting 4 quietUplink (by decide +kernel)
theorem polled_contexts : ∀ x ∈ polled.contexts, x = none := by decide +kernel
theorem test_hyps_poll_contexts : ∀ f, polled.contextAt f = none :=
  no_contexts polled polled_contexts
theorem test_pollWithNothingNew : (after (.pollAnswer .left good quietUplink) polled).records = { polled.records with
    seats := (upd polled.seats 4 (fun x => { x with badgeCandidate := none })).map Seat.quiet } := by decide +kernel

/-- A table whose wall units stand at positions 1 to 3. -/
def walled : Part :=
  { room with
    displays := upd room.displays 1 (fun d => { d with health := health .present 0 10 })
    partitions := upd room.partitions 1 (fun x => { x with health := health .present 0 10, candidate := some .opened, repeatCount := 3 })
    ambient := { room.ambient with health := health .present 0 10 }
    wall := { room.wall with roles := [some (.display 1), some .ambient, some (.partition 1)] ++ List.replicate 9 none } }

/-- ShowAndAmbientAnswers and SensePartitionSettles: a reading that agrees, one that differs and one that settles. -/
theorem test_hyps_wallAnswers : walled.roleAt 1 = some (.display 1) ∧ walled.roleAt 2 = some .ambient ∧
    walled.roleAt 3 = some (.partition 1) ∧ (walled.displayAt 1).health.presence.polled = true ∧
    walled.ambient.health.presence.polled = true ∧
    (nth walled.partitions 1).map (fun x => (x.health.presence.polled, x.state, x.candidate, x.repeatCount)) =
      some (true, .closed, some .opened, 3) ∧
    (onWall (.sense 3) walled).wall.line = some { exchange := .sense 3, orphan := false } ∧
    ¬ (3 + 1 < walled.settings.partitionSettle) ∧ walled.settings.partitionSettle ≤ 3 + 1 ∧
    1 < walled.settings.partitionSettle := by decide +kernel

def probed : Part :=
  { onLeft (.probe 4) meeting with seats := upd meeting.seats 4 (fun x => { x with health := health .cutOff 7 0 }) }

/-- ProbeFindsTheUnit: an ABSENT record, and a CUT_OFF one at its eighth GOOD PROBE. -/
theorem test_hyps_probe : (nth (onLeft (.probe 7) meeting).seats 7).map (fun x => x.health.presence) = some .absent ∧
    seatOn .left 7 = 7 ∧ probed.left.walkRequested = false ∧ (nth probed.seats 4).map (fun x => (x.health.presence, x.unitKind, x.unitSerial)) =
      some (.cutOff, some .delegate, some 1) ∧ probed.left.line = some { exchange := .probe 4, orphan := false } := by
  decide +kernel

def walking (ph : WalkPhase) (pos : Nat) (line : Option OnLine) : Part :=
  { room with left := { room.left with
      state := .walking, line := line
      walk := some { phase := ph, position := pos, attempts := 1, kept := [], roles := [] } } }

/-- WalkOffersAndGivesPositions. -/
theorem test_hyps_walks :
    ((walking .toBegin 1 none).left.state, (walking .toBegin 1 none).left.line, (walking .toBegin 1 none).left.walkRequested) =
      (.walking, none, false) ∧
    ((walking .lineBreak 1 none).left.walk).map (fun w => w.phase) = some .lineBreak ∧
    (walking .offering 1 (some { exchange := .assign 1, orphan := false })).left.line =
      some { exchange := .assign 1, orphan := false } ∧
    ((walking .parking 1 (some { exchange := .park 1, orphan := false })).left.walk).map (fun w => (w.phase, w.position)) =
      some (.parking, 1) := by decide +kernel

def waitingWall : Part := { room with now := 5, wall := { room.wall with probeDue := List.replicate 12 700 } }

/-- ProbeDueSendsAnExchange: a wall that waits, and a segment that walks. -/
theorem test_hyps_probeDue : waitingWall.engineWaits .wall = true ∧ waitingWall.earliestProbe .wall = some 700 ∧
    State.reset.part.engineWaits .left = false := by decide +kernel
theorem test_probeDue : (after (.probeDue .wall) waitingWall).now = 700 ∧
    (after (.probeDue .wall) waitingWall).wall.line = some { exchange := .probe 1, orphan := false } := by decide +kernel

/-- A segment whose positions 3, 7 and 5 are urgent: seats 3 and 5 are PRESENT, seat 7 is not. -/
def urgentLeft (x : Exchange) (l : List Nat) : Part :=
  onLeft x { meeting with left := { meeting.left with urgent := l, pointer := 48 } }

/-- EnginesSendNextAndCountConflicts: exchanges that ask for nothing, with an urgent position, a due one and none due. -/
theorem test_hyps_next : (urgentLeft (.probe 7) [7, 3, 5]).presenceAt .left 7 = .absent ∧
    (urgentLeft (.probe 7) [7, 3, 5]).left.held = false ∧ (urgentLeft (.probe 7) []).left.pointer ≤ 48 ∧
    ((urgentLeft (.probe 7) [7, 3, 5]).presenceAt .left 3).polled = true ∧
    (urgentLeft (.probe 7) []).left.scope = .full ∧ (polled.seatAt 4).flashDue = false ∧ waitingWall.wall.urgent = [] ∧
    (List.range' 1 12).all (fun pos => !(waitingWall.presenceAt .wall pos).polled && decide (waitingWall.now < 700)) = true ∧
    (waitingWall.displays.all (fun d => decide (d.content = waitingWall.contentFor d ∧
      d.level = waitingWall.levelFor d ∧ d.drive = waitingWall.driveFor (waitingWall.levelFor d)))) = true := by decide +kernel
theorem test_next : (after (.responseTimeout .left) (urgentLeft (.probe 7) [7, 3, 5])).left.line.map (fun l => l.exchange) =
      some (.poll 3 (meeting.imageOf 3)) ∧
    (after (.responseTimeout .left) (urgentLeft (.probe 7) [])).left.line.map (fun l => l.exchange) =
      some (.poll 1 (meeting.imageOf 1)) := by decide +kernel

/-- EnginesSendNextAndCountConflicts: an answer of another position while a second transmitter was sensed, at the top too. -/
theorem test_hyps_conflict : (urgentLeft (.probe 7) []).answersWith .left (.probe 7) { good with secondTransmitter := true } false
      (.probeAnswer .left { good with secondTransmitter := true } { position := 8, kind := .delegate, serial := 1, partition := 0 }) :=
  ⟨_, rfl, rfl⟩
theorem test_conflict :
    (after (.probeAnswer .left { good with secondTransmitter := true }
      { position := 8, kind := .delegate, serial := 1, partition := 0 }) (urgentLeft (.probe 7) [])).left.conflicts = 1 := by
  decide +kernel

/-! ### Power, rotation, derivations -/

def rested : Part := { room with now := 600000000 }
def asked : Part :=
  { rested with control :=
      { room.control with tableState := .enteringStandby, sleep := { left := true, right := true, wall := true } } }

/-- EnterStandbyByTheConditions at the idle delay's bound, and just before it; SleepAndTheWakeLine. -/
theorem test_hyps_standby : rested.settings.standbyAllowed = true ∧ (∀ f ∈ rested.floors, f.state = .free) ∧
    rested.control.idleMark + rested.settings.idleDelay * (60 * Config.second) ≤ rested.now ∧
    599999999 < rested.control.idleMark + rested.settings.idleDelay * (60 * Config.second) ∧
    asked.control.sleep.of .left = true ∧ room.control.sleep.of .left = false ∧ asked.left.state = .running ∧
    asked.left.line = none ∧ asked.left.wakeLine = false ∧ asked.left.walkRequested = false := by decide +kernel

def rotating (elapsed : Nat) : Part :=
  { meeting with displays := upd meeting.displays 1 (fun d =>
      { d with config := { d.config with contentB := some d.config.contentA }, phaseElapsedS := elapsed }) }

/-- TimebaseSecondCounts: a second that completes the dwell, and one before it. -/
theorem test_hyps_rotation : (rotating 14).rotationRuns ((rotating 14).displayAt 1).config = true ∧
    ((rotating 14).displayAt 1).config.dwellA = 15 := by decide +kernel
theorem test_rotation : ((after .timebaseSecond (rotating 14)).displayAt 1).phaseB = true ∧
    ((after .timebaseSecond (rotating 13)).displayAt 1).phaseElapsedS = 14 ∧
    ((after (.rotationPhaseChange 1) (rotating 13)).displayAt 1).phaseElapsedS = 13 := by decide +kernel

/-- RoomsContentsAndLevelsAreDerived. -/
theorem test_hyps_rooms : room.partitions.length = 3 ∧ asleep.control.tableState = .standby ∧
    room.control.tableState = .awake := by decide +kernel

/-- The invariants' premises hold at the small meeting. -/
theorem test_hyps_invariants : meeting.clock.minute ≤ Config.lastMinute ∧ meeting.clock.second ≤ 59 ∧
    (∀ q ∈ meeting.queues, q.entries.Pairwise (fun a b => b.cls = .priority → a.cls = .priority)) ∧
    meeting.queueStanding ≤ 64 := by decide +kernel

/-! ### Bookings at work -/

def served (b : Booking) (p : Part) : List Nat := seatNumbers.filter (fun n => p.seatIn b.zones n && p.inService n)

/-- A booking at second 59 of minute 600, with its floor, or with the floor of another booking that holds its zone. -/
def threshold (b : Booking) (fl : Floor) : Part :=
  { meeting with
    clock := { valid := true, minute := 600, second := 59 }
    slots := some b :: some (holder9 ⟨1, 1⟩) :: List.replicate 46 none
    floors := fl :: List.replicate 3 startFloor
    queues := List.replicate 4 startQueue }

def missed7 : Booking := { booking7 with state := .pending, floor := none, startMinute := 590, endMinute := 599 }
def begins7 : Booking :=
  { missed7 with startMinute := 602, endMinute := 700, startNoted := false, roster := [{ seat := 9, tag := 6, role := .ordinary }] }
def foreignFloor : Floor := { floor1 with booking := some 9, openList := [] }

/-- ThresholdsActOnTheBooking: each clause at a minute where it meets its threshold, 601. -/
theorem test_hyps_thresholds : (threshold missed7 foreignFloor).unheld missed7.zones = false ∧
    missed7.endMinute + missed7.grace ≤ 600 + 1 ∧ missed7.startMinute - missed7.lead ≤ 601 ∧
    ({ booking7 with startMinute := 601 } : Booking).startMinute ≤ 601 ∧ 601 < booking7.endMinute + booking7.grace ∧
    ({ booking7 with endMinute := 599 } : Booking).endMinute + booking7.grace ≤ 601 ∧
    (∃ a ∈ floor1.openList, 1 ≤ a.seat ∧ a.seat ≤ 96) ∧ begins7.startMinute - begins7.lead ≤ 601 ∧ 601 < begins7.startMinute ∧
    (threshold begins7 startFloor).unheld begins7.zones = true ∧ startFloor.state = .free ∧
    served begins7 (threshold begins7 startFloor) = [1, 2, 3, 4, 5, 6] ∧
    served begins7 { threshold begins7 startFloor with seats := List.replicate 96 startSeat } = [] := by decide +kernel
theorem test_hyps_thresholds_calm (b : Booking) (hb : b.handle = 7) :
    (threshold b floor1).onlyOneMoves 1 b 601 ∧ (threshold b floor1).calm ∧
    (threshold b foreignFloor).calm ∧ (threshold b startFloor).calm :=
  have h (fl : Floor) (hf : fl.suspended = false) : (threshold b fl).calm :=
    calm_of (threshold b fl) meeting_partitions (fun x hx => by
      rcases List.mem_cons.mp hx with rfl | hx
      · exact hf
      · rw [(List.mem_replicate.mp hx).2]; rfl)
  ⟨onlyOneMoves_of_two _ _ _ _ rfl ⟨by rw [hb]; decide, show 601 < 702 by decide⟩, h _ rfl, h _ rfl, h _ rfl⟩

def adHoc7 : Booking := { booking7 with origin := .adHoc, lead := 0, grace := 0, endMinute := 640 }
def bumpable : Part := { meeting with slots := some adHoc7 :: List.replicate 47 none }
def bumps (start : Nat) : CreateRequest :=
  { zones := ⟨1, 2⟩, startMinute := start, endMinute := 700, margins := none, params := none, admission := none, roster := [] }
def bumpBody (start : Nat) : List Byte := [1, 2] ++ bytes 3 start ++ bytes 3 700 ++ [0, 0]

/-- CreateBookingBumpsAdHoc: an occupation start one minute ahead, and one that is the current minute. -/
theorem test_hyps_bump : [606, 605].all (fun m => decide (parseCreate (bumpBody m) = some (bumps m) ∧
      bumpable.createInRange (bumps m) = true ∧ (bumpable.created (bumps m)).lead = 5 ∧
      bumpable.overlapConflict 0 ⟨1, 2⟩ (m - 5) (700 + (bumpable.created (bumps m)).grace) = false)) = true ∧
    bumpable.freeSlot = some 2 ∧ bumpable.slotAt 1 = some adHoc7 ∧ bumpable.slotOf 7 = some 1 ∧
    adHoc7.zones.meets ⟨1, 2⟩ = true ∧ bumpable.clock.minute = 600 ∧ floor1.zones = some adHoc7.zones ∧
    adHoc7.zones.ok = true ∧ ZoneRun.ok ⟨1, 2⟩ = true := by decide +kernel
theorem test_hyps_bump_only : bumpable.onlyBooking 1 adHoc7 ∧ bumpable.calm :=
  ⟨onlyBooking_of _ _ rfl, calm_of bumpable (by decide +kernel) (by decide +kernel)⟩

def moderatedParams : FloorParams := { meetingParams with mode := .moderated }
def moderated7 : Booking := { booking7 with params := moderatedParams }
def runningWith (b : Booking) : Part :=
  { meeting with
    slots := some b :: List.replicate 47 none
    floors := { floor1 with params := some b.params } :: List.replicate 3 startFloor }
def changeTo (q : FloorParams) (now : Nat) : List Byte := [0, 7, 4] ++ byte now ++ paramsBytes q
def changesTo (q : FloorParams) (now : Bool) : ChangeRequest :=
  { handle := 7, now := now, span := none, ending := none, params := some q, admission := none }
def toPrivate : ChangeRequest :=
  { handle := 7, now := false, span := none, ending := none, params := none
    admission := some { confidentiality := .privateMeeting, guestCode := 1, guestMask := 1 } }

/-- RunningBookingChangesAtTheFloor: the parameters with a higher limit, a lower one, a smaller capacity and a new allowance,
and a change to PRIVATE. -/
theorem test_hyps_runningChange :
    [({ moderatedParams with limit := 3 } : FloorParams), { moderatedParams with limit := 1 },
      { moderatedParams with queueCap := 1 }].all (fun q => decide (parseChange (changeTo q 0) = some (changesTo q false) ∧
        (runningWith moderated7).changeInRange moderated7 (changesTo q false) = true)) = true ∧
    parseChange (changeTo { moderatedParams with allowance := 40 } 1) =
      some (changesTo { moderatedParams with allowance := 40 } true) ∧
    (runningWith moderated7).changeInRange moderated7 (changesTo { moderatedParams with allowance := 40 } true) = true ∧
    moderatedParams.expiryAction = .warnOnly ∧ moderatedParams.allowance ≠ 40 ∧ floor1.delegates = 2 ∧ floor1.openList = [speaker 2 1] ++ speaker 3 2 :: [] ∧
    moderatedParams.queueCap = 16 ∧ parseChange [0, 7, 8, 0, 2, 0, 1, 0, 1] = some toPrivate ∧
    (runningWith moderated7).changeInRange moderated7 toPrivate = true ∧ (runningWith moderated7).slotOf 7 = some 1 ∧
    (∀ e ∈ floor1.openList, ((runningWith moderated7).seatAt e.seat).priorityHeld = false) := by decide +kernel

def workOf (n k : Nat) : WorkEntry := { seat := n, attempts := k, status := .awaiting, sentBefore := false }
def confirmed1 : WorkEntry := { workOf 1 0 with status := .confirmed }

/-- An operation of booking 7 whose last AWAITING entry is seat 6's, with `k` attempts, and a POLL of it on the line. -/
def operating (b : Booking) (fl : Floor) (phase : OpPhase) (k : Nat) : Part :=
  polledAt 6 { runningWith b with
    floors := fl :: List.replicate 3 startFloor
    contexts := some { booking := 7, phase := phase, work := [workOf 6 k, confirmed1] } :: List.replicate 3 none }

def preparing7 : Booking := { booking7 with state := .preparing, startNoted := false }
def pressed7 : Booking := { preparing7 with startNoted := true, pendingSeat := some 6 }
def openFloor1 : Floor :=
  { floor1 with state := .preparing, openList := [], params := some { meetingParams with mode := .openFloor } }
def closing7 : Booking := { booking7 with state := .closing }
def closingFloor1 : Floor := { floor1 with state := .closing, openList := [] }
def silent6 : Uplink :=
  { position := 6, speak := none, next := none, cancelAll := none, priorityUp := false, badge := 0, echo := .closed }

/-- PushEndsAtTheLastEntry and CloseOutEndsAtTheLastEntry: an entry with no attempt and one with two. -/
theorem test_hyps_operations : (pressed7.startNoted = true ∧ pressed7.closeNoted = false ∧ preparing7.startNoted = false) ∧
    (meeting.seatAt 6).health.errorScore + 8 < 96 ∧ (meeting.seatAt 6).priorityHeld = false ∧
    (∀ u ∈ [confirmed1], u.seat ≠ 6 ∧ u.status ≠ .awaiting) ∧ (workOf 6 1).attempts + 1 < 3 ∧ 3 ≤ (workOf 6 2).attempts + 1 ∧
    served closing7 (operating closing7 closingFloor1 .close 2) ≠ [] ∧ openFloor1.delegates < 2 ∧
    MicCommand.closed = silent6.echo ∧ ({ silent6 with echo := .live } : Uplink).echo ≠ .closed := by decide +kernel
theorem test_hyps_operations_poll (b : Booking) (fl : Floor) (ph : OpPhase) (k : Nat) (e : MicCommand) :
    (idle (operating b fl ph k)).goodPoll .left 6 ((operating b fl ph k).imageOf 6) good { silent6 with echo := e } ∧
    uplinkSilent { silent6 with echo := e } (meeting.seatAt 6) ∧ (operating b fl ph k).onlyBooking 1 b ∧
    (operating b fl ph k).contextAt 1 = some { booking := 7, phase := ph, work := [workOf 6 k, confirmed1] } ∧
    ∀ g, g ≠ 1 → (operating b fl ph k).contextAt g = none := by
  refine ⟨good_left _ 6 _ ⟨rfl, rfl, rfl, rfl, rfl, rfl⟩, ?_, onlyBooking_of _ _ rfl, rfl, fun g hg => ?_⟩
  · refine ⟨fun _ h => ?_, fun _ h => ?_, fun _ h => ?_, rfl⟩ <;> cases h
  · match g with
    | 0 | 2 | 3 | 4 => rfl
    | 1 => exact (hg rfl).elim
    | m + 5 => rfl

def waiting8 : Booking := { preparing7 with handle := 8, state := .waiting, floor := none }
def foreignFloor2 : Floor := { floor1 with zones := some ⟨2, 2⟩, booking := none, openList := [] }
/-- Booking 7 in its push phase on floor F1, booking 8 waiting for its zone, and no other floor FREE. -/
def chainable : Part :=
  { operating preparing7 openFloor1 .push 0 with
    slots := some preparing7 :: some waiting8 :: List.replicate 46 none
    floors := openFloor1 :: List.replicate 3 foreignFloor2 }

/-- AbortedApplyIsReleasedAndChained, without a WAITING booking and with one. -/
theorem test_hyps_abort : (operating preparing7 openFloor1 .push 0).slotOf 7 = some 1 ∧ chainable.slotOf 7 = some 1 ∧
    chainable.slotOf 8 = some 2 ∧ chainable.slotAt 2 = some waiting8 ∧ chainable.control.tableState = .awake ∧
    (∀ g, 1 ≤ g → g ≤ 4 → g ≠ 1 → (chainable.floorAt g).state ≠ .free) ∧
    foreignFloor2.holds 1 = false ∧ chainable.seatIn waiting8.zones 6 = true ∧ chainable.inService 6 = true := by decide +kernel
theorem test_hyps_abort_calm : (operating preparing7 openFloor1 .push 0).calm ∧ chainable.calm :=
  ⟨calm_of (operating preparing7 openFloor1 .push 0) (by decide +kernel) (by decide +kernel),
    calm_of chainable (by decide +kernel) (by decide +kernel)⟩

def putOne (n : Nat) (role : Byte) : List Byte := [0, 7, 1] ++ byte n ++ [0, 5, role]
def chairSpeaks : Part :=
  { runningWith booking7 with
    floors := { floor1 with priorityHolders := 1, openList := [floor1.chairEntry 1, speaker 3 2] } :: List.replicate 3 startFloor }
def rostered7 : Booking := { booking7 with roster := [{ seat := 6, tag := 5, role := .priority }] }

/-- RunningRosterReachesTheSeats: a closed seat, one that speaks, a chair that speaks, a queued one, and a seat dropped. -/
theorem test_hyps_runningRoster : parseRosterPut (putOne 6 2) = some (7, [{ seat := 6, tag := 5, role := .priority }]) ∧
    meeting.openEntry 1 6 = none ∧ meeting.isQueued 1 6 = false ∧ (meeting.seatAt 3).role = .ordinary ∧
    meeting.entryOk booking7.zones { seat := 6, tag := 5, role := .priority } = true ∧ 0 < meeting.rosterFree ∧
    (meeting.openEntry 1 3).map (fun a => a.cls) = some .delegate ∧ (runningWith moderated7).entryOk ⟨1, 1⟩ ⟨3, 5, .chair⟩ = true ∧
    (chairSpeaks.openEntry 1 1).map (fun a => a.cls) = some .chair ∧ (chairSpeaks.seatAt 1).role = .chair ∧
    (chairSpeaks.floorAt 1).delegates < booking7.params.limit ∧
    (meeting.queueAt 1).entries.find? (fun y => y.seat == 5) = some (waiting 5 2 .ordinary) ∧
    parseRosterDrop [0, 7, 1, 6] = some (7, [6]) ∧ (runningWith rostered7).slotOf 7 = some 1 ∧
    (rostered7.roster.find? (fun a => a.seat == 6)).isSome = true ∧ (runningWith rostered7).seatIn ⟨1, 1⟩ 6 = true := by
  decide +kernel

/-! ### Presses and buttons -/

def press1 : PressEvent := { tag := 1, overrun := false }
def speakUp (n : Nat) : Uplink := { silent6 with position := n, speak := some press1 }
def nextUp (n : Nat) : Uplink := { silent6 with position := n, next := some press1 }
def cancelUp (n : Nat) : Uplink := { silent6 with position := n, cancelAll := some press1 }
def levelUp (n : Nat) : Uplink := { silent6 with position := n, priorityUp := true }

/-- The presses' hypotheses about the POLL and its uplink, at seats 1 to 6. -/
theorem test_hyps_press : [1, 2, 3, 4, 5, 6].all (fun n =>
    decide (meeting.power = .running ∧ (meeting.seatAt n).health.presence = .present ∧ (meeting.seatAt n).badge = none ∧
      seatOn .left n = n ∧ (meeting.seatAt n).takenTags = startSeat.takenTags ∧ (meeting.seatAt n).priorityUp = false)) = true := by
  decide +kernel
theorem test_hyps_press_uplink (x : Seat) (n : Nat) (h : x.takenTags = startSeat.takenTags) (hp : x.priorityUp = false) :
    uplinkCarries (speakUp n) .speak press1 x ∧ uplinkCarries (nextUp n) .next press1 x ∧
    uplinkCarries (cancelUp n) .cancelAll press1 x := by
  refine ⟨⟨hp, rfl, rfl, rfl, ?_⟩, ⟨hp, rfl, rfl, rfl, ?_⟩, ⟨hp, rfl, rfl, rfl, ?_⟩⟩ <;> rw [h] <;> decide
theorem test_hyps_press_poll : (idle (polledAt 6 meeting)).goodPoll .left 6 (meeting.imageOf 6) good (speakUp 6) ∧
    (polledAt 6 meeting).noOperation :=
  ⟨good_left _ _ _ (by decide +kernel), no_contexts _ (by decide +kernel)⟩

def withParams (q : FloorParams) : Part :=
  { meeting with floors := { floor1 with params := some q } :: List.replicate 3 startFloor }
def noQueue (p : Part) : Part := { p with queues := List.replicate 4 startQueue }

/-- SpeakPressByFloorAndMode, clause by clause. -/
theorem test_hyps_speakPress : (guarded.seatAt 6).guardUntil ≠ none ∧ (meeting.seatAt 6).guardUntil = none ∧
    (closingFloor.floorAt 1).state ≠ .live ∧ (pausedFloor.floorAt 1).suspended = true ∧ pausedFloor.isQueued 1 6 = false ∧
    secret.isPrivate 1 = true ∧ secret.admitted 6 = false ∧ pausedFloor.isQueued 1 4 = true ∧ meeting.openEntry 1 4 = none ∧
    (meeting.seatAt 1).role = .chair ∧ (chairSpeaks.openEntry 1 1).isSome = true ∧ (meeting.openEntry 1 2).isSome = true ∧
    meetingParams.selfClose = true ∧ (meeting.seatAt 2).priorityHeld = false ∧ meeting.isDelegate 1 2 = true ∧
    (floor1.without 2).delegates + 1 = meetingParams.limit ∧ meeting.inService 4 = true ∧ meeting.isPrivate 1 = false := by
  decide +kernel
/-- The same, for a closed delegate: every mode and overflow policy, with room in the queue and without. -/
theorem test_hyps_speakPress_modes : (fullQueue.queueAt 1).entries.length = (fullQueue.floorAt 1).par.queueCap ∧
    (meeting.queueAt 1).entries.length < meetingParams.queueCap ∧ 0 < meeting.queueFree ∧
    (moderatedFloor.floorAt 1).par.mode = .moderated ∧ meetingParams.limit ≤ floor1.delegates ∧
    ((withParams { meetingParams with limit := 3 }).floorAt 1).delegates < 3 ∧ ((noQueue meeting).queueAt 1).entries = [] ∧
    (∀ o, ((openFloorPart o).floorAt 1).par.mode = .openFloor ∧ ((openFloorPart o).floorAt 1).par.overflow = o) ∧
    (floor1.openList.find? (fun a => decide (a.cls = .delegate))).map (fun a => a.seat) = some 2 := by
  refine ⟨by decide +kernel, by decide +kernel, by decide +kernel, by decide +kernel, by decide +kernel, by decide +kernel,
    by decide +kernel, fun _ => ⟨rfl, rfl⟩, by decide +kernel⟩

def released : Part := { meeting with floors := List.replicate 4 startFloor }
def held1 : Part :=
  { meeting with
    seats := upd meeting.seats 1 (fun x => { x with priorityUp := true, priorityHeld := true })
    floors := { floor1 with priorityHolders := 1, openList := floor1.chairEntry 1 :: floor1.openList } :: List.replicate 3 startFloor }

/-- ChairButtonsActOnTheFloor: no floor, no chair, every state of the floor, a queue with a head and without, a hold and none. -/
theorem test_hyps_chairButtons : released.floorOf 1 = none ∧ (meeting.seatAt 6).unitKind ≠ some .chair ∧
    (meeting.seatAt 1).unitKind = some .chair ∧ meeting.floorOf 1 = some 1 ∧ secret.isPrivate 1 = true ∧
    secret.admitted 1 = false ∧ ((noQueue meeting).queueAt 1).entries = [] ∧
    (meeting.queueAt 1).entries = waiting 4 1 .ordinary :: [waiting 5 2 .ordinary] ∧ (openThree.floorAt 1).delegates < 3 ∧
    meetingParams.limit ≤ (floor1.without 2).delegates + 1 ∧ (floor1.openList.map (fun a => a.seat)).Nodup ∧
    (∀ a ∈ floor1.openList, (meeting.seatAt a.seat).priorityHeld = false) ∧ (meeting.openEntry 1 1).isSome = false ∧
    (chairSpeaks.openEntry 1 1).isSome = true ∧ (levelUp 1).priorityUp = true ∧ (meeting.seatAt 1).priorityUp = false ∧
    (held1.seatAt 1).priorityUp = true ∧ (held1.seatAt 1).priorityHeld = true ∧ silent6.priorityUp = false := by decide +kernel
theorem test_nextReplaces : (after (.pollAnswer .left good (nextUp 1)) (polledAt 1 meeting)).floorAt 1 =
    (floor1.without 2).opens (floor1.delegateEntry meetingParams 4) := by decide +kernel
theorem test_priorityMutes : (after (.pollAnswer .left good (levelUp 1)) (polledAt 1 meeting)).floorAt 1 =
    { floor1 with
      priorityHolders := 1, openOrder := 3
      openList := [{ speaker 2 1 with muted := true }, { speaker 3 2 with muted := true }, floor1.chairEntry 1] } := by
  decide +kernel

/-- The meeting's seats with no booking and no floor held, where ad hoc bookings are allowed. -/
def casual : Part :=
  { meeting with
    slots := List.replicate 48 none, floors := List.replicate 4 startFloor, queues := List.replicate 4 startQueue
    settings := { meeting.settings with adHocAllowed := true } }

/-- AdHocBookingByPress: a press that makes a booking, and one for every test that fails. -/
theorem test_hyps_adHoc : casual.zoneOf 6 = some 1 ∧ casual.floorOfZone 1 = none ∧ casual.slots.length = 48 ∧
    casual.roomOf 1 = ⟨1, 1⟩ ∧ casual.unheld ⟨1, 1⟩ = true ∧ casual.clock.minute + 5 ≤ 600 + casual.settings.adHocLength ∧
    casual.slotAt 1 = none ∧ casual.contexts.length = 4 ∧
    ({ casual with partitions := upd casual.partitions 1 (fun x => { x with state := .opened })
                   floors := upd casual.floors 1 (fun fl => { fl with zones := some ⟨2, 2⟩, state := .live }) } : Part).unheld ⟨1, 2⟩ =
      false := by decide +kernel
theorem test_hyps_adHoc_slots : (∀ k b, casual.slotAt k = some b → b.state = .ended) ∧ casual.calm :=
  ⟨forall_slots casual _ (by decide +kernel), calm_of casual (by decide +kernel) (by decide +kernel)⟩
/-! ### Partitions, walks and what a step tells -/

def floor2 : Floor := { floor1 with zones := some ⟨2, 2⟩, booking := some 8, openList := [speaker 14 1] }
def booking8 : Booking := { booking7 with handle := 8, zones := ⟨2, 2⟩, floor := some 2 }

/-- Two LIVE floors on either side of partition 1, whose sensor at position 3 has read OPEN three times. -/
def divided : Part :=
  onWall (.sense 3) { walled with
    seats := meeting.seats, slots := some booking7 :: some booking8 :: List.replicate 46 none
    floors := floor1 :: floor2 :: List.replicate 2 startFloor, queues := meeting.queues }
def joined : Part :=
  { divided with
    partitions := upd divided.partitions 1 (fun x => { x with state := .opened, candidate := some .closed })
    floors := { floor1 with suspended := true } :: { floor2 with suspended := true } :: List.replicate 2 startFloor
    queues := List.replicate 4 startQueue }

/-- PartitionsSuspendAndResumeFloors. -/
theorem test_hyps_partitions : (divided.partitionAt 1).state = .closed ∧ (divided.partitionAt 1).candidate = some .opened ∧
    divided.settings.partitionSettle ≤ (divided.partitionAt 1).repeatCount + 1 ∧ divided.floorOfZone 1 = some 1 ∧
    divided.floorOfZone 2 = some 2 ∧ divided.slotOf 8 = some 2 ∧ (divided.floorAt 3).holds 1 = false ∧
    (∀ a ∈ floor1.openList ++ floor2.openList, (divided.seatAt a.seat).priorityHeld = false) ∧
    (joined.partitionAt 1).state = .opened ∧ (∀ w ∈ joined.queues, w.entries = []) ∧ joined.floors.length = 4 := by decide +kernel
theorem test_hyps_partitions_calm : divided.calm ∧ ∀ j, j ≠ 1 → joined.wallOpen j = false := by
  refine ⟨calm_of divided (by decide +kernel) (by decide +kernel), fun j hj => ?_⟩
  match j with
  | 0 | 2 | 3 => rfl
  | 1 => exact (hj rfl).elim
  | m + 4 => rfl
theorem test_suspends : let p := after (.sensePartition good 3 .wallOpen) divided
    p.floorAt 1 = { floor1 with suspended := true, openList := [] } ∧
      p.floorAt 2 = { floor2 with suspended := true, openList := [] } := by decide +kernel

def unitAt (pos : Nat) (kind : UnitKind) (part : BitVec 4) : UnitReport :=
  { position := pos, kind := kind, serial := 1, partition := part }

/-- A walk of LEFT that has found a chair at seat 1 and nothing more; seats 2 to 5 lose their units. -/
def walkedLeft : Part :=
  { room with
    seats := meeting.seats
    left := { room.left with
      state := .walking, line := some { exchange := .assign 2, orphan := false }
      walk := some { phase := .offering, position := 2, attempts := 1, kept := [unitAt 1 .chair 0], roles := [] } } }

/-- A walk of WALL that offers position 3, display 1 and the sensor of partition 2 found. -/
def walkedWall : Part :=
  { walled with wall := { walled.wall with
      state := .walking, line := some { exchange := .assign 3, orphan := false }
      walk := some
        { phase := .offering, position := 3, attempts := 1, kept := [unitAt 1 .display 0, unitAt 2 .partition 2]
          roles := [.display 1, .partition 2] } } }

/-- WalkReportsWhatItFound: a unit found where the record names it, seats that lose theirs, seats that had none. -/
theorem test_hyps_walkReport : (walkedLeft.seatAt 1).unitKind = some .chair ∧ (walkedLeft.seatAt 1).unitSerial = some 1 ∧
    (walkedLeft.seatAt 2).health.presence = .present ∧ (walkedLeft.seatAt 48).health.presence = .absent ∧
    walkedLeft.control.tableState = .awake ∧ [WallRole.display 1, .partition 2].Nodup ∧
    (walkedWall.wall.walk.map (fun w => w.kept.length)) = some 2 := by decide +kernel
theorem test_hyps_walkReport_floors : (∀ n, walkedLeft.floorOf n = none) ∧ walkedLeft.noOperation := by
  refine ⟨fun n => ?_, no_contexts walkedLeft (by decide +kernel)⟩
  have h : ∀ z, walkedLeft.floorOfZone z = none := fun z => rfl
  simp only [Part.floorOf, h]
  cases walkedLeft.zoneOf n <;> rfl

/-- A wall whose positions 1 to 3 have their roles, probing position `pos`. -/
def probing (pos : Nat) : Part :=
  onWall (.probe pos) { walled with displays := upd walled.displays 1 (fun d => { d with unitPosition := some 1 }) }

/-- WallUnitsTakeTheirRoles: the roles free and taken, at a walk and at a probe. -/
theorem test_hyps_wallUnits : WallRole.ambient ∉ [WallRole.display 1, .partition 2] ∧
    WallRole.partition 3 ∉ [WallRole.display 1, .partition 2] ∧ (unitAt 3 .partition 3).partition.toNat = 3 ∧
    (unitAt 3 .partition 0).partition.toNat = 0 ∧ (probing 5).roleAt 5 = none ∧ 5 ≤ (probing 5).wall.roles.length ∧
    ((probing 5).displayAt 1).unitPosition = some 1 ∧ ((probing 5).displayAt 2).unitPosition = none ∧
    ((probing 5).displayAt 2).health.presence = .absent ∧ room.ambient.sensorPosition = none ∧
    ((probing 5).partitionAt 2).sensorPosition = none ∧ (probing 1).roleAt 1 = some (.display 1) ∧
    (probing 2).roleAt 2 = some .ambient ∧ (probing 3).roleAt 3 = some (.partition 1) := by decide +kernel

def lostUnits (pr : Presence) (pos : Nat) : Part :=
  { probing pos with
    displays := upd (probing pos).displays 1 (fun d => { d with health := health pr 7 0 })
    ambient := { (probing pos).ambient with health := health pr 7 0 }
    partitions := upd (probing pos).partitions 1 (fun x => { x with health := health pr 7 0 }) }

/-- WallUnitsTakeTheirRoles: records ABSENT and CUT_OFF whose positions keep their roles. -/
theorem test_hyps_keptRoles : [Presence.absent, .cutOff].all (fun pr =>
    decide ((lostUnits pr 1).roleAt 1 = some (.display 1) ∧ ((lostUnits pr 1).displayAt 1).health.presence = pr ∧
      (lostUnits pr 2).roleAt 2 = some .ambient ∧ (lostUnits pr 2).ambient.health.presence = pr ∧
      (lostUnits pr 3).roleAt 3 = some (.partition 1) ∧ ((lostUnits pr 3).partitionAt 1).health.presence = pr)) = true := by
  decide +kernel

/-- The displays' clauses of RoomsContentsAndLevelsAreDerived: a part after a step. -/
theorem test_hyps_contents : let p := after .clockSecond meeting
    (p.displays.all (fun d => decide (d.content = p.contentFor d ∧ d.level = p.levelFor d ∧ d.drive = p.driveFor (p.levelFor d)))) =
      true ∧ p.floorOfZone 1 = some 1 ∧ p.floorOfZone 2 = none ∧ (p.displayAt 1).config.binding = some 1 ∧
    (p.displayAt 1).content = .speaker 3 0 := by decide +kernel

def listening (p : Part) : Part := { p with notices := { flags := 0, enables := 0x1FF, signals := 0 } }

/-- ThePartKeepsItsNumbers and ChangesAreMarkedAndNotified: every kind of record changed by some step. -/
theorem test_hyps_numbers : meeting.shape = partShape ∧ (listening divided).shape = partShape ∧ room.shape = partShape ∧
    (Instr.badFrame [0, 0, 8, 0, 1, 1, 0, 0]).restarts = false ∧ (Instr.unknownRequest 8 [1]).restarts = true ∧
    (Instr.clockSecond).restarts = false ∧ (Instr.grant [6, 1]).restarts = false := by decide +kernel
theorem test_tells : let p := after (.sensePartition good 3 .wallOpen) (listening divided)
    p.marks.get .seat 2 = true ∧ p.marks.get .floor 2 = true ∧ p.marks.get .booking 1 = true ∧ p.marks.get .layout 1 = true ∧
      p.marks.get .queue 1 = false ∧ p.notices.flags &&& 0x02F = 0x02B := by decide +kernel

def idleImage : Image := { mic := .closed, ring := .off, lamp := .off, occupant := 0, acks := noTags }

/-- A floor in its close phase that waits for seat 2 alone, the only seat in service and one failure from CUT_OFF; its booking is
to be freed. -/
def lastClosing : Part :=
  listening (onLeft (.poll 2 idleImage)
    { meeting with
      seats := upd (List.replicate 96 startSeat) 2 (fun _ =>
        { person .delegate .ordinary with health := health .degraded 0 250 })
      slots := some { booking7 with state := .closing, retireOnCompletion := true } :: List.replicate 47 none
      floors := { floor1 with state := .closing, openList := [] } :: List.replicate 3 startFloor
      queues := List.replicate 4 startQueue
      contexts :=
        [some { booking := 7, phase := .close, work := [{ seat := 2, attempts := 0, status := .awaiting, sentBefore := false }] },
          none, none, none] })

/-- The seat's loss adds CLOSE_UNCONFIRMED and completes close-out, which frees the record: the BOOKING notice is raised (R65). -/
theorem test_flagOfFreedBooking : let p := after (.responseTimeout .left) lastClosing
    p.slotAt 1 = none ∧ (p.seatAt 2).health.presence = .cutOff ∧ p.notices.flags &&& 0x008 = 0x008 := by decide +kernel

/-! ### The units' side (R82, R157, R158) -/

def threeUnits : List LinkUnit :=
  [LinkUnit.powersUp .delegate 1 0, LinkUnit.powersUp .chair 2 0, LinkUnit.powersUp .delegate 3 0]

/-- The offers of 1 to 3 and a fourth, which no unit is left to answer, place the units in their order. -/
def walkedUnits : List LinkUnit :=
  (sendDown (sendDown (sendDown (sendDown (breakLine threeUnits) (.assign 1 noTags)).1 (.assign 2 noTags)).1
    (.assign 3 noTags)).1 (.assign 4 noTags)).1

theorem test_units_walk : walkedUnits.map (fun u => u.link) = [.assigned 1, .assigned 2, .assigned 3] ∧
    (sendDown (breakLine threeUnits) (.assign 1 noTags)).2 = [.assigned { position := 1, kind := .delegate, serial := 1, partition := 0 }] ∧
    (sendDown walkedUnits (.assign 5 noTags)).2 = [] := by decide +kernel

/-- A unit behind an UNASSIGNED one hears nothing, and a probe that offers another position places nothing (R157). -/
theorem test_units_probe : (sendDown threeUnits (.probe 2 noTags)) = (threeUnits, []) ∧
    (sendDown (walkedUnits ++ [LinkUnit.powersUp .chair 4 0]) (.probe 6 noTags)).2 = [] ∧
    (sendDown (walkedUnits ++ [LinkUnit.powersUp .chair 4 0]) (.probe 4 noTags)).2.length = 1 := by decide +kernel

def pressedUnit : LinkUnit := { LinkUnit.powersUp .delegate 1 0 with link := .assigned 1 }

/-- A press is reported with its tag until it is acknowledged; the next one carries the next tag (R82). -/
theorem test_units_press : ((pressedUnit.press .speak).hear 0 (.poll 1 idleImage)).answer =
      some (.polled { noUplink with position := 1, speak := some { tag := 0, overrun := false } }) ∧
    (((pressedUnit.press .speak).hear 0 (.poll 1 { idleImage with acks := { noTags with speak := some 0 } })).unit.press
      .speak).speak.latch = some { tag := 1, overrun := false } ∧
    ((pressedUnit.press .speak).press .speak).speak.latch = some { tag := 0, overrun := true } := by decide +kernel

/-- A sleeping unit's press raises the wake line, and the line break lowers it and keeps the press (R158, R166). -/
theorem test_units_sleep : wakeLineRaised (sendDown [pressedUnit] .sleep).1 = false ∧
    wakeLineRaised ((sendDown [pressedUnit] .sleep).1.map (fun u => u.press .speak)) = true ∧
    (pressedUnit.press .speak).lineBreak.speak.latch = some { tag := 0, overrun := false } ∧
    wakeLineRaised (sendDown [pressedUnit.press .speak] .sleep).1 = true := by decide +kernel

end Tests
end

section
/-! What WITHDRAW's owner answers in each of its cases, and the statement about it (O30). -/

namespace Sys2Proof.Machine

/-! ### The tests of a request at a floor -/

theorem seatFits_iff (n : Nat) : seatFits n = true ↔ 1 ≤ n ∧ n ≤ 96 := by
  simp [seatFits, Config.seats]

/-- A table that is not AWAKE takes no request at any floor (R175). -/
theorem Part.takingFloor_notAwake (p : Part) (n : Nat) (w : Bool) (h : p.control.tableState ≠ .awake) :
    p.takingFloor n w = none := by
  cases hf : p.floorOf n with
  | none => exact p.takingFloor_none n w hf
  | some f => simp [Part.takingFloor, hf, Part.floorTakes, h]

/-! ### WITHDRAW -/

/-- A leave writes the queue of its floor and no other record (R119). -/
theorem Part.leaveQueue_records (p : Part) (f n : Nat) :
    (p.leaveQueue f n).records =
      { p.records with
        queues := upd p.queues f (fun x => { x with entries := x.entries.filter (fun e => e.seat != n) }) } := rfl

/-- WITHDRAW dispatched with the seat its body names. -/
theorem exec_withdraw_byte (s : State) (n : Nat) (h : n < 256) :
    exec (.withdraw (byte n)) s = s.become (s.part.request 0x23 (some n) withdrawOwner) := by
  rw [← parseByte_byte n h]; rfl

theorem withdrawOwner_of_range (p : Part) (n : Nat) (h : ¬ (1 ≤ n ∧ n ≤ 96)) :
    withdrawOwner n p = p.refuse .badValue := by
  have hfit : seatFits n = false := by rwa [← Bool.not_eq_true, seatFits_iff]
  simp [withdrawOwner, hfit]

/-- No floor takes the request: the table is not AWAKE, or the seat's zone is held by no LIVE floor. -/
theorem withdrawOwner_of_untaken (p : Part) (n : Nat) (h : 1 ≤ n ∧ n ≤ 96) (ht : p.takingFloor n true = none) :
    withdrawOwner n p = p.refuse .notAllowed := by
  simp [withdrawOwner, (seatFits_iff n).2 h, ht]

theorem withdrawOwner_of_queued (p : Part) (n f : Nat) (h : 1 ≤ n ∧ n ≤ 96) (ht : p.takingFloor n true = some f)
    (hq : p.isQueued f n = true) : withdrawOwner n p = (p.leaveQueue f n).done := by
  simp [withdrawOwner, (seatFits_iff n).2 h, ht, hq]

theorem withdrawOwner_of_notQueued (p : Part) (n f : Nat) (h : 1 ≤ n ∧ n ≤ 96) (ht : p.takingFloor n true = some f)
    (hq : p.isQueued f n = false) : withdrawOwner n p = p.done := by
  simp [withdrawOwner, (seatFits_iff n).2 h, ht, hq]

/-- In range, a WITHDRAW that no floor takes is answered NOT_ALLOWED (R10, R175). -/
theorem withdraw_answers_notAllowed (s : State) (n : Nat) (hr : s.runs) (h : 1 ≤ n ∧ n ≤ 96)
    (ht : s.part.takingFloor n true = none) : Answers (.withdraw (byte n)) s 0x23 .notAllowed [] :=
  answers_of_refused _ s _ n withdrawOwner .notAllowed (exec_withdraw_byte s n (by omega)) hr
    (withdrawOwner_of_untaken s.part n h ht) rfl

/-- Settles O30: the tests of the range, the table and the floor each refuse, and the floor that takes the request lets the
seat's entry go where there is one. -/
theorem withdrawRemovesTheEntry : Obligations.WithdrawRemovesTheEntry := by
  intro s n hr hn
  have hx := exec_withdraw_byte s n hn
  refine ⟨fun _ hout => ?badValue, fun h1 h96 => ⟨fun hasleep => ?asleep, fun hfree => ?unheld, fun f hf =>
    ⟨fun hstate => ?notLive, fun hlive hawake => ?taken⟩⟩⟩
  case badValue =>
    exact answers_of_refused _ s _ n withdrawOwner .badValue hx hr (withdrawOwner_of_range s.part n hout) rfl
  case asleep =>
    exact withdraw_answers_notAllowed s n hr ⟨h1, h96⟩ (s.part.takingFloor_notAwake n true hasleep)
  case unheld =>
    exact withdraw_answers_notAllowed s n hr ⟨h1, h96⟩ (s.part.takingFloor_none n true hfree)
  case notLive =>
    exact withdraw_answers_notAllowed s n hr ⟨h1, h96⟩ (s.part.takingFloor_not n f true hf (.inl hstate))
  case taken =>
    have htakes : s.part.takingFloor n true = some f := s.part.takingFloor_live n f true hawake hf hlive (.inl rfl)
    refine ⟨fun hq => ?_, fun hq => ?_⟩
    · rw [← Part.leaveQueue_records]
      exact answersWith_of_taken _ s _ n withdrawOwner (s.part.leaveQueue f n).done hx hr
        (withdrawOwner_of_queued s.part n f ⟨h1, h96⟩ htakes hq) rfl
    · exact answersWith_of_taken _ s _ n withdrawOwner s.part.done hx hr
        (withdrawOwner_of_notQueued s.part n f ⟨h1, h96⟩ htakes hq) rfl

end Sys2Proof.Machine
end

section
/-! What a request of the control port's own answers, and the statement about IDENTIFY (O4). -/

namespace Sys2Proof.Machine

/-! ### Requests that reach no block but the control port -/

/-- A running part takes the owner's part as it is, with no step of another block behind it, and puts the answer in the buffer. -/
theorem Part.portRequest_some {α : Type} (p : Part) (code : Byte) (a : α) (owner : α → Part → Reply)
    (h : p.power = .running) :
    p.portRequest code (some a) owner = (owner a p).part.setAnswer code (owner a p).status (owner a p).body := by
  simp [Part.portRequest, h]

/-- A request of the control port whose owner leaves the part as it finds it changes nothing but the answer buffer. -/
theorem answers_of_portReply {α : Type} (c : Instr) (s : State) (code : Byte) (a : α) (owner : α → Part → Reply)
    (hx : exec c s = s.become (s.part.portRequest code (some a) owner)) (hr : s.runs)
    (hp : (owner a s.part).part = s.part) :
    Answers c s code (owner a s.part).status (owner a s.part).body := by
  rw [Answers, hx, s.part.portRequest_some code a owner hr, hp]; rfl

/-! ### IDENTIFY -/

/-- The body of IDENTIFY, byte by byte behind the part code: the two-byte counts 768 and 1024 are sent as 3, 0 and 4, 0. -/
theorem identity_eq : identity = bytes 2 Config.partCode.toNat ++ [1, 96, 48, 12, 8, 4, 3, 4, 48, 3, 0, 64, 16, 4, 0] := by
  have hroster : bytes 2 Config.rosterPool = [3, 0] := by decide
  have hbody : bytes 2 Config.largestBody = [4, 0] := by decide
  simp [identity, hroster, hbody, byte]

/-- IDENTIFY dispatched with the empty body that it carries. -/
theorem exec_identify_nil (s : State) :
    exec (.identify []) s = s.become (s.part.portRequest 0x01 (some ()) identifyOwner) := rfl

/-- Settles O4: no test of the table's state stands before IDENTIFY's owner, which leaves the part as it is and answers
`identity`. -/
theorem identifyReturnsTheCounts : Obligations.IdentifyReturnsTheCounts := by
  intro s hr
  rw [← identity_eq]
  exact answers_of_portReply (.identify []) s 0x01 () identifyOwner (exec_identify_nil s) hr rfl

end Sys2Proof.Machine
end

section
/-! What one block's step keeps of a part: its supply, the enables, the numbers of records, the range of the clock, the
validity of the settings, the urgent lists, and the order and the pool of the queues. `Part.Keeps` says it once, with one
lemma per operation, each in the form "if it is kept up to here, it is kept after this operation too". -/

namespace Sys2Proof.Machine

/-! ### Queues in class order -/

/-- Every queue has its PRIORITY entries ahead (R115). -/
def Part.queuesOrdered (p : Part) : Prop := ∀ x ∈ p.queues, x.inClassOrder

/-- Entries in class order (R115), as a property of the list. -/
def classOrder (l : List QueueEntry) : Prop := l.Pairwise (fun a b => b.cls = .priority → a.cls = .priority)

theorem classOrder_sublist {k l : List QueueEntry} (h : classOrder l) (hs : k.Sublist l) : classOrder k :=
  List.Pairwise.sublist hs h

/-- A list whose front is all PRIORITY is in class order when the rest is. -/
theorem classOrder_append_priority {k l : List QueueEntry} (hk : ∀ e ∈ k, e.cls = .priority) (hl : classOrder l) :
    classOrder (k ++ l) :=
  List.pairwise_append.2 ⟨List.Pairwise.imp_of_mem (R := fun _ _ => True) (fun ha _ _ _ => hk _ ha)
    (List.pairwise_of_forall (fun _ _ => trivial)), hl, fun a ha _ _ _ => hk a ha⟩

/-- A list whose end is all ORDINARY is in class order when the front is. -/
theorem classOrder_append_ordinary {k l : List QueueEntry} (hk : classOrder k) (hl : ∀ e ∈ l, e.cls = .ordinary) :
    classOrder (k ++ l) := by
  have never : ∀ e ∈ l, e.cls ≠ .priority := fun e he h => by rw [hl e he] at h; cases h
  exact List.pairwise_append.2 ⟨hk, List.Pairwise.imp_of_mem (R := fun _ _ => True)
    (fun _ hb _ h => absurd h (never _ hb)) (List.pairwise_of_forall (fun _ _ => trivial)), fun _ _ b hb h => absurd h (never b hb)⟩

theorem placeEntry_classOrder (e : QueueEntry) (l : List QueueEntry) (h : classOrder l) : classOrder (placeEntry e l) := by
  unfold placeEntry
  split
  · next ho => exact classOrder_append_ordinary h (by simpa using ho)
  · next hp =>
    rw [List.append_cons]
    refine classOrder_append_priority (fun x hx => ?_) (classOrder_sublist h (List.dropWhile_sublist _))
    rcases List.mem_append.1 hx with hx | hx
    · simpa using List.mem_takeWhile_imp hx
    · rw [List.mem_singleton.1 hx, hp]

theorem length_placeEntry (e : QueueEntry) (l : List QueueEntry) : (placeEntry e l).length = l.length + 1 := by
  unfold placeEntry
  split
  · simp
  · have := congrArg List.length (List.takeWhile_append_dropWhile (p := fun x : QueueEntry => decide (x.cls = .priority)) (l := l))
    simp only [List.length_append, List.length_cons] at this ⊢
    omega

/-- A member of one class that names its seat is found among its class and not among the others of its seat. -/
theorem length_otherSeats_lt (e : QueueEntry) (l : List QueueEntry) (he : e ∈ l) :
    ((l.filter (fun x => decide (x.cls = e.cls))).filter (fun x => x.seat != e.seat)).length <
      (l.filter (fun x => decide (x.cls = e.cls))).length := by
  refine List.length_filter_lt_length_iff_exists.2 ⟨e, ?_, by simp⟩
  simpa using he

theorem moveInClass_classOrder (e : QueueEntry) (pos : Nat) (l : List QueueEntry) : classOrder (moveInClass e pos l) := by
  unfold moveInClass
  dsimp only
  have hsame : ∀ x ∈ ((l.filter (fun x => decide (x.cls = e.cls))).filter (fun x => x.seat != e.seat)).insertIdx
      (min (pos - 1) ((l.filter (fun x => decide (x.cls = e.cls))).filter (fun x => x.seat != e.seat)).length) e,
      x.cls = e.cls := by
    intro x hx
    rcases List.eq_or_mem_of_mem_insertIdx hx with rfl | hx
    · rfl
    · exact of_decide_eq_true (List.mem_filter.1 (List.mem_filter.1 hx).1).2
  split
  · next hp =>
    refine classOrder_append_priority (fun x hx => (hsame x hx).trans hp) ?_
    exact classOrder_append_ordinary (k := []) List.Pairwise.nil (by simp)
  · next ho =>
    refine classOrder_append_ordinary ?_ (fun x hx => (hsame x hx).trans ho)
    have := classOrder_append_priority (k := l.filter (fun x => decide (x.cls = .priority))) (l := []) (by simp) List.Pairwise.nil
    simpa using this

theorem length_moveInClass (e : QueueEntry) (pos : Nat) (l : List QueueEntry) (he : e ∈ l) :
    (moveInClass e pos l).length ≤ l.length := by
  have hlt := length_otherSeats_lt e l he
  have hsum : (l.filter (fun x => decide (x.cls = .priority))).length +
      (l.filter (fun x => decide (x.cls = .ordinary))).length = l.length := by
    rw [List.length_eq_length_filter_add (fun x : QueueEntry => decide (x.cls = .priority)) (l := l)]
    congr 2
    refine List.filter_congr (fun x _ => ?_)
    cases x.cls <;> rfl
  unfold moveInClass
  dsimp only
  split
  · next hp =>
    simp only [hp] at hlt ⊢
    simp only [List.length_append, List.length_insertIdx_of_le_length (Nat.min_le_right _ _)]
    omega
  · next ho =>
    simp only [ho] at hlt ⊢
    simp only [List.length_append, List.length_insertIdx_of_le_length (Nat.min_le_right _ _)]
    omega

/-! ### The relation -/

/-- What of a part the relation watches beside the numbers of its records. -/
structure Watched where
  power : Power
  enables : NoticeSet
  clock : Clock
  settings : Settings
  store : Store
  left : List Nat
  right : List Nat
  wall : List Nat
  queues : List Queue

def Part.watched (p : Part) : Watched :=
  { power := p.power, enables := p.notices.enables, clock := p.clock, settings := p.settings, store := p.store
    left := p.left.urgent, right := p.right.urgent, wall := p.wall.urgent, queues := p.queues }

/-- From `p` to `q` no notice flag is lowered. -/
def Part.RaisesTo (p q : Part) : Prop := ∀ k : NoticeSet, p.notices.flags &&& k ≠ 0 → q.notices.flags &&& k ≠ 0

/-- Flags raised beside those that stand (R186). -/
theorem or_and_ne_zero (x y k : NoticeSet) (h : x &&& k ≠ 0) : (x ||| y) &&& k ≠ 0 := by
  intro hz
  refine h (BitVec.eq_of_getLsbD_eq fun i hi => ?_)
  have hbit := congrArg (fun z : NoticeSet => z.getLsbD i) hz
  simp only [BitVec.getLsbD_and, BitVec.getLsbD_or, BitVec.ofNat_eq_ofNat, BitVec.getLsbD_zero] at hbit ⊢
  cases hx : x.getLsbD i
  · rfl
  · rw [hx] at hbit; simpa using hbit

theorem Part.raise_raises (p : Part) (k : NoticeKind) : p.RaisesTo (p.raise k) := fun _ h => or_and_ne_zero _ _ _ h

/-- From `p` to `q` nothing is lost of what every step keeps. -/
structure Part.Keeps (p q : Part) : Prop where
  power : q.power = p.power
  enables : q.notices.enables = p.notices.enables
  shape : q.shape = p.shape
  clock : p.clock.inRange → q.clock.inRange
  settings : p.settingsValid → q.settingsValid
  urgent : p.urgentOnce → q.urgentOnce
  order : p.queuesOrdered → q.queuesOrdered
  pool : p.queueStanding ≤ 64 → q.queueStanding ≤ 64
  flags : p.RaisesTo q

variable {p q : Part}

theorem Part.Keeps.refl (p : Part) : p.Keeps p := ⟨rfl, rfl, rfl, id, id, id, id, id, fun _ => id⟩

theorem Part.Keeps.trans {r : Part} (h : p.Keeps q) (k : q.Keeps r) : p.Keeps r :=
  ⟨k.power.trans h.power, k.enables.trans h.enables, k.shape.trans h.shape, k.clock ∘ h.clock, k.settings ∘ h.settings,
    k.urgent ∘ h.urgent, k.order ∘ h.order, k.pool ∘ h.pool, fun b => k.flags b ∘ h.flags b⟩

/-- A write of what is not watched. -/
theorem Part.Keeps.same {r : Part} (h : p.Keeps q) (hs : r.shape = q.shape) (hw : r.watched = q.watched)
    (hf : q.RaisesTo r) : p.Keeps r := by
  have hq : r.queues = q.queues := congrArg Watched.queues hw
  have hset : r.settings = q.settings := congrArg Watched.settings hw
  have hst : r.store = q.store := congrArg Watched.store hw
  have hl : r.left.urgent = q.left.urgent := congrArg Watched.left hw
  have hr : r.right.urgent = q.right.urgent := congrArg Watched.right hw
  have hw' : r.wall.urgent = q.wall.urgent := congrArg Watched.wall hw
  have hc : r.clock = q.clock := congrArg Watched.clock hw
  exact h.trans ⟨congrArg Watched.power hw, congrArg Watched.enables hw, hs, by rw [hc]; exact id,
    by simp only [Part.settingsValid, hset, hst]; exact id, by simp only [Part.urgentOnce, hl, hr, hw']; exact id,
    by simp only [Part.queuesOrdered, hq]; exact id, by simp only [Part.queueStanding, hq]; exact id, hf⟩

/-! ### Writes of one record -/

namespace Part.Keeps

theorem seats (h : p.Keeps q) {l : List Seat} (hl : l.length = q.seats.length) : p.Keeps { q with seats := l } :=
  h.same (by simp only [Part.shape, hl]) rfl (fun _ => id)
theorem floors (h : p.Keeps q) {l : List Floor} (hl : l.length = q.floors.length) : p.Keeps { q with floors := l } :=
  h.same (by simp only [Part.shape, hl]) rfl (fun _ => id)
theorem slots (h : p.Keeps q) {l : List (Option Booking)} {k : Nat} (hl : l.length = q.slots.length) :
    p.Keeps { q with slots := l, lastHandle := k } := h.same (by simp only [Part.shape, hl]) rfl (fun _ => id)
theorem partitions (h : p.Keeps q) {l : List Partition} (hl : l.length = q.partitions.length) :
    p.Keeps { q with partitions := l } := h.same (by simp only [Part.shape, hl]) rfl (fun _ => id)
theorem displays (h : p.Keeps q) {l : List Display} : p.Keeps { q with displays := l } := h.same rfl rfl (fun _ => id)
theorem ambient (h : p.Keeps q) {a : Ambient} : p.Keeps { q with ambient := a } := h.same rfl rfl (fun _ => id)
theorem control (h : p.Keeps q) {c : PowerControl} : p.Keeps { q with control := c } := h.same rfl rfl (fun _ => id)
theorem now (h : p.Keeps q) {t : Nat} : p.Keeps { q with now := t } := h.same rfl rfl (fun _ => id)
theorem setAnswer (h : p.Keeps q) {c : Byte} {st : Status} {b : List Byte} : p.Keeps (q.setAnswer c st b) := h.same rfl rfl (fun _ => id)

theorem updSeat (h : p.Keeps q) {n : Nat} {f : Seat → Seat} : p.Keeps (q.updSeat n f) := h.same (by simp) rfl (fun _ => id)
theorem updFloor (h : p.Keeps q) {n : Nat} {f : Floor → Floor} : p.Keeps (q.updFloor n f) := h.same (by simp) rfl (fun _ => id)
theorem setContext (h : p.Keeps q) {n : Nat} {c : Option OpContext} : p.Keeps (q.setContext n c) := h.same (by simp) rfl (fun _ => id)
theorem updSlot (h : p.Keeps q) {k : Nat} {g : Booking → Booking} : p.Keeps (q.updSlot k g) := h.same (by simp) rfl (fun _ => id)
theorem updPartition (h : p.Keeps q) {k : Nat} {g : Partition → Partition} : p.Keeps (q.updPartition k g) :=
  h.same (by simp) rfl (fun _ => id)
theorem updDisplay (h : p.Keeps q) {d : Nat} {g : Display → Display} : p.Keeps (q.updDisplay d g) := h.same rfl rfl (fun _ => id)
theorem raise (h : p.Keeps q) {k : NoticeKind} : p.Keeps (q.raise k) :=
  h.same rfl rfl (q.raise_raises k)

/-- An engine written so that its urgent list stays without repeats. -/
theorem updEngine (h : p.Keeps q) {seg : Segment} {g : Engine → Engine}
    (hg : (q.engine seg).urgent.Nodup → (g (q.engine seg)).urgent.Nodup) : p.Keeps (q.updEngine seg g) := by
  refine h.trans ⟨by simp, by simp, by simp, by simp, by simp [Part.settingsValid], ?_, by simp [Part.queuesOrdered],
    by simp [Part.queueStanding], fun k hk => by simpa using hk⟩
  rintro ⟨hl, hr, hw⟩
  cases seg
  · exact ⟨hg hl, hr, hw⟩
  · exact ⟨hl, hg hr, hw⟩
  · exact ⟨hl, hr, hg hw⟩

/-- An engine written beside its urgent list. -/
theorem updEngine_same (h : p.Keeps q) {seg : Segment} {g : Engine → Engine}
    (hg : ∀ e, (g e).urgent = e.urgent := by intro e; rfl) : p.Keeps (q.updEngine seg g) :=
  h.updEngine (by rw [hg]; exact id)

theorem mem_upd {α : Type} {l : List α} {i : Nat} {f : α → α} {a : α} (h : a ∈ upd l i f) : a ∈ l ∨ ∃ b ∈ l, a = f b := by
  cases i with
  | zero => exact .inl h
  | succ k =>
    obtain ⟨j, hj⟩ := List.mem_iff_getElem?.1 h
    simp only [upd, List.getElem?_modify] at hj
    split at hj
    · obtain ⟨b, hb, rfl⟩ := Option.map_eq_some_iff.1 hj
      exact .inr ⟨b, List.mem_of_getElem? hb, rfl⟩
    · exact .inl (List.mem_of_getElem? (i := j) (by simpa using hj))

/-- The sum over a list of which one entry is written. -/
theorem sum_upd_le {α : Type} (w : α → Nat) (c : Nat) (f : α → α) (l : List α) (hf : ∀ a ∈ l, w (f a) ≤ w a + c) (i : Nat) :
    ((upd l i f).map w).sum ≤ (l.map w).sum + c := by
  cases i with
  | zero => exact Nat.le_add_right _ _
  | succ k =>
    simp only [upd]
    induction l generalizing k with
    | nil => cases k <;> simp
    | cons a l ih =>
      cases k with
      | zero =>
        have := hf a (List.mem_cons_self ..)
        simp only [List.modify_zero_cons, List.map_cons, List.sum_cons]
        omega
      | succ k =>
        have := ih (fun b hb => hf b (List.mem_cons_of_mem _ hb)) k
        simp only [List.modify_succ_cons, List.map_cons, List.sum_cons]
        omega

/-- A queue written so that it stays ordered and gets no longer. -/
theorem updQueue (h : p.Keeps q) {n : Nat} {f : Queue → Queue} (ho : ∀ x : Queue, x.inClassOrder → (f x).inClassOrder)
    (hl : ∀ x : Queue, (f x).entries.length ≤ x.entries.length) : p.Keeps (q.updQueue n f) := by
  refine h.trans ⟨rfl, rfl, by simp, id, id, id, fun hq x hx => ?_, fun hq => ?_, fun _ => id⟩
  · rcases mem_upd hx with hx | ⟨y, hy, rfl⟩
    · exact hq x hx
    · exact ho y (hq y hy)
  · exact (sum_upd_le (fun x : Queue => x.entries.length) 0 f q.queues (fun x _ => hl x) n).trans hq

/-- An entry joins a queue while the pool holds a free one (R113, R117). -/
theorem joinQueue (h : p.Keeps q) {f n : Nat} {c : QueueClass} (hp : 0 < q.queueFree) : p.Keeps (q.joinQueue f n c) := by
  refine h.trans ⟨rfl, rfl, by simp, id, id, id, fun hq x hx => ?_, fun _ => ?_, fun _ => id⟩
  · rcases mem_upd hx with hx | ⟨y, hy, rfl⟩
    · exact hq x hx
    · exact placeEntry_classOrder _ _ (hq y hy)
  · have hlt : q.queueStanding + 1 ≤ 64 := by
      simp only [Part.queueFree, Config.queuePool] at hp
      omega
    refine (sum_upd_le (fun x : Queue => x.entries.length) 1 _ q.queues (fun x _ => ?_) f).trans hlt
    simp only [length_placeEntry, le_refl]

theorem enqueueSeat (h : p.Keeps q) {f n : Nat} {c : QueueClass} {r : Part} (hr : q.enqueueSeat f n c = some r) :
    p.Keeps r := by
  unfold Part.enqueueSeat at hr
  split at hr
  · next hroom =>
    cases hr
    simp only [Part.queueHasRoom, Bool.and_eq_true, decide_eq_true_eq] at hroom
    exact h.joinQueue hroom.2
  · cases hr

/-! ### Bookings, marks and urgent exchanges -/

theorem updBooking (h : p.Keeps q) {k : Nat} {g : Booking → Booking} : p.Keeps (q.updBooking k g) := by
  unfold Part.updBooking; split
  exacts [h, h.updSlot]
theorem freeBooking (h : p.Keeps q) {k : Nat} : p.Keeps (q.freeBooking k) := by
  unfold Part.freeBooking; split
  exacts [h, h.slots (by simp)]
theorem setGuard (h : p.Keeps q) {n : Nat} : p.Keeps (q.setGuard n) := h.updSeat
theorem flash (h : p.Keeps q) {n : Nat} : p.Keeps (q.flash n) := h.updSeat
theorem touchBooking (h : p.Keeps q) {k : Nat} : p.Keeps (q.touchBooking k) :=
  h.same (by simp) (by unfold Part.touchBooking; split <;> rfl)
    (by unfold Part.touchBooking; split; exacts [fun _ => id, fun _ hk => or_and_ne_zero _ _ _ hk])
theorem touchFloor (h : p.Keeps q) {f : Nat} : p.Keeps (q.touchFloor f) :=
  h.same (by simp) rfl (fun _ hk => or_and_ne_zero _ _ _ hk)
theorem touchTable (h : p.Keeps q) : p.Keeps q.touchTable :=
  h.same (by simp) rfl (fun _ hk => or_and_ne_zero _ _ _ hk)
theorem touchSeat (h : p.Keeps q) {n : Nat} : p.Keeps (q.touchSeat n) :=
  h.same (by simp) rfl (fun _ hk => or_and_ne_zero _ _ _ hk)
theorem addFlag (h : p.Keeps q) {k : Nat} {g : Booking → Booking} : p.Keeps (q.addFlag k g) := by
  unfold Part.addFlag; split
  exacts [h, h.updBooking.touchBooking]

/-- A position is listed once (R162). -/
theorem requestUrgent (h : p.Keeps q) {seg : Segment} {pos : Nat} : p.Keeps (q.requestUrgent seg pos) := by
  unfold Part.requestUrgent; split
  · next hc => exact h.updEngine (fun hn => List.nodup_append_comm.1 (List.nodup_cons.2 ⟨hc.2.2, hn⟩))
  · exact h
theorem requestSeat (h : p.Keeps q) {n : Nat} : p.Keeps (q.requestSeat n) := h.requestUrgent
theorem requestDisplay (h : p.Keeps q) {d : Nat} : p.Keeps (q.requestDisplay d) := by
  unfold Part.requestDisplay; split
  exacts [h, h.requestUrgent]
/-- A fold of steps that each keep. -/
theorem foldl {α : Type} {f : Part → α → Part} (hf : ∀ (r : Part) a, p.Keeps r → p.Keeps (f r a)) {l : List α}
    (h : p.Keeps q) : p.Keeps (l.foldl f q) := foldl_inv p.Keeps f hf l q h
theorem requestSeats (h : p.Keeps q) {l : List Nat} : p.Keeps (q.requestSeats l) := h.foldl (fun _ _ k => k.requestSeat)

/-! ### Queues -/

theorem leaveQueue (h : p.Keeps q) {f n : Nat} : p.Keeps (q.leaveQueue f n) :=
  h.updQueue (fun _ hx => classOrder_sublist hx List.filter_sublist) (fun _ => List.length_filter_le _ _)
theorem emptyQueue (h : p.Keeps q) {f : Nat} : p.Keeps (q.emptyQueue f) :=
  h.updQueue (fun _ _ => List.Pairwise.nil) (fun _ => Nat.zero_le _)
theorem moveQueued (h : p.Keeps q) {f n pos : Nat} : p.Keeps (q.moveQueued f n pos) :=
  h.updQueue (fun x hx => by split; exacts [hx, moveInClass_classOrder _ _ _])
    (fun x => by
      split
      · exact le_refl _
      · next e he => exact length_moveInClass e pos x.entries (List.mem_of_find?_eq_some he))
theorem reclassQueued (h : p.Keeps q) {f n : Nat} {c : QueueClass} : p.Keeps (q.reclassQueued f n c) :=
  h.updQueue
    (fun x hx => by
      split
      · exact hx
      · exact placeEntry_classOrder _ _ (classOrder_sublist hx List.filter_sublist))
    (fun x => by
      split
      · exact le_refl _
      · next e he =>
        have hn := List.find?_some he
        have : (x.entries.filter (fun y => y.seat != n)).length < x.entries.length :=
          List.length_filter_lt_length_iff_exists.2 ⟨e, List.mem_of_find?_eq_some he, by simpa using hn⟩
        simp only [length_placeEntry]
        omega)
theorem expireQueue (h : p.Keeps q) {f : Nat} : p.Keeps (q.expireQueue f) := by
  unfold Part.expireQueue; split
  · exact h
  · exact h.updQueue (fun _ hx => classOrder_sublist hx List.filter_sublist) (fun _ => List.length_filter_le _ _)
theorem trimQueue (h : p.Keeps q) {f : Nat} : p.Keeps (q.trimQueue f) :=
  h.updQueue (fun _ hx => classOrder_sublist hx (List.take_sublist _ _)) (fun _ => by simp)
theorem startQueue (h : p.Keeps q) {f : Nat} : p.Keeps (q.updQueue f (fun _ => Machine.startQueue)) :=
  h.updQueue (fun _ _ => List.Pairwise.nil) (fun _ => Nat.zero_le _)

/-! ### Floors -/

theorem openSeat (h : p.Keeps q) {f n : Nat} : p.Keeps (q.openSeat f n) := by
  unfold Part.openSeat; split
  exacts [h.updFloor.leaveQueue, h]
theorem endHold (h : p.Keeps q) {f n : Nat} : p.Keeps (q.endHold f n) := by
  unfold Part.endHold; split
  exacts [h.updSeat.updFloor, h]
theorem dropEntry (h : p.Keeps q) {f n : Nat} : p.Keeps (q.dropEntry f n) := h.updFloor
theorem closeEntry (h : p.Keeps q) {f n : Nat} : p.Keeps (q.closeEntry f n) := h.endHold.dropEntry
theorem forceClose (h : p.Keeps q) {f n : Nat} : p.Keeps (q.forceClose f n) := h.closeEntry.setGuard
theorem grantHead (h : p.Keeps q) {f : Nat} : p.Keeps (q.grantHead f) := by
  unfold Part.grantHead; split
  exacts [h, h.leaveQueue.openSeat]
theorem grantLoop {f : Nat} : ∀ (k : Nat) {q : Part}, p.Keeps q → p.Keeps (grantLoop k f q)
  | 0, _, h => h
  | k + 1, _, h => by
    unfold Machine.grantLoop; split
    exacts [grantLoop k h.grantHead, h]
theorem autoGrant (h : p.Keeps q) {f : Nat} : p.Keeps (q.autoGrant f) := grantLoop _ h
theorem closeThenGrant (h : p.Keeps q) {f n : Nat} {b : Bool} : p.Keeps (q.closeThenGrant f n b) := by
  have hc : p.Keeps (if b then q.forceClose f n else q.closeEntry f n) := by
    split
    exacts [h.forceClose, h.closeEntry]
  unfold Part.closeThenGrant; dsimp only; split
  exacts [hc.autoGrant, hc]
theorem enqueueOrFlash (h : p.Keeps q) {f n : Nat} : p.Keeps (q.enqueueOrFlash f n) := by
  unfold Part.enqueueOrFlash
  cases hr : q.enqueueSeat f n (q.seatAt n).role.queueClass with
  | none => exact h.flash
  | some r => exact h.enqueueSeat hr
theorem speakChair (h : p.Keeps q) {f n : Nat} : p.Keeps (q.speakChair f n) := by
  unfold Part.speakChair; split
  exacts [h.closeEntry, h.openSeat]
theorem speakOverflow (h : p.Keeps q) {f n : Nat} : p.Keeps (q.speakOverflow f n) := by
  unfold Part.speakOverflow; split
  · exact h.enqueueOrFlash
  · exact h.flash
  · split
    exacts [h.flash, h.forceClose.openSeat]
theorem speakClosed (h : p.Keeps q) {f n : Nat} : p.Keeps (q.speakClosed f n) := by
  unfold Part.speakClosed; split
  · split
    exacts [h.openSeat, h.speakOverflow]
  · exact h.enqueueOrFlash
  · split
    · exact h.flash
    · next r hr => exact (h.enqueueSeat hr).autoGrant
theorem speakDelegate (h : p.Keeps q) {f n : Nat} : p.Keeps (q.speakDelegate f n) := by
  unfold Part.speakDelegate; repeat' split
  exacts [h.closeThenGrant, h.flash, h.leaveQueue, h.speakClosed]
theorem speakUnguarded (h : p.Keeps q) {f n : Nat} : p.Keeps (q.speakUnguarded f n) := by
  unfold Part.speakUnguarded; repeat' split
  exacts [h.flash, h.flash, h.speakChair, h.speakDelegate]
theorem speakPress (h : p.Keeps q) {f n : Nat} : p.Keeps (q.speakPress f n) := by
  unfold Part.speakPress; split
  exacts [h, h.speakUnguarded]
theorem nextSpeaker (h : p.Keeps q) {f : Nat} : p.Keeps (q.nextSpeaker f) := by
  unfold Part.nextSpeaker; repeat' split
  exacts [h.grantHead, h.grantHead, h.forceClose.grantHead.autoGrant]
theorem nextPress (h : p.Keeps q) {f n : Nat} : p.Keeps (q.nextPress f n) := by
  unfold Part.nextPress; split
  exacts [h.nextSpeaker, h.flash]
theorem forceCloseAll (h : p.Keeps q) {f : Nat} {l : List Nat} : p.Keeps (q.forceCloseAll f l) :=
  h.foldl (fun _ _ k => k.forceClose)
theorem cancelAll (h : p.Keeps q) {f : Nat} : p.Keeps (q.cancelAll f) := h.forceCloseAll.emptyQueue
theorem cancelAllPress (h : p.Keeps q) {f n : Nat} : p.Keeps (q.cancelAllPress f n) := by
  unfold Part.cancelAllPress; split
  exacts [h.cancelAll, h.flash]
theorem startHold (h : p.Keeps q) {f n : Nat} : p.Keeps (q.startHold f n) := by
  unfold Part.startHold; dsimp only; repeat' split
  exacts [h.updSeat.updFloor.updFloor, h.updSeat.updFloor.openSeat.updFloor, h.updSeat.updFloor,
    h.updSeat.updFloor.openSeat]
theorem priorityPress (h : p.Keeps q) {f n : Nat} : p.Keeps (q.priorityPress f n) := by
  unfold Part.priorityPress; split
  exacts [h.startHold, h.flash]
theorem updEntry (h : p.Keeps q) {f n : Nat} {g : OpenEntry → OpenEntry} : p.Keeps (q.updEntry f n g) := h.updFloor
theorem warnEntry (h : p.Keeps q) {f n : Nat} : p.Keeps (q.warnEntry f n) := by
  unfold Part.warnEntry; repeat' split
  exacts [h, h.updEntry, h]
theorem expireEntry (h : p.Keeps q) {f n : Nat} : p.Keeps (q.expireEntry f n) := by
  unfold Part.expireEntry; repeat' split
  exacts [h, h.warnEntry.updEntry, h.closeThenGrant, h]
theorem takeWarning (h : p.Keeps q) {f n : Nat} : p.Keeps (q.takeWarning f n) := by
  unfold Part.takeWarning; repeat' split
  exacts [h, h.warnEntry.expireEntry, h.warnEntry]
theorem settleTimers (h : p.Keeps q) {f : Nat} {b : Bool} : p.Keeps (q.settleTimers f b) := by
  unfold Part.settleTimers; split
  exacts [h.updFloor, h.forceCloseAll]
theorem timerChange (h : p.Keeps q) {f : Nat} {o n : FloorParams} {b : Bool} : p.Keeps (q.timerChange f o n b) := by
  unfold Part.timerChange; dsimp only; repeat' split
  exacts [h.updFloor.updFloor.settleTimers, h.updFloor.settleTimers, h.updFloor.settleTimers, h.settleTimers,
    h.updFloor.updFloor, h.updFloor, h.updFloor, h]
theorem closeExcess {f : Nat} : ∀ (k : Nat) {q : Part}, p.Keeps q → p.Keeps (closeExcess k f q)
  | 0, _, h => h
  | k + 1, _, h => by
    unfold Machine.closeExcess; repeat' split
    exacts [h, closeExcess k h.forceClose, h]
theorem enforceLimit (h : p.Keeps q) {f : Nat} : p.Keeps (q.enforceLimit f) := closeExcess _ h
theorem roleOfOpen (h : p.Keeps q) {f n : Nat} {e : OpenEntry} {r : Role} : p.Keeps (q.roleOfOpen f n e r) := by
  unfold Part.roleOfOpen; split
  exacts [h.updEntry.autoGrant, h.updFloor.enforceLimit, h.updFloor.enforceLimit, h, h, h]
theorem roleOfQueued (h : p.Keeps q) {f n : Nat} {r : Role} : p.Keeps (q.roleOfQueued f n r) := by
  unfold Part.roleOfQueued; repeat' split
  exacts [h.leaveQueue, h.leaveQueue.openSeat, h.reclassQueued, h.reclassQueued]
theorem roleChanged (h : p.Keeps q) {f n : Nat} {r : Role} : p.Keeps (q.roleChanged f n r) := by
  have hh : p.Keeps (if r = .chair then q.endHold f n else q) := by
    split
    exacts [h.endHold, h]
  unfold Part.roleChanged; dsimp only
  split
  · exact h
  · generalize (if r = .chair then q.endHold f n else q) = held at hh ⊢
    split
    · exact hh.roleOfOpen
    · split
      exacts [hh.roleOfQueued, hh]
theorem takeSuspension (h : p.Keeps q) {f : Nat} : p.Keeps (q.takeSuspension f) := by
  unfold Part.takeSuspension; dsimp only; split
  exacts [h.updFloor.forceCloseAll, h.updFloor.forceCloseAll.updBooking]
theorem resume (h : p.Keeps q) {f : Nat} : p.Keeps (q.resume f) := h.updFloor.autoGrant
theorem evalSuspension (h : p.Keeps q) : p.Keeps q.evalSuspension :=
  h.foldl (fun r f k => by
    unfold Part.evalSuspensionOf; repeat' split
    exacts [k.takeSuspension, k.resume, k])
theorem removeUnadmitted (h : p.Keeps q) {f n : Nat} : p.Keeps (q.removeUnadmitted f n) := by
  unfold Part.removeUnadmitted; split
  exacts [h.forceClose.leaveQueue, h.leaveQueue]
theorem enforceAdmission (h : p.Keeps q) {f : Nat} : p.Keeps (q.enforceAdmission f) := by
  unfold Part.enforceAdmission; split
  exacts [h.foldl (fun _ _ k => k.removeUnadmitted), h]

/-! ### Links, displays and the end of a step -/

theorem setProbeDue (h : p.Keeps q) {seg : Segment} {pos : Nat} : p.Keeps (q.setProbeDue seg pos) :=
  h.updEngine_same
theorem send (h : p.Keeps q) {seg : Segment} {x : Exchange} : p.Keeps (q.send seg x) := h.updEngine_same
theorem countConflict (h : p.Keeps q) {seg : Segment} {o : LinkOutcome} : p.Keeps (q.countConflict seg o) := by
  unfold Part.countConflict; split
  exacts [h.updEngine_same.raise, h]
theorem lineEnds (h : p.Keeps q) {seg : Segment} {o : LinkOutcome} : p.Keeps (q.lineEnds seg o) :=
  h.updEngine_same.countConflict
theorem serveRound (h : p.Keeps q) {seg : Segment} : p.Keeps (q.serveRound seg) := by
  unfold Part.serveRound
  split
  · exact h
  · split
    · exact h
    · dsimp only
      split
      exacts [h.updEngine_same.send.setProbeDue, h.updEngine_same.send]
/-- What is left of an urgent list after the oldest polled position is an end of it. -/
theorem takeUrgent_sublist (r : Part) (seg : Segment) (l : List Nat) (pos : Nat) (rest : List Nat)
    (h : r.takeUrgent seg l = some (pos, rest)) : rest.Sublist l := by
  induction l with
  | nil => cases h
  | cons a l ih =>
    unfold Part.takeUrgent at h
    split at h
    · cases h; exact List.sublist_cons_self _ _
    · exact (ih h).cons _
theorem serveNext (h : p.Keeps q) {seg : Segment} : p.Keeps (q.serveNext seg) := by
  unfold Part.serveNext; split
  · next pos rest ht => exact (h.updEngine (fun hn => hn.sublist (takeUrgent_sublist q seg _ pos rest ht))).send
  · exact (h.updEngine (fun _ => List.nodup_nil)).serveRound
theorem serveBlank (h : p.Keeps q) : p.Keeps q.serveBlank := by
  unfold Part.serveBlank; split
  exacts [h.updEngine_same, (h.updEngine (fun hn => hn.filter _)).send]
theorem kick (h : p.Keeps q) {seg : Segment} : p.Keeps (q.kick seg) := by
  unfold Part.kick; repeat' split
  exacts [h.serveBlank, h, h, h.serveNext, h]
theorem kickAll (h : p.Keeps q) : p.Keeps q.kickAll := h.kick.kick.kick
theorem takeWalk (h : p.Keeps q) {seg : Segment} : p.Keeps (q.takeWalk seg) := by
  unfold Part.takeWalk; split
  exacts [h.updEngine_same, h]
theorem takeWalks (h : p.Keeps q) : p.Keeps q.takeWalks := h.takeWalk.takeWalk.takeWalk
theorem recomputeAll (h : p.Keeps q) : p.Keeps q.recomputeAll :=
  h.displays.foldl (fun r d k => by split; exacts [k.requestDisplay, k])
theorem syncSeats (h : p.Keeps q) {old : Part} : p.Keeps (old.syncSeats q) :=
  Keeps.foldl (fun r n k => by split; exacts [k.requestSeat, k]) (h.seats (by simp))
theorem noteChanges (h : p.Keeps q) {old : Part} : p.Keeps (old.noteChanges q) :=
  h.same (by simp) rfl (fun _ hk => or_and_ne_zero _ _ _ hk)
theorem follow (h : p.Keeps q) {old : Part} : p.Keeps (old.follow q) := h.syncSeats.recomputeAll.noteChanges
theorem settle (h : p.Keeps q) {old : Part} : p.Keeps (old.settle q) := h.takeWalks.follow.kickAll

/-! ### Bookings -/

theorem writeSeats (h : p.Keeps q) {run : ZoneRun} {g : Nat → Option RosterEntry} : p.Keeps (q.writeSeats run g) :=
  h.seats (by simp)
theorem restartRotations (h : p.Keeps q) {f : Nat} : p.Keeps (q.restartRotations f) := h.displays
theorem addBooking (h : p.Keeps q) {b : Booking} : p.Keeps (q.addBooking b) := by
  unfold Part.addBooking; split
  exacts [h, h.slots (by simp)]
theorem beginPush (h : p.Keeps q) {f : Nat} {b : Booking} : p.Keeps (q.beginPush f b) := by
  unfold Part.beginPush; dsimp only; split
  exacts [h.writeSeats.addFlag.setContext.requestSeats, h.writeSeats.setContext.requestSeats]
theorem beginApply (h : p.Keeps q) {f : Nat} {b : Booking} : p.Keeps (q.beginApply f b) :=
  h.updBooking.updFloor.startQueue.evalSuspension.beginPush
theorem floorLive (h : p.Keeps q) {f : Nat} : p.Keeps (q.floorLive f) := h.updFloor.restartRotations.evalSuspension
theorem dropPending (h : p.Keeps q) {b : Booking} : p.Keeps (q.dropPending b) := by
  unfold Part.dropPending; repeat' split
  exacts [h, h.flash, h]
theorem takePending (h : p.Keeps q) {f : Nat} {b : Booking} : p.Keeps (q.takePending f b) := by
  unfold Part.takePending; repeat' split
  exacts [h, h.speakUnguarded, h]
theorem applyLive (h : p.Keeps q) {f : Nat} {b : Booking} : p.Keeps (q.applyLive f b) := by
  unfold Part.applyLive; dsimp only; split
  exacts [h.updBooking.floorLive.dropPending.updBooking, h.updBooking.floorLive.takePending.updBooking]
theorem completeApply (h : p.Keeps q) {f : Nat} {b : Booking} : p.Keeps (q.completeApply f b) := by
  unfold Part.completeApply; dsimp only; split
  exacts [h.setContext.applyLive, h.setContext.updBooking.updFloor]
theorem releaseFloor (h : p.Keeps q) {f : Nat} : p.Keeps (q.releaseFloor f) :=
  h.updFloor.emptyQueue.control.evalSuspension
theorem beginCloseOut (h : p.Keeps q) {f k : Nat} : p.Keeps (q.beginCloseOut f k) :=
  h.updBooking.updFloor.forceCloseAll.emptyQueue.setContext.requestSeats.evalSuspension.touchTable
theorem beginClear (h : p.Keeps q) {f : Nat} {b : Booking} : p.Keeps (q.beginClear f b) :=
  h.writeSeats.setContext.requestSeats
theorem completeCloseOut (h : p.Keeps q) {f : Nat} {b : Booking} : p.Keeps (q.completeCloseOut f b) := by
  unfold Part.completeCloseOut; dsimp only; split
  exacts [h.setContext.freeBooking.releaseFloor.touchTable, h.setContext.updBooking.releaseFloor.touchTable]
theorem abortApply (h : p.Keeps q) {f : Nat} {b : Booking} {k : Bool} : p.Keeps (q.abortApply f b k) := by
  unfold Part.abortApply; dsimp only; split
  exacts [h.setContext.writeSeats.dropPending.updBooking.requestSeats.releaseFloor.touchTable,
    h.setContext.writeSeats.dropPending.freeBooking.requestSeats.releaseFloor.touchTable]

/-! ### Tasks -/

/-- The part of a task's outcome. -/
theorem pair (h : p.Keeps q) {ts : List Task} : p.Keeps (q, ts).1 := h
theorem takeOccStart (h : p.Keeps q) {k : Nat} : p.Keeps (q.takeOccStart k).1 := by
  unfold Part.takeOccStart; repeat' split
  exacts [h, pair h.updBooking, h]
theorem takeStart (h : p.Keeps q) {k : Nat} : p.Keeps (q.takeStart k).1 := by
  unfold Part.takeStart
  split
  · exact h
  · split
    · split
      · exact pair h.updBooking
      · exact pair h.updBooking
      · split
        exacts [h, pair h.updBooking.floorLive]
      all_goals exact h
    · exact h
theorem takeEnd (h : p.Keeps q) {k : Nat} : p.Keeps (q.takeEnd k).1 := by
  unfold Part.takeEnd
  split
  · exact h
  · split
    · split
      exacts [pair h.updBooking, pair h.updBooking, pair h.updBooking, h, h, h, h]
    · exact h
theorem startApply (h : p.Keeps q) {b : Booking} : p.Keeps (q.startApply b).1 := by
  unfold Part.startApply; split
  exacts [h, pair h.beginApply]
theorem takeTry (h : p.Keeps q) {k : Nat} : p.Keeps (q.takeTry k).1 := by
  unfold Part.takeTry; repeat' split
  exacts [h, h.startApply, h]
theorem takeCloseOut (h : p.Keeps q) {k : Nat} : p.Keeps (q.takeCloseOut k).1 := by
  unfold Part.takeCloseOut; repeat' split
  exacts [h, h, pair h.beginCloseOut]
theorem takeAdvance (h : p.Keeps q) {f : Nat} : p.Keeps (q.takeAdvance f).1 := by
  unfold Part.takeAdvance
  split
  · exact h
  · split
    · exact h
    · split
      · split
        exacts [pair h.completeApply, pair h.beginClear, pair h.completeCloseOut]
      · exact h
theorem takeChain (h : p.Keeps q) {k : Nat} : p.Keeps (q.takeChain k).1 := by
  unfold Part.takeChain; repeat' split
  exacts [h, h, h.startApply]
theorem doTask (h : p.Keeps q) {t : Task} : p.Keeps (q.doTask t).1 := by
  cases t
  exacts [h.takeOccStart, h.takeStart, h.takeEnd, h.takeTry, h.takeAdvance, h.takeCloseOut, h.takeChain]
theorem runFuel : ∀ (k : Nat) {ts : List Task} {q : Part}, p.Keeps q → p.Keeps (runFuel k ts q)
  | 0, _, _, h => h
  | _ + 1, [], _, h => h
  | k + 1, _ :: _, _, h => runFuel k h.doTask.follow
theorem runTasks (h : p.Keeps q) {ts : List Task} : p.Keeps (q.runTasks ts) := runFuel _ h
theorem evalTimes (h : p.Keeps q) : p.Keeps q.evalTimes := by
  unfold Part.evalTimes; split
  exacts [h.runTasks, h]
theorem bumpAll (h : p.Keeps q) {run : ZoneRun} {a e : Nat} : p.Keeps (q.bumpAll run a e) :=
  h.foldl (fun _ _ k => k.updBooking.touchBooking.runTasks)
theorem adHocPress (h : p.Keeps q) {n : Nat} : p.Keeps (q.adHocPress n) := by
  unfold Part.adHocPress; repeat' split
  exacts [h.flash, h.addBooking.runTasks, h.flash]
theorem workFailed (h : p.Keeps q) {c : OpContext} : p.Keeps (q.workFailed c) := by
  unfold Part.workFailed; split
  exacts [h.addFlag, h.addFlag, h]
theorem afterAttempt (h : p.Keeps q) {c : OpContext} {n : Nat} : p.Keeps (q.afterAttempt c n) := by
  unfold Part.afterAttempt; repeat' split
  exacts [h, h.requestSeat, h.workFailed, h, h]
theorem workOutcome (h : p.Keeps q) {n : Nat} {g e : Bool} : p.Keeps (q.workOutcome n g e) := by
  unfold Part.workOutcome; repeat' split
  exacts [h, h, h.setContext.afterAttempt.runTasks]
theorem workSkipped (h : p.Keeps q) {c : OpContext} {n : Nat} : p.Keeps (q.workSkipped c n) := by
  unfold Part.workSkipped; repeat' split
  exacts [h.addFlag, h, h.addFlag, h]
theorem workLost (h : p.Keeps q) {n : Nat} : p.Keeps (q.workLost n) := by
  unfold Part.workLost; repeat' split
  exacts [h, h, h.setContext.workSkipped.runTasks]

/-! ### Power -/

theorem checkAwake (h : p.Keeps q) : p.Keeps q.checkAwake := by
  unfold Part.checkAwake; split
  · exact runTasks (h.same (r := { q with
      control := { q.control with tableState := .awake, idleMark := q.now }
      left := { q.left with held := false }, right := { q.right with held := false } }) rfl rfl fun _ => id)
  · exact h
theorem wake (h : p.Keeps q) {c : WakeCause} : p.Keeps (q.wake c) := by
  have hw : ∀ e : Engine, e.wakeUp.urgent = e.urgent := fun e => by unfold Engine.wakeUp; split <;> rfl
  unfold Part.wake; split
  · exact checkAwake (h.same (r := q.toWaking c) rfl (by simp only [Part.watched, Part.toWaking, hw]) fun _ => id)
  · exact h
theorem dueTest (h : p.Keeps q) : p.Keeps q.dueTest := by
  unfold Part.dueTest; split
  exacts [h.wake, h]
theorem beginStandby (h : p.Keeps q) : p.Keeps q.beginStandby := h.control
theorem seeWakeLine (h : p.Keeps q) {seg : Segment} : p.Keeps (q.seeWakeLine seg) := by
  unfold Part.seeWakeLine; split
  exacts [h.wake, h]
theorem sendSleep (h : p.Keeps q) {seg : Segment} : p.Keeps (q.sendSleep seg) := by
  cases seg
  · exact h.updEngine (seg := .left) (g := Engine.toIdle) (fun _ => List.nodup_nil)
  · exact h.updEngine (seg := .right) (g := Engine.toIdle) (fun _ => List.nodup_nil)
  · exact h.updEngine (seg := .wall)
      (g := fun e => { e with scope := .sensors, blankFirst := none, urgent := e.urgent.filter q.isSensorAt })
      (fun hn => hn.filter _)
theorem takeSleep (h : p.Keeps q) {seg : Segment} : p.Keeps (q.takeSleep seg) := by
  unfold Part.takeSleep; split
  exacts [h.sendSleep.control.seeWakeLine, h]
theorem raiseWakeLine (h : p.Keeps q) {seg : Segment} : p.Keeps (q.raiseWakeLine seg) := by
  unfold Part.raiseWakeLine; split
  exacts [h, h.updEngine_same.seeWakeLine]

/-! ### Seats -/

theorem floorLoses (h : p.Keeps q) {f n : Nat} : p.Keeps (q.floorLoses f n) := by
  unfold Part.floorLoses; dsimp only; split
  exacts [h.endHold.updSeat.dropEntry.autoGrant, h.endHold.updSeat.dropEntry]
theorem loseSeat (h : p.Keeps q) {n : Nat} : p.Keeps (q.loseSeat n) := by
  unfold Part.loseSeat; split
  exacts [h.updSeat.workLost, h.floorLoses.leaveQueue.workLost]
theorem presenceMoved (h : p.Keeps q) {n : Nat} {o : Presence} : p.Keeps (q.presenceMoved n o) := by
  unfold Part.presenceMoved; dsimp only; repeat' split
  exacts [h.loseSeat.updSeat.setProbeDue, h.updSeat.setProbeDue, h.loseSeat.setProbeDue, h.setProbeDue,
    h.loseSeat.updSeat, h.updSeat, h.loseSeat, h]
theorem stopHold (h : p.Keeps q) {n : Nat} : p.Keeps (q.stopHold n) := by
  unfold Part.stopHold; split
  exacts [h, h.endHold]
theorem admissionLost (h : p.Keeps q) {f n : Nat} : p.Keeps (q.admissionLost f n) := by
  unfold Part.admissionLost; dsimp only; split
  exacts [h.removeUnadmitted.autoGrant, h.removeUnadmitted]
theorem reportAdmission (h : p.Keeps q) {n : Nat} {b : Bool} : p.Keeps (q.reportAdmission n b) := by
  unfold Part.reportAdmission; repeat' split
  exacts [h, h.admissionLost.follow, h]
theorem takeBadge (h : p.Keeps q) {n : Nat} {t : Tag} : p.Keeps (q.takeBadge n t) := h.updSeat.reportAdmission
theorem countOverrun (h : p.Keeps q) {n : Nat} {o : Bool} : p.Keeps (q.countOverrun n o) := by
  unfold Part.countOverrun; split
  exacts [h.updSeat.touchSeat, h]
theorem pressAt (h : p.Keeps q) {n : Nat} {b : Button} : p.Keeps (q.pressAt n b) := by
  unfold Part.pressAt; repeat' split
  exacts [h.speakPress, h.adHocPress, h.nextPress, h.flash, h.flash, h.cancelAllPress, h.flash, h.flash]
theorem dispatch (h : p.Keeps q) {n : Nat} {b : Button} : p.Keeps (q.dispatch n b) := by
  unfold Part.dispatch; split
  exacts [h.pressAt, h.flash]
theorem notePress (h : p.Keeps q) : p.Keeps q.notePress := by
  unfold Part.notePress; dsimp only; split
  exacts [h.control.wake, h.control]
theorem takeEvent (h : p.Keeps q) {n : Nat} {b : Button} {e : Option PressEvent} : p.Keeps (q.takeEvent n b e) := by
  unfold Part.takeEvent; repeat' split
  exacts [h, h, h.updSeat.countOverrun.dispatch.notePress.follow]
theorem takeEvents (h : p.Keeps q) {n : Nat} {u : Uplink} : p.Keeps (q.takeEvents n u) := h.takeEvent.takeEvent.takeEvent
theorem risingEdge (h : p.Keeps q) {n : Nat} : p.Keeps (q.risingEdge n) := by
  unfold Part.risingEdge; repeat' split
  exacts [h.flash, h.priorityPress, h.flash]
theorem takeLevel (h : p.Keeps q) {n : Nat} {l : Bool} : p.Keeps (q.takeLevel n l) := by
  unfold Part.takeLevel; dsimp only; split
  exacts [h.updSeat.risingEdge.follow, h.updSeat.stopHold.follow, h, h]
theorem pollMoves (h : p.Keeps q) {n : Nat} {g e : Bool} : p.Keeps (q.pollMoves n g e) := by
  unfold Part.pollMoves; dsimp only; split
  exacts [h.updSeat.workOutcome.updSeat.presenceMoved, h.updSeat.workOutcome.updSeat.presenceMoved.stopHold]
theorem pollTakes (h : p.Keeps q) {n : Nat} {i : Image} {u : Uplink} : p.Keeps (q.pollTakes n i u) :=
  h.updSeat.follow.takeBadge.takeEvents.takeLevel
theorem loseByWalk (h : p.Keeps q) {n : Nat} {x : Presence} : p.Keeps (q.loseByWalk n x) := by
  unfold Part.loseByWalk; split
  exacts [h.updSeat.loseSeat.follow, h]
theorem walkSeat (h : p.Keeps q) {n : Nat} {u : Option UnitReport} : p.Keeps (q.walkSeat n u) := by
  unfold Part.walkSeat; repeat' split
  exacts [h, h.loseByWalk.updSeat, h, h.loseByWalk.updSeat]

/-! ### Booking requests -/

theorem newTimes (h : p.Keeps q) {k : Nat} : p.Keeps (q.newTimes k) := by
  unfold Part.newTimes; repeat' split
  exacts [h, h.updBooking.runTasks, h]
theorem create (h : p.Keeps q) {b : Booking} : p.Keeps (q.create b) := h.addBooking.bumpAll.newTimes.dueTest
theorem copyParams (h : p.Keeps q) {f : Nat} {o n : FloorParams} {b : Bool} : p.Keeps (q.copyParams f o n b) := by
  unfold Part.copyParams; dsimp only; repeat' split
  exacts [h.updFloor.timerChange.enforceLimit.expireQueue.trimQueue.touchFloor,
    h.updFloor.timerChange.enforceLimit.trimQueue.touchFloor, h.updFloor.timerChange.enforceLimit.expireQueue.touchFloor,
    h.updFloor.timerChange.enforceLimit.touchFloor]
theorem changeAtFloor (h : p.Keeps q) {f : Nat} {o n : FloorParams} {r : ChangeRequest} :
    p.Keeps (q.changeAtFloor f o n r) := by
  have hc : p.Keeps (if r.params.isSome then q.copyParams f o n r.now else q) := by
    split
    exacts [h.copyParams, h]
  unfold Part.changeAtFloor; dsimp only
  generalize (if r.params.isSome then q.copyParams f o n r.now else q) = copied at hc ⊢
  have ha : p.Keeps (if r.admission.isSome then copied.enforceAdmission f else copied) := by
    split
    exacts [hc.enforceAdmission, hc]
  generalize (if r.admission.isSome then copied.enforceAdmission f else copied) = admitted at ha ⊢
  split
  exacts [ha.autoGrant, ha]
theorem change (h : p.Keeps q) {b : Booking} {r : ChangeRequest} : p.Keeps (q.change b r) := by
  unfold Part.change; dsimp only
  cases b.floor with
  | none =>
    dsimp only; split
    exacts [h.updBooking.bumpAll.runTasks.dueTest.touchBooking, h.updBooking.runTasks.dueTest.touchBooking]
  | some f =>
    dsimp only; split
    exacts [h.updBooking.changeAtFloor.bumpAll.runTasks.dueTest.touchBooking,
      h.updBooking.changeAtFloor.runTasks.dueTest.touchBooking]
/-- The part of a reply. -/
theorem done (h : p.Keeps q) : p.Keeps q.done.part := h
theorem accepted (h : p.Keeps q) : p.Keeps q.accepted.part := h
theorem retireIdle (h : p.Keeps q) {b : Booking} {k : Bool} : p.Keeps (q.retireIdle b k).part := by
  unfold Part.retireIdle; split
  exacts [done h.updBooking, done h.freeBooking]
theorem retireRunning (h : p.Keeps q) {b : Booking} {k : Bool} : p.Keeps (q.retireRunning b k).part :=
  accepted h.updBooking.runTasks
theorem retirePreparing (h : p.Keeps q) {b : Booking} {k : Bool} : p.Keeps (q.retirePreparing b k).part := by
  unfold Part.retirePreparing; split
  exacts [h, done h.abortApply.runTasks]
theorem retire (h : p.Keeps q) {b : Booking} {k : Bool} : p.Keeps (q.retire b k).part := by
  unfold Part.retire; repeat' split
  exacts [h.retireIdle, h.retireIdle, h.retirePreparing, h.retireRunning, h.retireRunning,
    done h, accepted h.updBooking, done h, done h.freeBooking]
theorem tellRole (h : p.Keeps q) {old : Part} {f n : Nat} : p.Keeps (old.tellRole q f n) := by
  unfold Part.tellRole; split
  exacts [h, h.roleChanged.follow]
theorem seatsTakeRoster (h : p.Keeps q) {b : Booking} {l : List Nat} : p.Keeps (q.seatsTakeRoster b l) :=
  follow (requestSeats (h.seats (by simp)))
theorem rosterToSeats (h : p.Keeps q) {old : Part} {f : Nat} {b : Booking} {l : List Nat} :
    p.Keeps (q.rosterToSeats old f b l) :=
  foldl (fun _ _ k => k.reportAdmission) (h.seatsTakeRoster.foldl (fun _ _ k => k.tellRole))
theorem setRoster (h : p.Keeps q) {b : Booking} {r : List RosterEntry} {l : List Nat} : p.Keeps (q.setRoster b r l) := by
  unfold Part.setRoster; dsimp only; repeat' split
  exacts [h.updBooking, h.updBooking.rosterToSeats, h.updBooking]

/-! ### The units of WALL, walks and probes -/

theorem wallMoved (h : p.Keeps q) {pos : Nat} {o : Presence} : p.Keeps (q.wallMoved pos o) := by
  unfold Part.wallMoved; split
  exacts [h.setProbeDue, h]
theorem showEnded (h : p.Keeps q) {pos d : Nat} {g : Bool} {c : Effective} {v : Nat} : p.Keeps (q.showEnded pos d g c v) := by
  unfold Part.showEnded; dsimp only; split
  exacts [h.updDisplay.wallMoved, h]
theorem partitionSettled (h : p.Keeps q) {k : Nat} : p.Keeps (q.partitionSettled k) := by
  have hn : p.Keeps (q.evalSuspension.noteInside k) := by
    unfold Part.noteInside; split
    exacts [h.evalSuspension.raise, h.evalSuspension]
  exact hn.wake
theorem partitionSensed (h : p.Keeps q) {pos k : Nat} {r : Option WallState} : p.Keeps (q.partitionSensed pos k r) := by
  unfold Part.partitionSensed; dsimp only; repeat' split
  exacts [h.updPartition.wallMoved, h.updPartition.wallMoved.partitionSettled, h]
theorem evalBand (h : p.Keeps q) : p.Keeps q.evalBand := by
  unfold Part.evalBand; split
  exacts [h, h.ambient]
theorem ambientSensed (h : p.Keeps q) {pos : Nat} {r : Option Nat} : p.Keeps (q.ambientSensed pos r) := by
  unfold Part.ambientSensed; dsimp only; repeat' split
  exacts [h.ambient.wallMoved, h.ambient.ambient.evalBand.wallMoved, h]
theorem probeRole (h : p.Keeps q) {r : WallRole} {pos : Nat} {s : Serial} : p.Keeps (q.probeRole r pos s) := by
  cases r
  exacts [h.updDisplay, h.ambient, h.updPartition]
theorem probeRoleFailed (h : p.Keeps q) {r : WallRole} : p.Keeps (q.probeRoleFailed r) := by
  cases r
  exacts [h.updDisplay, h.ambient, h.updPartition]
theorem takeWalkBegin (h : p.Keeps q) {seg : Segment} : p.Keeps (q.takeWalkBegin seg) := by
  unfold Part.takeWalkBegin; split
  exacts [h.updEngine (fun _ => List.nodup_nil), h]
theorem offer (h : p.Keeps q) {seg : Segment} {w : WalkContext} : p.Keeps (q.offer seg w) := h.updEngine_same.send
theorem takeBreakEnd (h : p.Keeps q) {seg : Segment} : p.Keeps (q.takeBreakEnd seg) := by
  unfold Part.takeBreakEnd; split
  exacts [h.offer, h]
theorem reportWalk (h : p.Keeps q) {seg : Segment} {w : WalkContext} : p.Keeps (q.reportWalk seg w) := by
  cases seg
  · exact h.foldl (fun _ _ k => k.walkSeat)
  · exact h.foldl (fun _ _ k => k.walkSeat)
  · exact h.same (by simp [Part.reportWalk, Part.reportWall, Part.shape]) rfl (fun _ => id)
theorem endWalk (h : p.Keeps q) {seg : Segment} {w : WalkContext} : p.Keeps (q.endWalk seg w) :=
  checkAwake (foldl (fun _ _ k => k.setProbeDue) (reportWalk h.updEngine_same))
theorem park (h : p.Keeps q) {seg : Segment} {w : WalkContext} : p.Keeps (q.park seg w) := h.updEngine_same.send
theorem parkEntry (h : p.Keeps q) {seg : Segment} {w : WalkContext} : p.Keeps (q.parkEntry seg w) := h.updEngine_same.send
theorem offerNext (h : p.Keeps q) {seg : Segment} {w : WalkContext} : p.Keeps (q.offerNext seg w) := by
  unfold Part.offerNext; split
  exacts [h.offer, h.parkEntry]
theorem assignGood (h : p.Keeps q) {seg : Segment} {w : WalkContext} {u : UnitReport} : p.Keeps (q.assignGood seg w u) := by
  unfold Part.assignGood; split
  exacts [h.offerNext, h.park]
theorem assignEnd (h : p.Keeps q) {seg : Segment} {w : WalkContext} {o : LinkOutcome} {u : UnitReport} :
    p.Keeps (q.assignEnd seg w o u) := by
  unfold Part.assignEnd; repeat' split
  exacts [h.assignGood, h.endWalk, h.endWalk, h.offer, h.endWalk, h.offer]
theorem parkEnd (h : p.Keeps q) {seg : Segment} {w : WalkContext} {o : LinkOutcome} : p.Keeps (q.parkEnd seg w o) := by
  unfold Part.parkEnd; repeat' split
  exacts [h.updEngine_same.offer, h.endWalk, h.park]
theorem parkEntryEnd (h : p.Keeps q) {seg : Segment} {w : WalkContext} {o : LinkOutcome} :
    p.Keeps (q.parkEntryEnd seg w o) := by
  unfold Part.parkEntryEnd; split
  exacts [h.updEngine_same.endWalk, h.endWalk]
theorem parkProbed (h : p.Keeps q) {seg : Segment} {pos : Nat} : p.Keeps (q.parkProbed seg pos) := by
  unfold Part.parkProbed; split
  exacts [h, h.send]
theorem probeSeat (h : p.Keeps q) {seg : Segment} {pos : Nat} {u : UnitReport} : p.Keeps (q.probeSeat seg pos u) := by
  unfold Part.probeSeat; split
  exacts [h.updSeat, h.parkProbed]
theorem probeWall (h : p.Keeps q) {pos : Nat} {u : UnitReport} : p.Keeps (q.probeWall pos u) := by
  unfold Part.probeWall; repeat' split
  exacts [h.probeRole, h.parkProbed, h.updEngine_same.probeRole, h.parkProbed]
theorem probeGood (h : p.Keeps q) {seg : Segment} {pos : Nat} {u : UnitReport} : p.Keeps (q.probeGood seg pos u) := by
  cases seg
  exacts [h.probeSeat, h.probeSeat, h.probeWall]
theorem probeFailed (h : p.Keeps q) {seg : Segment} {pos : Nat} : p.Keeps (q.probeFailed seg pos) := by
  cases seg
  · exact h.updSeat
  · exact h.updSeat
  · unfold Part.probeFailed; dsimp only; split
    exacts [h, h.probeRoleFailed]
theorem showReport (h : p.Keeps q) {pos : Nat} {c : Effective} {v : Nat} {o : LinkOutcome} :
    p.Keeps (q.showReport pos c v o) := by
  unfold Part.showReport; split
  exacts [h.showEnded, h]
theorem senseReport (h : p.Keeps q) {pos : Nat} {r : Option Reading} : p.Keeps (q.senseReport pos r) := by
  unfold Part.senseReport; split
  exacts [h.partitionSensed, h.ambientSensed, h]
theorem assignReport (h : p.Keeps q) {seg : Segment} {o : LinkOutcome} {u : UnitReport} :
    p.Keeps (q.assignReport seg o u) := by
  unfold Part.assignReport; split
  exacts [h.assignEnd, h]
theorem parkReport (h : p.Keeps q) {seg : Segment} {o : LinkOutcome} : p.Keeps (q.parkReport seg o) := by
  unfold Part.parkReport; repeat' split
  exacts [h.parkEntryEnd, h.parkEnd, h.updEngine_same, h]

/-! ### Time -/

theorem countSeconds (h : p.Keeps q) {n : Nat} : p.Keeps (q.countSeconds n) := by
  refine h.trans ⟨rfl, rfl, by simp [Part.shape, Part.countSeconds], id, id, id, fun ho x hx => ?_, fun hl => ?_, fun _ => id⟩
  · obtain ⟨y, hy, rfl⟩ := List.mem_map.1 hx
    exact List.pairwise_map.2 (ho y hy)
  · simpa [Part.queueStanding, Part.countSeconds, Function.comp_def] using hl
theorem passTime (h : p.Keeps q) {t : Nat} : p.Keeps (q.passTime t) := by
  unfold Part.passTime; dsimp only; split
  · exact h
  · exact h.countSeconds.same (by simp [Part.shape]) rfl (fun _ => id)
theorem reachProbe (h : p.Keeps q) {seg : Segment} : p.Keeps (q.reachProbe seg) := by
  unfold Part.reachProbe; repeat' split
  exacts [h, h.passTime, h]
theorem reachGuard (h : p.Keeps q) {n : Nat} : p.Keeps (q.reachGuard n) := by
  unfold Part.reachGuard; split
  exacts [h, h.passTime.updSeat]
theorem changePhase (h : p.Keeps q) {n : Nat} : p.Keeps (q.changePhase n) := by
  unfold Part.changePhase; split
  exacts [h.passTime, h]

/-- A clock written in its range. -/
theorem clockSet (h : p.Keeps q) {c : Clock} (hc : q.clock.inRange → c.inRange) : p.Keeps { q with clock := c } :=
  h.trans ⟨rfl, rfl, rfl, hc, id, id, id, id, fun _ => id⟩

/-- The clock one second on stands in its range, where it can go on at all (R23). -/
theorem advance_inRange (c : Clock) (hr : c.runs = true) (h : c.inRange) : c.advance.inRange := by
  obtain ⟨hm, hs⟩ := h
  simp only [Clock.runs, Bool.and_eq_true, Bool.not_eq_true', Bool.and_eq_false_iff, decide_eq_false_iff_not] at hr
  unfold Clock.advance
  split
  · next hlt => exact ⟨hm, hlt⟩
  · next hge =>
    have h59 : c.second = 59 := by omega
    refine ⟨?_, Nat.zero_le _⟩
    rcases hr.2 with h | h
    · simp only at hm ⊢; omega
    · exact absurd h59 h
theorem minuteBoundary (h : p.Keeps q) (hr : q.clock.runs = true) : p.Keeps q.minuteBoundary :=
  ((h.clockSet (advance_inRange _ hr)).evalTimes).dueTest
theorem clockSecond (h : p.Keeps q) : p.Keeps q.clockSecond := by
  unfold Part.clockSecond; split
  · next hr =>
    split
    exacts [h.clockSet (advance_inRange _ hr), h.minuteBoundary hr]
  · exact h
theorem clockMinute (h : p.Keeps q) : p.Keeps q.clockMinute := by
  unfold Part.clockMinute; split
  · next hr => exact h.minuteBoundary (Bool.and_eq_true_iff.1 hr).1
  · exact h

/-! ### The owners of the requests -/

theorem clockOwner (h : p.Keeps q) {r : Nat × Nat} : p.Keeps (clockOwner r q).part := by
  unfold Machine.clockOwner; split
  · next hc => exact done (h.clockSet (fun _ => by simpa [clockOk, Clock.inRange] using hc)).evalTimes.dueTest
  · exact h
theorem createOwner (h : p.Keeps q) {r : CreateRequest} : p.Keeps (createOwner r q).part := by
  unfold Machine.createOwner; split
  · exact h
  · exact done h.create
theorem changeOwner (h : p.Keeps q) {r : ChangeRequest} : p.Keeps (changeOwner r q).part := by
  unfold Machine.changeOwner; repeat' split
  exacts [h, h, done h.change]
theorem retireOwner (h : p.Keeps q) {r : Nat × Bool} : p.Keeps (retireOwner r q).part := by
  unfold Machine.retireOwner; split
  exacts [h, h.retire]
theorem putOwner (h : p.Keeps q) {r : Nat × List RosterEntry} : p.Keeps (putOwner r q).part := by
  unfold Machine.putOwner; repeat' split
  exacts [h, h, done h.setRoster.touchBooking]
theorem dropOwner (h : p.Keeps q) {r : Nat × List Nat} : p.Keeps (dropOwner r q).part := by
  unfold Machine.dropOwner; repeat' split
  exacts [h, h, done h.setRoster]
theorem grantAt (h : p.Keeps q) {f n : Nat} {b : Bool} : p.Keeps (q.grantAt f n b).part := by
  unfold Part.grantAt; repeat' split
  exacts [h, done h.openSeat, done h.openSeat, h, done h.forceClose.openSeat, h]
theorem grantOwner (h : p.Keeps q) {r : Nat × Bool} : p.Keeps (grantOwner r q).part := by
  unfold Machine.grantOwner; repeat' split
  exacts [h, h, h, h, h.grantAt]
theorem closeOwner (h : p.Keeps q) {n : Nat} : p.Keeps (closeOwner n q).part := by
  unfold Machine.closeOwner; repeat' split
  exacts [h, h, done h.closeThenGrant, h]
theorem enqueueAt (h : p.Keeps q) {f n : Nat} {c : QueueClass} : p.Keeps (q.enqueueAt f n c).part := by
  unfold Part.enqueueAt; repeat' split
  · exact h
  · exact h
  · exact h
  · next r hr => exact done (h.enqueueSeat hr)
theorem enqueueOwner (h : p.Keeps q) {r : Nat × Option QueueClass} : p.Keeps (enqueueOwner r q).part := by
  unfold Machine.enqueueOwner; repeat' split
  exacts [h, h, h, h, h.enqueueAt]
theorem withdrawOwner (h : p.Keeps q) {n : Nat} : p.Keeps (withdrawOwner n q).part := by
  unfold Machine.withdrawOwner; repeat' split
  exacts [h, h, done h.leaveQueue, h]
theorem moveOwner (h : p.Keeps q) {r : Nat × Nat} : p.Keeps (moveOwner r q).part := by
  unfold Machine.moveOwner; repeat' split
  exacts [h, h, done h.moveQueued, h]
theorem cancelOwner (h : p.Keeps q) {f : Nat} : p.Keeps (cancelOwner f q).part := by
  unfold Machine.cancelOwner; repeat' split
  exacts [h, done h.cancelAll, h]
theorem displayOwner (h : p.Keeps q) {r : DisplayRequest} : p.Keeps (displayOwner r q).part := by
  unfold Machine.displayOwner; split
  exacts [done h.updDisplay, h]
theorem walkOwner (h : p.Keeps q) {seg : Segment} : p.Keeps (walkOwner seg q).part := by
  unfold Machine.walkOwner; repeat' split
  exacts [h, h, h, accepted h.updEngine_same]
theorem wakeOwner (h : p.Keeps q) : p.Keeps (wakeOwner () q).part := by
  unfold Machine.wakeOwner; split
  exacts [accepted h.wake, h]

/-- Valid settings with a valid group written are valid (R192, R193). -/
theorem write_ok (s : Settings) (i : SettingsItem) (hs : s.ok = true) (hi : i.ok = true) : (i.write s).ok = true := by
  cases i <;> simp_all [Settings.ok, SettingsItem.ok, SettingsItem.write]
theorem with_ok (items : List SettingsItem) (hi : ∀ i ∈ items, i.ok = true) :
    ∀ s : Settings, s.ok = true → (s.with items).ok = true := by
  induction items with
  | nil => exact fun _ hs => hs
  | cons i l ih =>
    exact fun s hs => ih (fun j hj => hi j (List.mem_cons_of_mem _ hj)) _ (write_ok s i hs (hi i (List.mem_cons_self ..)))

/-- The live settings and the store written so that they stay valid. -/
theorem settingsSet (h : p.Keeps q) {s : Settings} {t : Store}
    (hs : q.settingsValid → ({ q with settings := s, store := t } : Part).settingsValid) :
    p.Keeps { q with settings := s, store := t } := h.trans ⟨rfl, rfl, rfl, id, hs, id, id, id, fun _ => id⟩
theorem changeSettings (h : p.Keeps q) {s : Settings} (hs : q.settings.ok = true → s.ok = true) :
    p.Keeps (q.changeSettings s) := by
  have hw : p.Keeps { q with
      settings := s, store := { q.store with liveDiffers := q.store.liveDiffers || decide (s ≠ q.settings) } } :=
    h.settingsSet (fun hv => ⟨hs hv.1, hv.2⟩)
  unfold Part.changeSettings; dsimp only
  generalize ({ q with
    settings := s, store := { q.store with liveDiffers := q.store.liveDiffers || decide (s ≠ q.settings) } } : Part) =
    written at hw ⊢
  repeat' split
  exacts [hw.evalBand.wake.dueTest, hw.wake.dueTest, hw.evalBand.dueTest, hw.dueTest, hw.evalBand.wake, hw.wake,
    hw.evalBand, hw]
theorem settingsOwner (h : p.Keeps q) {items : List SettingsItem} : p.Keeps (settingsOwner items q).part := by
  unfold Machine.settingsOwner; split
  · exact h
  · next hn =>
    refine done (h.changeSettings (with_ok items ?_ _))
    unfold Part.settingsRefusal at hn
    split at hn
    · cases hn
    · split at hn
      · cases hn
      · next hok =>
        simp only [Bool.not_eq_false, Bool.and_eq_true, List.all_eq_true] at hok
        exact hok.2
theorem storeOwner (h : p.Keeps q) : p.Keeps (storeOwner () q).part := by
  unfold Machine.storeOwner; split
  · exact h
  · exact accepted (h.settingsSet (s := q.settings) (fun hv => ⟨hv.1, fun c hc => by cases hc; exact hv.1, hv.2.2⟩))
theorem storeComplete (h : p.Keeps q) {m : Bool} : p.Keeps { q with store := q.store.complete m } := by
  refine h.settingsSet (s := q.settings) (fun hv => ⟨hv.1, ?_⟩)
  unfold Store.complete
  split
  · exact hv.2
  · next c hc =>
    split
    · exact ⟨by simp, fun d hd => by cases hd; exact hv.2.1 c hc⟩
    · exact ⟨by simp, by simp⟩

/-! ### Requests and events -/

theorem event (h : p.Keeps q) {g : Part → Part} (hg : p.Keeps (g q)) : p.Keeps (q.event g) := by
  unfold Part.event; split
  exacts [hg.settle, h]
theorem request (h : p.Keeps q) {α : Type} {c : Byte} {o : Option α} {owner : α → Part → Reply}
    (ho : ∀ a, p.Keeps (owner a q).part) : p.Keeps (q.request c o owner) := by
  unfold Part.request
  split
  · split
    · exact h.setAnswer
    · next a =>
      unfold Part.finish
      split
      exacts [(ho a).settle.setAnswer, h.setAnswer]
  · exact h

end Part.Keeps

end Sys2Proof.Machine
end

section
/-! What one step can do to the part, said once as a relation, and the invariants of every step (O54 to O58). -/

namespace Sys2Proof.Machine

/-- What a command makes of a part, form by form: the port alone moves; a block's step is settled, with an answer or without;
a GOOD POLL's moves are settled as one event; and, where `restarts` allows it, the part starts, is cleared, or stops. -/
inductive Part.Becomes (p : Part) (restarts : Prop) : Part → Prop
  | port (m : Marks) (n : Notices) (a : Answer)
      (hs : ({ p with marks := m, notices := n, answer := a } : Part).shape = p.shape) :
      p.Becomes restarts { p with marks := m, notices := n, answer := a }
  | settles {q : Part} (hr : p.power = .running) (hq : p.Keeps q) : p.Becomes restarts (p.settle q)
  | answers {q : Part} (c : Byte) (st : Status) (b : List Byte) (hr : p.power = .running) (hq : p.Keeps q) :
      p.Becomes restarts ((p.settle q).setAnswer c st b)
  | polls {m q : Part} (hr : p.power = .running) (hq : p.Keeps q) : p.Becomes restarts (p.noteChanges (m.settle q))
  | starts (cause : StartCause) (image : Option Settings) (now : Nat) (h : restarts)
      (hi : image = none ∨ image = p.store.image) : p.Becomes restarts (Part.started cause image now)
  | clears (c : Byte) (h : restarts) (hr : p.power = .running) : p.Becomes restarts (p.tableReset.setAnswer c .done [])
  | stops (pw : Power) (now : Nat) (t : Store) (h : restarts) (ht : t = p.store ∨ t = p.store.cutShort) :
      p.Becomes restarts { p with power := pw, now := now, store := t }

namespace Part.Becomes

variable {p : Part} {r : Prop}

theorem refl (p : Part) : p.Becomes r p := .port p.marks p.notices p.answer rfl
theorem setAnswer (p : Part) (c : Byte) (st : Status) (b : List Byte) : p.Becomes r (p.setAnswer c st b) :=
  .port p.marks p.notices _ rfl

/-! ### Requests and events -/

/-- An event of the part: its step is settled, or the part does not run. -/
theorem event {g : Part → Part} (hg : p.Keeps (g p)) : p.Becomes r (p.event g) := by
  unfold Part.event; split
  · next hr => exact .settles hr hg
  · exact .refl p

/-- A request to a block: lost, refused, or its step settled with the answer (R178, R180). -/
theorem request {α : Type} {c : Byte} {o : Option α} {owner : α → Part → Reply} (ho : ∀ a, p.Keeps (owner a p).part) :
    p.Becomes r (p.request c o owner) := by
  unfold Part.request; split
  · next hr =>
    split
    · exact .setAnswer ..
    · next a =>
      unfold Part.finish; split
      · exact .answers _ _ _ hr (ho a)
      · exact .setAnswer ..
  · exact .refl p

/-- A request of the port's own, whose owner moves marks and notices at most. -/
theorem portRequest {α : Type} {c : Byte} {o : Option α} {owner : α → Part → Reply}
    (ho : ∀ a, ∃ m n, (owner a p).part = { p with marks := m, notices := n } ∧
      ({ p with marks := m, notices := n } : Part).shape = p.shape) :
    p.Becomes r (p.portRequest c o owner) := by
  unfold Part.portRequest; split
  · split
    · exact .setAnswer ..
    · next a =>
      obtain ⟨m, n, hp, hs⟩ := ho a
      rw [hp]
      exact .port m n _ hs
  · exact .refl p

theorem clearMark_shape (p : Part) (k : RecordKind) (i : Nat) : (p.clearMark k i).shape = p.shape := by
  cases k <;> simp [Part.shape, Part.clearMark, Marks.set]

theorem identify {c : Byte} {o : Option Unit} : p.Becomes r (p.portRequest c o identifyOwner) :=
  portRequest (fun _ => ⟨p.marks, p.notices, rfl, rfl⟩)
theorem read {c : Byte} {o : Option ReadRequest} : p.Becomes r (p.portRequest c o readOwner) := by
  refine portRequest (fun a => ?_)
  have same : ∃ m n, p = { p with marks := m, notices := n } ∧
      ({ p with marks := m, notices := n } : Part).shape = p.shape := ⟨p.marks, p.notices, rfl, rfl⟩
  have clear : ∀ k i, ∃ m n, p.clearMark k i = { p with marks := m, notices := n } ∧
      ({ p with marks := m, notices := n } : Part).shape = p.shape := fun k i =>
    ⟨p.marks.set k i false, p.notices, rfl, clearMark_shape p k i⟩
  unfold readOwner; split
  · unfold Part.readBooking; split
    · exact same
    · split
      · split
        exacts [clear _ _, same]
      · exact same
  · split
    exacts [clear _ _, same]
theorem find {c : Byte} {o : Option (RecordKind × Nat)} : p.Becomes r (p.portRequest c o findOwner) := by
  refine portRequest (fun a => ⟨p.marks, p.notices, ?_, rfl⟩)
  unfold findOwner; repeat' split
  all_goals rfl
theorem clearNotices {c : Byte} {o : Option NoticeSet} : p.Becomes r (p.portRequest c o clearOwner) :=
  portRequest (fun _ => ⟨p.marks, _, rfl, rfl⟩)
theorem setEnables {c : Byte} {o : Option (NoticeSet × NoticeSet)} : p.Becomes r (p.portRequest c o enablesOwner) :=
  portRequest (fun _ => ⟨p.marks, _, rfl, rfl⟩)

theorem resetRequest {body : List Byte} (h : r) : p.Becomes r (p.resetRequest body) := by
  unfold Part.resetRequest; split
  · next hr =>
    split
    · exact .setAnswer ..
    · next scope _ =>
      cases scope
      · exact .clears _ h hr
      · unfold Part.resetBy Part.resetAll; dsimp only; split
        exacts [.setAnswer .., .starts _ _ _ h (.inr rfl)]
  · exact .refl p

theorem writeIgnored : p.Becomes r p.writeIgnored := by
  unfold Part.writeIgnored; split
  exacts [.refl p, .refl p, .port p.marks _ _ rfl, .port p.marks _ _ rfl]

/-- A request by its code; only the RESET code restarts (R197). -/
theorem byCode {code : Byte} {body : List Byte} (h : code = 0x08 → r) : p.Becomes r (p.byCode code body) := by
  have k := Part.Keeps.refl p
  unfold Part.byCode
  split
  · exact identify
  · exact read
  · exact find
  · exact clearNotices
  · exact setEnables
  · next h8 => exact resetRequest (h (BitVec.eq_of_toNat_eq h8))
  · exact request fun _ => k.clockOwner
  · exact request fun _ => k.createOwner
  · exact request fun _ => k.changeOwner
  · exact request fun _ => k.retireOwner
  · exact request fun _ => k.putOwner
  · exact request fun _ => k.dropOwner
  · exact request fun _ => k.grantOwner
  · exact request fun _ => k.closeOwner
  · exact request fun _ => k.enqueueOwner
  · exact request fun _ => k.withdrawOwner
  · exact request fun _ => k.moveOwner
  · exact request fun _ => k.cancelOwner
  · exact request fun _ => k.displayOwner
  · exact request fun _ => k.settingsOwner
  · exact request fun _ => k.storeOwner
  · exact request fun _ => k.walkOwner
  · exact request fun _ => k.wakeOwner
  · unfold Part.unknownCode; split
    exacts [.setAnswer .., .refl p]

/-! ### The ends of exchanges -/

theorem running_of_lineOf {seg : Segment} {l : OnLine} (h : p.lineOf seg = some l) : p.power = .running := by
  unfold Part.lineOf at h
  split at h
  · assumption
  · cases h

theorem exchangeEnds {seg : Segment} {l : OnLine} {o : LinkOutcome} {report : Part → Part} (hr : p.power = .running)
    (hk : ∀ q, p.Keeps q → p.Keeps (report q)) : p.Becomes r (p.exchangeEnds seg l o report) := by
  have h := (Part.Keeps.refl p).lineEnds (seg := seg) (o := o)
  unfold Part.exchangeEnds; split
  exacts [.settles hr h, .settles hr (hk _ h)]

theorem pollReport {seg : Segment} {pos : Nat} {img : Image} {orphan : Bool} {o : LinkOutcome} {up : Uplink}
    (hr : p.power = .running) : p.Becomes r (p.pollReport seg pos img orphan o up) := by
  have h := (Part.Keeps.refl p).lineEnds (seg := seg) (o := o)
  unfold Part.pollReport; split
  · exact .settles hr h
  · unfold Part.pollEnd; split
    · split
      · exact .polls hr h.pollMoves.follow.pollTakes
      · exact .settles hr h.pollMoves
    · exact .settles hr h

theorem pollAnswered {seg : Segment} {rx : Reception} {up : Uplink} : p.Becomes r (p.pollAnswered seg rx up) := by
  unfold Part.pollAnswered; split
  · next hl => exact pollReport (running_of_lineOf hl)
  · exact .refl p
theorem showAnswered {rx : Reception} {pos : Nat} : p.Becomes r (p.showAnswered rx pos) := by
  unfold Part.showAnswered; split
  · next hl => exact exchangeEnds (running_of_lineOf hl) (fun _ h => h.showReport)
  · exact .refl p
theorem senseAnswered {rx : Reception} {pos : Nat} {x : Reading} : p.Becomes r (p.senseAnswered rx pos x) := by
  unfold Part.senseAnswered; split
  · next hl => exact exchangeEnds (running_of_lineOf hl) (fun _ h => h.senseReport)
  · exact .refl p
theorem probeAnswered {seg : Segment} {rx : Reception} {u : UnitReport} : p.Becomes r (p.probeAnswered seg rx u) := by
  unfold Part.probeAnswered; split
  · next hl =>
    refine exchangeEnds (running_of_lineOf hl) (fun _ h => ?_)
    split
    exacts [h.probeGood, h.probeFailed]
  · exact .refl p
theorem assignAnswered {seg : Segment} {rx : Reception} {u : UnitReport} : p.Becomes r (p.assignAnswered seg rx u) := by
  unfold Part.assignAnswered; split
  · next hl => exact exchangeEnds (running_of_lineOf hl) (fun _ h => h.assignReport)
  · exact .refl p
theorem parkAnswered {seg : Segment} {rx : Reception} {u : UnitReport} : p.Becomes r (p.parkAnswered seg rx u) := by
  unfold Part.parkAnswered; split
  · next hl => exact exchangeEnds (running_of_lineOf hl) (fun _ h => h.parkReport)
  · exact .refl p
theorem timedOut {seg : Segment} : p.Becomes r (p.timedOut seg) := by
  unfold Part.timedOut; split
  · exact .refl p
  · next hl =>
    have hr := running_of_lineOf hl
    split
    · exact pollReport hr
    · exact exchangeEnds hr (fun _ h => h.showReport)
    · exact exchangeEnds hr (fun _ h => h.senseReport)
    · exact exchangeEnds hr (fun _ h => h.probeFailed)
    · exact exchangeEnds hr (fun _ h => h.assignReport)
    · exact exchangeEnds hr (fun _ h => h.parkReport)

/-! ### The pin and the supply -/

theorem pinFalls (h : r) : p.Becomes r p.pinFalls := by
  unfold Part.pinFalls; split
  exacts [.stops _ p.now _ h (.inr rfl), .stops _ p.now p.store h (.inl rfl), .refl p, .refl p]
theorem pinRises (h : r) : p.Becomes r p.pinRises := by
  unfold Part.pinRises; split
  exacts [.starts _ _ _ h (.inr rfl), .stops _ p.now p.store h (.inl rfl), .refl p, .refl p]
theorem losePower (h : r) : p.Becomes r p.losePower := .stops _ p.now _ h (.inr rfl)
theorem powerUp (h : r) : p.Becomes r p.powerUp := by
  unfold Part.powerUp; split
  · exact .stops _ _ _ h (.inr rfl)
  · refine .starts _ _ _ h ?_
    unfold Store.cutShort; split
    exacts [.inl rfl, .inr rfl]

/-! ### Every command -/

/-- What a command makes of the part; the queue of commands stays as it was. -/
theorem exec (c : Instr) (s : State) :
    ∃ t : Part, exec c s = .next { s with part := t } ∧ s.part.Becomes (c.restarts = true) t := by
  have k := Part.Keeps.refl s.part
  cases c with
  | identify body => exact ⟨_, rfl, identify⟩
  | read body => exact ⟨_, rfl, read⟩
  | findChanged body => exact ⟨_, rfl, find⟩
  | clearNotices body => exact ⟨_, rfl, clearNotices⟩
  | setNoticeEnables body => exact ⟨_, rfl, setEnables⟩
  | resetTable body => exact ⟨_, rfl, resetRequest rfl⟩
  | resetAll body => exact ⟨_, rfl, resetRequest rfl⟩
  | setClock body => exact ⟨_, rfl, request fun _ => k.clockOwner⟩
  | createBooking body => exact ⟨_, rfl, request fun _ => k.createOwner⟩
  | changeBooking body => exact ⟨_, rfl, request fun _ => k.changeOwner⟩
  | retireBooking body => exact ⟨_, rfl, request fun _ => k.retireOwner⟩
  | rosterPut body => exact ⟨_, rfl, request fun _ => k.putOwner⟩
  | rosterDrop body => exact ⟨_, rfl, request fun _ => k.dropOwner⟩
  | grant body => exact ⟨_, rfl, request fun _ => k.grantOwner⟩
  | closeMic body => exact ⟨_, rfl, request fun _ => k.closeOwner⟩
  | enqueue body => exact ⟨_, rfl, request fun _ => k.enqueueOwner⟩
  | withdraw body => exact ⟨_, rfl, request fun _ => k.withdrawOwner⟩
  | moveEntry body => exact ⟨_, rfl, request fun _ => k.moveOwner⟩
  | cancelFloor body => exact ⟨_, rfl, request fun _ => k.cancelOwner⟩
  | changeDisplay body => exact ⟨_, rfl, request fun _ => k.displayOwner⟩
  | changeSettings body => exact ⟨_, rfl, request fun _ => k.settingsOwner⟩
  | storeSettings body => exact ⟨_, rfl, request fun _ => k.storeOwner⟩
  | storeComplete m => exact ⟨_, rfl, event k.storeComplete⟩
  | walk body => exact ⟨_, rfl, request fun _ => k.walkOwner⟩
  | wake body => exact ⟨_, rfl, request fun _ => k.wakeOwner⟩
  | badFrame received =>
    refine ⟨_, rfl, ?_⟩
    split
    · next hok => exact byCode (fun h8 => by simp [Instr.restarts, hok, h8])
    · unfold Part.badFrame; split
      exacts [.port s.part.marks _ _ rfl, .refl _]
  | unknownRequest code body => exact ⟨_, rfl, byCode (fun h8 => by simp [Instr.restarts, h8])⟩
  | writeWhileBusy => exact ⟨_, rfl, writeIgnored⟩
  | unknownMarker marker =>
    refine ⟨_, rfl, ?_⟩
    split
    exacts [.refl _, writeIgnored]
  | powerOn => exact ⟨_, rfl, powerUp rfl⟩
  | resetPinFall => exact ⟨_, rfl, pinFalls rfl⟩
  | resetPinRise => exact ⟨_, rfl, pinRises rfl⟩
  | pollAnswer seg rx up => exact ⟨_, rfl, pollAnswered⟩
  | showAnswer rx pos kind => exact ⟨_, rfl, showAnswered⟩
  | sensePartition rx pos x => exact ⟨_, rfl, senseAnswered⟩
  | senseAmbient rx pos x => exact ⟨_, rfl, senseAnswered⟩
  | probeAnswer seg rx u => exact ⟨_, rfl, probeAnswered⟩
  | assignAnswer seg rx u => exact ⟨_, rfl, assignAnswered⟩
  | parkAnswer seg rx u => exact ⟨_, rfl, parkAnswered⟩
  | responseTimeout seg => exact ⟨_, rfl, timedOut⟩
  | walkBegin seg => exact ⟨_, rfl, event k.takeWalkBegin⟩
  | lineBreakEnd seg => exact ⟨_, rfl, event k.takeBreakEnd⟩
  | probeDue seg => exact ⟨_, rfl, event k.reachProbe⟩
  | sleep seg => exact ⟨_, rfl, event k.takeSleep⟩
  | wakeLineRise seg => exact ⟨_, rfl, event k.raiseWakeLine⟩
  | clockSecond => exact ⟨_, rfl, event k.clockSecond⟩
  | minuteBoundary => exact ⟨_, rfl, event k.clockMinute⟩
  | speakingWarning f n => exact ⟨_, rfl, event (by split; exacts [k.takeWarning, k])⟩
  | allowanceExpiry f n => exact ⟨_, rfl, event (by split; exacts [k.expireEntry, k])⟩
  | lifetimeExpiry f => exact ⟨_, rfl, event k.expireQueue⟩
  | guardEnd n => exact ⟨_, rfl, event k.reachGuard⟩
  | rotationPhaseChange d => exact ⟨_, rfl, event k.changePhase⟩
  | enterStandby => exact ⟨_, rfl, event (by split; exacts [k.beginStandby, k])⟩
  | timebaseSecond => exact ⟨_, rfl, event k.passTime⟩
  | powerLoss => exact ⟨_, rfl, losePower rfl⟩

/-- What a step makes of the part: it restarts only by a command that does. -/
theorem step {s t : State} (h : step s = .next t) : s.part.Becomes (∃ c, s.pending.head? = some c ∧ c.restarts = true) t.part := by
  unfold Machine.step at h
  split at h
  · cases h
    exact event (g := fun q => q.passTime (q.now + 1)) (Part.Keeps.refl s.part).passTime
  · next c rest hp =>
    obtain ⟨q, hq, hb⟩ := exec c { s with pending := rest }
    rw [hq] at h
    cases h
    have mono : (c.restarts = true) = (∃ d, s.pending.head? = some d ∧ d.restarts = true) := by
      simp [hp]
    rw [← mono]
    exact hb

/-- A property that the forms keep holds after every step. -/
theorem keeps_of_forms {P : Part → Prop} {s t : State} (h : Machine.step s = .next t)
    (hport : ∀ m n a, ({ s.part with marks := m, notices := n, answer := a } : Part).shape = s.part.shape →
      P { s.part with marks := m, notices := n, answer := a })
    (hkeeps : ∀ q, s.part.Keeps q → P q)
    (hstarts : ∀ cause image now, image = none ∨ image = s.part.store.image → P (Part.started cause image now))
    (hclears : ∀ c, P (s.part.tableReset.setAnswer c .done []))
    (hstops : ∀ pw now u, u = s.part.store ∨ u = s.part.store.cutShort → P { s.part with power := pw, now := now, store := u }) :
    P t.part := by
  generalize hq : t.part = q
  have hb := step h
  rw [hq] at hb
  cases hb with
  | port m n a hs => exact hport m n a hs
  | settles _ hk => exact hkeeps _ hk.settle
  | answers c st b _ hk => exact hkeeps _ hk.settle.setAnswer
  | polls _ hk => exact hkeeps _ hk.settle.noteChanges
  | starts cause image now _ hi => exact hstarts cause image now hi
  | clears c _ _ => exact hclears c
  | stops pw now u _ hu => exact hstops pw now u hu

end Part.Becomes

/-! ### The settings and the clock -/

theorem factorySettings_ok : factorySettings.ok = true := by decide

theorem Part.started_settingsValid (cause : StartCause) (image : Option Settings) (now : Nat)
    (h : ∀ c, image = some c → c.ok = true) : (Part.started cause image now).settingsValid := by
  refine ⟨?_, fun c hc => (by cases hc), h⟩
  cases image with
  | none => exact factorySettings_ok
  | some c => exact h c rfl

theorem Store.cutShort_valid (t : Store) (hc : ∀ c, t.copy = some c → c.ok = true) (hi : ∀ c, t.image = some c → c.ok = true) :
    (∀ c, t.cutShort.copy = some c → c.ok = true) ∧ ∀ c, t.cutShort.image = some c → c.ok = true := by
  unfold Store.cutShort; split
  · exact ⟨by simp, by simp⟩
  · exact ⟨hc, hi⟩

theorem step_clock_inRange {s t : State} (hp : s.part.clock.inRange) (h : step s = .next t) : t.part.clock.inRange :=
  Part.Becomes.keeps_of_forms (P := fun q => q.clock.inRange) h (fun _ _ _ _ => hp) (fun _ hk => hk.clock hp)
    (fun _ _ _ _ => ⟨Nat.zero_le _, Nat.zero_le _⟩) (fun _ => hp) (fun _ _ _ _ => hp)

theorem step_settingsValid {s t : State} (hp : s.part.settingsValid) (h : step s = .next t) : t.part.settingsValid := by
  obtain ⟨hl, hc, hi⟩ := hp
  refine Part.Becomes.keeps_of_forms (P := Part.settingsValid) h (fun _ _ _ _ => ⟨hl, hc, hi⟩)
    (fun _ hk => hk.settings ⟨hl, hc, hi⟩) (fun cause image now him => ?_) (fun _ => ⟨hl, hc, hi⟩) (fun _ _ u hu => ?_)
  · refine Part.started_settingsValid cause image now (fun c hc => ?_)
    rcases him with him | him
    · rw [him] at hc; cases hc
    · exact hi c (him ▸ hc)
  · rcases hu with rfl | rfl
    · exact ⟨hl, hc, hi⟩
    · exact ⟨hl, s.part.store.cutShort_valid hc hi⟩

/-- Settles O54: every form of a step keeps the clock's range and the settings' validity; a start loads a valid image or the
factory settings. -/
theorem clockAndSettingsStayInRange : Obligations.ClockAndSettingsStayInRange :=
  ⟨fun _ _ => step_clock_inRange, fun _ _ => step_settingsValid⟩

/-! ### The urgent lists and the queues -/

theorem Engine.reset_urgent (e : Engine) : e.reset.urgent = [] := by
  unfold Engine.reset; dsimp only; split <;> rfl

/-- Settles O55: a position enters an urgent list only where it does not stand there, and every other write shortens the
list. -/
theorem urgentListsStayOnce : Obligations.UrgentListsStayOnce := by
  intro s t hp h
  refine Part.Becomes.keeps_of_forms (P := Part.urgentOnce) h (fun _ _ _ _ => hp) (fun _ hk => hk.urgent hp)
    (fun _ _ _ _ => ⟨List.nodup_nil, List.nodup_nil, List.nodup_nil⟩) (fun _ => ?_) (fun _ _ _ _ => hp)
  have hnil : ∀ e : Engine, e.reset.urgent.Nodup := fun e => by rw [e.reset_urgent]; exact List.nodup_nil
  exact ⟨hnil _, hnil _, hnil _⟩

theorem startQueues_ordered : ∀ x ∈ List.replicate 4 startQueue, x.inClassOrder := fun x hx => by
  rw [List.eq_of_mem_replicate hx]; exact List.Pairwise.nil

theorem step_queuesOrdered {s t : State} (hp : s.part.queuesOrdered) (h : step s = .next t) : t.part.queuesOrdered :=
  Part.Becomes.keeps_of_forms (P := Part.queuesOrdered) h (fun _ _ _ _ => hp) (fun _ hk => hk.order hp)
    (fun _ _ _ _ => startQueues_ordered) (fun _ => startQueues_ordered) (fun _ _ _ _ => hp)

theorem step_queueStanding {s t : State} (hp : s.part.queueStanding ≤ 64) (h : step s = .next t) :
    t.part.queueStanding ≤ 64 :=
  Part.Becomes.keeps_of_forms (P := fun q => q.queueStanding ≤ 64) h (fun _ _ _ _ => hp) (fun _ hk => hk.pool hp)
    (fun _ _ _ _ => Nat.zero_le _) (fun _ => Nat.zero_le _) (fun _ _ _ _ => hp)

/-- Settles O56: an entry joins by its class while the pool holds a free one, and every other write of a queue keeps the
order and makes it no longer. -/
theorem queuesStayOrderedAndInThePool : Obligations.QueuesStayOrderedAndInThePool :=
  ⟨fun _ _ => step_queuesOrdered, fun _ _ => step_queueStanding⟩

/-! ### The displays -/

theorem Part.contentFor_free (p : Part) (d : Display) (ha : p.control.tableState.dark = false)
    (hf : p.floors = List.replicate 4 startFloor) : p.contentFor d = idleContent d.config := by
  have hz : ∀ z, p.floorOfZone z = none := by
    intro z
    have hh : ∀ f, (p.floorAt f).holds z = false := fun f => by
      rw [Part.floorAt, hf, nth_replicate_getD]; simp [Floor.holds, startFloor]
    simp [Part.floorOfZone, hh]
  cases hb : d.config.binding <;> simp [Part.contentFor, ha, idleContent, hb, hz]

theorem Part.started_displaysFollow (cause : StartCause) (image : Option Settings) (now : Nat) :
    (Part.started cause image now).displaysFollow := by
  intro d hd
  obtain ⟨cfg, _, rfl⟩ := List.mem_map.1 hd
  exact ⟨((Part.started cause image now).contentFor_free (startDisplay (loadedSettings image) cfg) rfl rfl).symm, rfl, rfl⟩

/-- RESET TABLE ends with a recompute (R148). -/
theorem Part.tableReset_displaysFollow (p : Part) : p.tableReset.displaysFollow := by
  have hc : p.tableReset.records = { p.cleared.records with displays := p.tableReset.displays.map Display.core } := rfl
  refine Part.follow_of_recomputed p.cleared p.tableReset ?_ rfl
  rw [hc]
  simp only [Part.tableReset, Part.records, map_map_of_keeps Display.core _ _ p.cleared.recomputed_core]

/-- Marks, notices and the answer are nothing that a display shows. -/
theorem Part.displaysFollow_told {p : Part} (h : p.displaysFollow) (m : Marks) (n : Notices) (a : Answer) :
    ({ p with marks := m, notices := n, answer := a } : Part).displaysFollow := h

/-- Settles O57: a step is settled with a recompute, and what does not settle leaves everything that a display shows. -/
theorem displaysFollowEveryStep : Obligations.DisplaysFollowEveryStep := by
  intro s t hp h
  generalize hq : t.part = q
  have hb := Part.Becomes.step h
  rw [hq] at hb
  cases hb with
  | port => exact hp
  | settles => exact Part.settle_follow _ _
  | @answers q c st b _ _ => exact Part.displaysFollow_told (s.part.settle_follow q) _ _ _
  | @polls m q _ _ => exact Part.displaysFollow_told (m.settle_follow q) _ _ _
  | starts cause image now => exact Part.started_displaysFollow cause image now
  | clears => exact s.part.tableReset_displaysFollow
  | stops => exact hp

/-! ### The numbers of records -/

theorem Part.started_shape (cause : StartCause) (image : Option Settings) (now : Nat) :
    (Part.started cause image now).shape = partShape := by
  simp [Part.shape, Part.started, allMarks, partShape]

theorem Part.tableReset_shape (p : Part) (h : p.shape = partShape) : p.tableReset.shape = partShape := by
  have hs : p.slots.length = 48 := congrArg Shape.slots h
  have hp : p.partitions.length = 3 := congrArg Shape.partitions h
  simp [Part.shape, Part.tableReset, Part.cleared, marksSet, allMarks, partShape, hs, hp]

/-- Settles O58: every write of a list keeps its length, and a start makes the lists of the part's numbers. -/
theorem thePartKeepsItsNumbers : Obligations.ThePartKeepsItsNumbers := fun s _ hp h =>
  Part.Becomes.keeps_of_forms (P := fun q => q.shape = partShape) h (fun _ _ _ hs => hs.trans hp)
    (fun _ hk => hk.shape.trans hp) (fun _ _ _ _ => Part.started_shape _ _ _) (fun _ => s.part.tableReset_shape hp)
    (fun _ _ _ _ => hp)

/-- Settles O60: the start of State.reset is one of the starts that meet them. -/
theorem resetMeetsTheInvariants : Obligations.ResetMeetsTheInvariants :=
  ⟨Part.started_settingsValid _ _ _ (fun _ h => by cases h), ⟨Nat.zero_le _, Nat.zero_le _⟩,
    ⟨List.nodup_nil, List.nodup_nil, List.nodup_nil⟩, startQueues_ordered, Nat.zero_le _,
    Part.started_displaysFollow _ _ _, Part.started_shape _ _ _⟩

end Sys2Proof.Machine
end

section
/-! What a step changes it marks and notifies (O59): a settled step compares the part before it with the part that its blocks
leave, and the engines' next exchanges change nothing that the comparison sees. -/

namespace Sys2Proof.Machine

/-! ### The bits of the notice kinds -/

/-- The place of a kind's bit (R198). -/
def NoticeKind.place : NoticeKind → Nat
  | .seat => 0
  | .floor => 1
  | .queue => 2
  | .booking => 3
  | .display => 4
  | .layout => 5
  | .link => 6
  | .settings => 7
  | .port => 8

theorem NoticeKind.bit_eq (k : NoticeKind) : k.bit = BitVec.twoPow 9 k.place := by cases k <;> rfl

/-- A set has a kind exactly when the bit at the kind's place is set. -/
theorem and_bit_ne_zero (x : NoticeSet) (k : NoticeKind) : x &&& k.bit ≠ 0 ↔ x.getLsbD k.place = true := by
  have hne : BitVec.twoPow 9 k.place ≠ 0 := by cases k <;> decide
  rw [k.bit_eq, BitVec.and_twoPow]
  split
  · next h => exact ⟨fun _ => h, fun _ => hne⟩
  · next h => exact ⟨fun e => absurd rfl e, fun e => absurd e h⟩

theorem foldl_kinds_place (c : NoticeKind → Bool) (k : NoticeKind) (l : List NoticeKind) :
    ∀ s : NoticeSet, (s.getLsbD k.place = true ∨ k ∈ l ∧ c k = true) →
      (l.foldl (fun s k => if c k then s ||| k.bit else s) s).getLsbD k.place = true := by
  induction l with
  | nil => intro s h; simpa using h
  | cons j l ih =>
    intro s h
    refine ih _ ?_
    rcases h with h | ⟨hm, hc⟩
    · left; dsimp only; split <;> simp [h]
    · rcases List.mem_cons.1 hm with rfl | hm
      · left
        have hb : k.bit.getLsbD k.place = true := by cases k <;> decide
        simp [hc, hb]
      · exact .inr ⟨hm, hc⟩

/-- The set of the kinds for which `c` holds has each of them. -/
theorem kindSet_place (c : NoticeKind → Bool) (k : NoticeKind) (h : c k = true) : (kindSet c).getLsbD k.place = true :=
  foldl_kinds_place c k noticeKinds 0 (.inr ⟨by cases k <;> decide, h⟩)

/-! ### The engines' next exchanges -/

/-- The part with engines of another part. -/
def Part.withEngines (p q : Part) : Part := { p with left := q.left, right := q.right, wall := q.wall }

/-- Serving changes the engines alone. -/
theorem Part.send_withEngines (p : Part) (seg : Segment) (x : Exchange) (q : Part) :
    (p.send seg x).withEngines q = p.withEngines q := by cases seg <;> rfl
theorem Part.updEngine_withEngines (p : Part) (seg : Segment) (g : Engine → Engine) (q : Part) :
    (p.updEngine seg g).withEngines q = p.withEngines q := by cases seg <;> rfl
theorem Part.setProbeDue_withEngines (p : Part) (seg : Segment) (pos : Nat) (q : Part) :
    (p.setProbeDue seg pos).withEngines q = p.withEngines q := p.updEngine_withEngines _ _ q
theorem Part.serveRound_withEngines (p : Part) (seg : Segment) (q : Part) :
    (p.serveRound seg).withEngines q = p.withEngines q := by
  unfold Part.serveRound
  split
  · rfl
  · split
    · rfl
    · dsimp only
      split
      · rw [Part.setProbeDue_withEngines, Part.send_withEngines, Part.updEngine_withEngines]
      · rw [Part.send_withEngines, Part.updEngine_withEngines]
theorem Part.serveNext_withEngines (p : Part) (seg : Segment) (q : Part) :
    (p.serveNext seg).withEngines q = p.withEngines q := by
  unfold Part.serveNext; split
  · rw [Part.send_withEngines, Part.updEngine_withEngines]
  · rw [Part.serveRound_withEngines, Part.updEngine_withEngines]
theorem Part.serveBlank_withEngines (p q : Part) : p.serveBlank.withEngines q = p.withEngines q := by
  unfold Part.serveBlank; split
  · rw [Part.updEngine_withEngines]
  · rw [Part.send_withEngines, Part.updEngine_withEngines]
theorem Part.kick_withEngines (p : Part) (seg : Segment) (q : Part) : (p.kick seg).withEngines q = p.withEngines q := by
  unfold Part.kick; repeat' split
  exacts [p.serveBlank_withEngines q, rfl, rfl, p.serveNext_withEngines seg q, rfl]

/-- The engines' next exchanges change nothing but the engines. -/
theorem Part.kickAll_eq (p : Part) : p.kickAll = p.withEngines p.kickAll := by
  have h : p.kickAll.withEngines p.kickAll = p.withEngines p.kickAll := by
    simp only [Part.kickAll, Part.kick_withEngines]
  exact h

theorem Engine.view_of_still {a b : Engine} (h : b.still = a.still) : b.view = a.view := by
  have := congrArg Engine.view h; exact this

/-! ### A told step -/

/-- Between `a` and `b` the blocks made `p`, and the step was told from `a` to `p`; beside marks, flags and answer, `b` differs
from `p` in the engines alone, and there in nothing that the table record shows. -/
def Part.Told (a b p : Part) : Prop :=
  p.shape = partShape ∧ p.notices.enables = a.notices.enables ∧
  ∃ (l r w : Engine) (x : Answer),
    b = { p with
      left := l, right := r, wall := w, answer := x, marks := a.newMarks p
      notices := { p.notices with flags := p.notices.flags ||| (kindSet (a.stepRaises p) &&& p.notices.enables) } } ∧
    l.view = p.left.view ∧ r.view = p.right.view ∧ w.view = p.wall.view

/-- The noted part is told of. -/
theorem Part.noteChanges_told (a p : Part) (hs : p.shape = partShape) (he : p.notices.enables = a.notices.enables) :
    a.Told (a.noteChanges p) p := ⟨hs, he, _, _, _, _, rfl, rfl, rfl, rfl⟩

theorem Part.Told.kickAll {a b p : Part} (h : a.Told b p) : a.Told b.kickAll p := by
  obtain ⟨hs, he, l, r, w, x, rfl, hl, hr, hw⟩ := h
  refine ⟨hs, he, _, _, _, x, Part.kickAll_eq _, ?_, ?_, ?_⟩
  · exact (Engine.view_of_still (Part.kickAll_still _ .left)).trans hl
  · exact (Engine.view_of_still (Part.kickAll_still _ .right)).trans hr
  · exact (Engine.view_of_still (Part.kickAll_still _ .wall)).trans hw

theorem Part.Told.setAnswer {a b p : Part} (h : a.Told b p) (c : Byte) (st : Status) (body : List Byte) :
    a.Told (b.setAnswer c st body) p := by
  obtain ⟨hs, he, l, r, w, x, rfl, hl, hr, hw⟩ := h
  exact ⟨hs, he, l, r, w, _, rfl, hl, hr, hw⟩

/-- The end of a step tells what the step did. -/
theorem Part.settle_told {a q : Part} (h : a.Keeps q) (hs : a.shape = partShape) :
    a.Told (a.settle q) (a.syncSeats q.takeWalks).recomputeAll := by
  have hk := h.takeWalks.syncSeats (old := a) |>.recomputeAll
  exact (a.noteChanges_told _ (hk.shape.trans hs) hk.enables).kickAll

/-- A step of a running part that does not restart it moves the port alone, or is told. -/
theorem step_told {s t : State} (hs : s.part.shape = partShape) (h : step s = .next t)
    (hc : ∀ c, s.pending.head? = some c → c.restarts = false) :
    (∃ m n x, t.part = { s.part with marks := m, notices := n, answer := x }) ∨ ∃ p, s.part.Told t.part p := by
  have no : ¬ ∃ c, s.pending.head? = some c ∧ c.restarts = true := by
    rintro ⟨c, hp, hr⟩; rw [hc c hp] at hr; cases hr
  generalize ht : t.part = b
  have hb := Part.Becomes.step h
  rw [ht] at hb
  cases hb with
  | port m n x => exact .inl ⟨m, n, x, rfl⟩
  | settles _ hq => exact .inr ⟨_, Part.settle_told hq hs⟩
  | answers c st body _ hq => exact .inr ⟨_, (Part.settle_told hq hs).setAnswer c st body⟩
  | polls _ hq => exact .inr ⟨_, s.part.noteChanges_told _ (hq.settle.shape.trans hs) hq.settle.enables⟩
  | starts _ _ _ hr => exact absurd hr no
  | clears _ hr => exact absurd hr no
  | stops _ _ _ hr => exact absurd hr no

/-! ### From the comparison to the marks and flags -/

/-- A record of the list has its mark set when it changed. -/
theorem changedMarks_of (changed : Nat → Bool) (l : List Bool) (i : Nat) (h : changed i = true) (h1 : 1 ≤ i)
    (hl : i ≤ l.length) : (nth (changedMarks changed l) i).getD false = true := by
  rw [changedMarks, nth_mapFrom]
  obtain ⟨k, rfl⟩ : ∃ k, i = k + 1 := ⟨i - 1, by omega⟩
  simp only [nth, List.getElem?_eq_getElem (show k < l.length by omega)]
  simp [h]

namespace Part.Told

variable {a b p : Part}

/-- A kind that the step raises has its flag where it is enabled. -/
theorem flag (h : a.Told b p) (k : NoticeKind) (hk : a.stepRaises p k = true) (he : a.notices.enables &&& k.bit ≠ 0) :
    b.notices.flags &&& k.bit ≠ 0 := by
  obtain ⟨_, hen, l, r, w, x, rfl, _⟩ := h
  rw [and_bit_ne_zero] at he ⊢
  simp [hen, he, kindSet_place _ k hk]

theorem marks (h : a.Told b p) : b.marks = a.newMarks p := by
  obtain ⟨_, _, l, r, w, x, rfl, _⟩ := h; rfl

/-- A changed record is told: its mark by `hm`, its flag by `hk`. -/
theorem tells (h : a.Told b p) {rk : RecordKind} {i : Nat} (k : NoticeKind) (hm : (a.newMarks p).get rk i = true)
    (hk : a.stepRaises p k = true) : a.tells b rk i k.bit := ⟨by rw [h.marks]; exact hm, h.flag k hk⟩

theorem seat (h : a.Told b p) (n : Nat) (h1 : 1 ≤ n) (h96 : n ≤ 96)
    (hne : a.seatAt n ≠ b.seatAt n ∨ a.micOf n ≠ b.micOf n ∨ a.admitted n ≠ b.admitted n) : a.tells b .seat n 0x001 := by
  have hl : p.marks.seats.length = 96 := congrArg Shape.seatMarks h.1
  have hv : a.seatView n ≠ p.seatView n := by
    obtain ⟨_, _, l, r, w, x, rfl, _⟩ := h
    intro e
    obtain ⟨e1, e2, e3⟩ : a.seatAt n = p.seatAt n ∧ a.micOf n = p.micOf n ∧ a.admitted n = p.admitted n := by
      simpa [Part.seatView] using e
    rcases hne with hne | hne | hne
    exacts [hne e1, hne e2, hne e3]
  refine h.tells .seat (changedMarks_of _ _ n (by simpa using hv) h1 (by omega)) ?_
  simp only [Part.stepRaises, List.any_eq_true]
  exact ⟨n, List.mem_range'_1.2 ⟨h1, by omega⟩, by simpa using hv⟩

theorem mem_floorNumbers {f : Nat} (h1 : 1 ≤ f) (h4 : f ≤ 4) : f ∈ floorNumbers := by
  have : f = 1 ∨ f = 2 ∨ f = 3 ∨ f = 4 := by omega
  simpa [floorNumbers] using this

theorem floor (h : a.Told b p) (f : Nat) (h1 : 1 ≤ f) (h4 : f ≤ 4) (hne : a.floorView f ≠ b.floorView f) :
    a.tells b .floor f 0x002 := by
  have hl : p.marks.floors.length = 4 := congrArg Shape.floorMarks h.1
  have hv : a.floorView f ≠ p.floorView f := by
    obtain ⟨_, _, l, r, w, x, rfl, _⟩ := h; exact hne
  refine h.tells .floor (changedMarks_of _ _ f (by simpa using hv) h1 (by omega)) ?_
  simp only [Part.stepRaises, List.any_eq_true]
  exact ⟨f, mem_floorNumbers h1 h4, by simpa using hv⟩

theorem queue (h : a.Told b p) (f : Nat) (h1 : 1 ≤ f) (h4 : f ≤ 4) (hne : a.queueView f ≠ b.queueView f) :
    a.tells b .queue f 0x004 := by
  have hl : p.marks.queues.length = 4 := congrArg Shape.queueMarks h.1
  have hv : a.queueView f ≠ p.queueView f := by
    obtain ⟨_, _, l, r, w, x, rfl, _⟩ := h; exact hne
  refine h.tells .queue (changedMarks_of _ _ f (by simpa using hv) h1 (by omega)) ?_
  simp only [Part.stepRaises, Bool.or_eq_true, List.any_eq_true]
  exact .inl (.inl ⟨f, mem_floorNumbers h1 h4, by simpa using hv⟩)

theorem queueAlert (h : a.Told b p) (f : Nat) (h1 : 1 ≤ f) (h4 : f ≤ 4) (hne : a.queueAlert f ≠ b.queueAlert f)
    (he : a.notices.enables &&& 0x004 ≠ 0) : b.notices.flags &&& 0x004 ≠ 0 := by
  have hv : a.queueAlert f ≠ p.queueAlert f := by
    obtain ⟨_, _, l, r, w, x, rfl, _⟩ := h; exact hne
  refine h.flag .queue ?_ he
  simp only [Part.stepRaises, Bool.or_eq_true, List.any_eq_true]
  exact .inl (.inr ⟨f, mem_floorNumbers h1 h4, by simpa using hv⟩)

theorem poolLow (h : a.Told b p) (hne : a.queuePoolLow ≠ b.queuePoolLow) (he : a.notices.enables &&& 0x004 ≠ 0) :
    b.notices.flags &&& 0x004 ≠ 0 := by
  have hv : a.queuePoolLow ≠ p.queuePoolLow := by
    obtain ⟨_, _, l, r, w, x, rfl, _⟩ := h; exact hne
  refine h.flag .queue ?_ he
  simp only [Part.stepRaises, Bool.or_eq_true]
  exact .inr (by simpa using hv)

/-- The mark of a slot after a told step (R184). -/
theorem bookingMark (h : a.Told b p) (k : Nat) (h1 : 1 ≤ k) (h48 : k ≤ 48) :
    ∃ m, b.marks.get .booking k = slotMark (a.slotAt k) (b.slotAt k) m := by
  have hl : p.marks.bookings.length = 48 := congrArg Shape.bookingMarks h.1
  obtain ⟨_, _, l, r, w, x, rfl, _⟩ := h
  obtain ⟨j, rfl⟩ : ∃ j, k = j + 1 := ⟨k - 1, by omega⟩
  refine ⟨p.marks.bookings[j], ?_⟩
  simp only [Part.newMarks, Marks.get, nth_mapFrom]
  simp only [nth, List.getElem?_eq_getElem (show j < p.marks.bookings.length by omega)]
  rfl

theorem booking (h : a.Told b p) (k : Nat) (h1 : 1 ≤ k) (h48 : k ≤ 48) (hne : a.slotAt k ≠ b.slotAt k) :
    ((b.slotAt k).isSome = true → a.tells b .booking k 0x008) ∧ (b.slotAt k = none → b.marks.get .booking k = false) := by
  obtain ⟨m, hm⟩ := h.bookingMark k h1 h48
  refine ⟨fun hsome => ⟨?_, h.flag .booking ?_⟩, fun hnone => by rw [hm, hnone]; rfl⟩
  · obtain ⟨c, hc⟩ := Option.isSome_iff_exists.1 hsome
    rw [hc] at hne
    rw [hm, hc]
    simp [slotMark, hne]
  · have hv : a.slotAt k ≠ p.slotAt k ∧ (p.slotAt k).isSome = true := by
      obtain ⟨_, _, l, r, w, x, rfl, _⟩ := h; exact ⟨hne, hsome⟩
    simp only [Part.stepRaises, List.any_eq_true]
    exact ⟨k, List.mem_range'_1.2 ⟨h1, by omega⟩, by simpa [slotChanged, hv.2] using hv.1⟩

theorem display (h : a.Told b p) (d : Nat) (h1 : 1 ≤ d) (h8 : d ≤ 8) (hne : a.displayView d ≠ b.displayView d) :
    a.tells b .display d 0x010 := by
  have hl : p.marks.displays.length = 8 := congrArg Shape.displayMarks h.1
  have hv : a.displayView d ≠ p.displayView d := by
    obtain ⟨_, _, l, r, w, x, rfl, _⟩ := h; exact hne
  refine h.tells .display (changedMarks_of _ _ d (by simpa using hv) h1 (by omega)) ?_
  simp only [Part.stepRaises, Bool.or_eq_true, List.any_eq_true]
  exact .inl ⟨d, List.mem_range'_1.2 ⟨h1, by omega⟩, by simpa using hv⟩

theorem ambient (h : a.Told b p) (hne : a.ambientView ≠ b.ambientView) : a.tells b .ambient 1 0x010 := by
  have hv : a.ambientView ≠ p.ambientView := by
    obtain ⟨_, _, l, r, w, x, rfl, _⟩ := h; exact hne
  exact h.tells .display (by simp [Part.newMarks, Marks.get, hv]) (by simp [Part.stepRaises, hv])

theorem layout (h : a.Told b p) (hne : a.layoutView ≠ b.layoutView) : a.tells b .layout 1 0x020 := by
  have hv : a.layoutView ≠ p.layoutView := by
    obtain ⟨_, _, l, r, w, x, rfl, _⟩ := h; exact hne
  exact h.tells .layout (by simp [Part.newMarks, Marks.get, hv]) (by simp [Part.stepRaises, hv])

theorem table (h : a.Told b p) (hne : a.tableView ≠ b.tableView) : a.tells b .table 1 0x040 := by
  have hv : a.tableView ≠ p.tableView := by
    obtain ⟨_, _, l, r, w, x, rfl, hl, hr, hw⟩ := h
    have e : ∀ m n, ({ p with left := l, right := r, wall := w, answer := x, marks := m, notices := n } : Part).tableView =
        p.tableView := by
      intro m n
      simp only [Part.tableView, hl, hr, hw]
      rfl
    rw [e] at hne
    exact hne
  exact h.tells .link (by simp [Part.newMarks, Marks.get, hv]) (by simp [Part.stepRaises, hv])

theorem clock (h : a.Told b p) (hne : a.clock ≠ b.clock) : b.marks.get .clock 1 = true := by
  have hv : a.clock ≠ p.clock := by
    obtain ⟨_, _, l, r, w, x, rfl, _⟩ := h; exact hne
  rw [h.marks]
  simp [Part.newMarks, Marks.get, hv]

theorem settings (h : a.Told b p) (hne : a.settingsView ≠ b.settingsView) : a.tells b .settings 1 0x080 := by
  have hv : a.settingsView ≠ p.settingsView := by
    obtain ⟨_, _, l, r, w, x, rfl, _⟩ := h; exact hne
  exact h.tells .settings (by simp [Part.newMarks, Marks.get, hv]) (by simp [Part.stepRaises, hv])

end Part.Told

/-- Settles O59: a step that moves the port alone changes no record, and every other is told: each clause is one of the
comparisons of `Part.noteChanges`. -/
theorem changesAreMarkedAndNotified : Obligations.ChangesAreMarkedAndNotified := by
  rintro s t _ _ rfl rfl hshape - hstep hc
  rcases step_told hshape hstep hc with ⟨m, n, x, ht⟩ | ⟨p, h⟩
  · rw [ht]
    refine ⟨fun _ _ _ hne => ?_, fun _ _ _ => ⟨fun hne => ?_, fun hne => ?_, fun hne => ?_⟩, fun hne => ?_,
      fun _ _ _ hne => ?_, fun _ _ _ hne => ?_, fun hne => ?_, fun hne => ?_, fun hne => ?_, fun hne => ?_, fun hne => ?_⟩
    · rcases hne with hne | hne | hne <;> exact absurd rfl hne
    · rcases hne with hne | hne <;> exact absurd rfl hne
    · exact absurd rfl hne
    · exact absurd rfl hne
    · exact absurd rfl hne
    · exact absurd rfl hne
    · exact absurd rfl hne
    · rcases hne with hne | hne <;> exact absurd rfl hne
    · rcases hne with hne | hne <;> exact absurd rfl hne
    · rcases hne with hne | hne | ⟨seg, hne⟩ | hne | hne | hne
      · exact absurd rfl hne
      · exact absurd rfl hne
      · cases seg <;> exact absurd rfl hne
      · exact absurd rfl hne
      · exact absurd rfl hne
      · exact absurd rfl hne
    · exact absurd rfl hne
    · rcases hne with hne | hne | hne | hne | hne <;> exact absurd rfl hne
  · refine ⟨h.seat, fun f h1 h4 => ⟨fun hne => h.floor f h1 h4 ?_, fun hne => h.queue f h1 h4 hne, h.queueAlert f h1 h4⟩,
      h.poolLow, h.booking, fun d h1 h8 hne => h.display d h1 h8 hne, fun hne => h.ambient ?_, fun hne => h.layout ?_,
      fun hne => h.table ?_, h.clock, fun hne => h.settings ?_⟩
    · intro e
      simp only [Part.floorView, Prod.mk.injEq] at e
      rcases hne with hne | hne
      exacts [hne e.1, hne e.2]
    · intro e
      simp only [Part.ambientView, Prod.mk.injEq, List.cons.injEq] at e
      rcases hne with hne | hne
      · exact hne e.1
      · exact hne (by simp [e])
    · intro e
      simp only [Part.layoutView, Prod.mk.injEq] at e
      rcases hne with hne | hne
      exacts [hne e.1, hne e.2]
    · intro e
      simp only [Part.tableView, TableView.mk.injEq] at e
      obtain ⟨e1, e2, e3, e4, e5, e6, e7, e8, _⟩ := e
      rcases hne with hne | hne | ⟨seg, hne⟩ | hne | hne | hne
      · exact hne e1
      · exact hne e2
      · cases seg
        exacts [hne e3, hne e4, hne e5]
      · exact hne e6
      · exact hne e7
      · exact hne e8
    · intro e
      simp only [Part.settingsView, Prod.mk.injEq] at e
      obtain ⟨e1, e2, e3, e4, e5⟩ := e
      rcases hne with hne | hne | hne | hne | hne
      exacts [hne e1, hne e2, hne e3, hne e4, hne e5]

end Sys2Proof.Machine
end

section
/-! The step itself (O1, O2), the values of a start (O3), the images' layout (O6), the check word and the frames (O9), and what
stops the part (O14). -/

namespace Sys2Proof.Machine

/-! ### A step -/

/-- Settles O1. -/
theorem stepTakesFrontCommand : Obligations.StepTakesFrontCommand := by
  intro c rest p
  rfl

/-- Settles O2: the tick is an event that passes 1 us, and the end of a step leaves the records as the passing of time left
them. -/
theorem stepOnEmptyQueueTicks : Obligations.StepOnEmptyQueueTicks := by
  intro p hr
  have hnow : (p.passTime (p.now + 1)).now = p.now + 1 := by
    rw [p.passTime_ahead (p.now + 1) _ (by omega) rfl]
  refine ⟨p.tick, rfl, ?_⟩
  simp [Part.tick, Part.event, hr, hnow]

/-! ### The values of a start -/

theorem forall_mem_replicate {α : Type} (n : Nat) (a : α) (P : α → Prop) (h : P a) : ∀ x ∈ List.replicate n a, P x := by
  intro x hx
  rw [List.eq_of_mem_replicate hx]
  exact h

/-- No mark is set where every list of marks holds the value no (R184). -/
theorem allMarks_false_get (n : Nat) (k : RecordKind) (i : Nat) :
    (allMarks false (List.replicate n false)).get k i = false := by
  cases k with
  | seat | floor | queue | booking | display => exact nth_replicate_getD _ i false
  | ambient | layout | table | clock | settings => rfl

/-- Settles O3: every record list of the start is one start record again and again, or is short enough to look at. -/
theorem resetLeavesTheStartValues : Obligations.ResetLeavesTheStartValues := by
  refine ⟨⟨rfl, ⟨rfl, ?seats⟩, ⟨rfl, ?floors⟩, ⟨rfl, ?queues⟩, ⟨rfl, ?slots⟩, rfl, rfl, rfl⟩,
    ⟨rfl, rfl, ?displays⟩, ⟨rfl, rfl, rfl, rfl, rfl, rfl, rfl⟩, ⟨rfl, ?partitions⟩, ?rooms, ?engines, ?roles, rfl, rfl, ?attn,
    rfl, ?marks, rfl, rfl, rfl, rfl, rfl⟩
  case seats => exact forall_mem_replicate 96 startSeat _ (by decide)
  case floors => exact forall_mem_replicate 4 startFloor _ (by decide)
  case queues => exact forall_mem_replicate 4 startQueue _ (by decide)
  case slots => exact forall_mem_replicate 48 none _ rfl
  case displays => decide
  case partitions => exact forall_mem_replicate 3 startPartition _ (by decide)
  case rooms => decide
  case engines => intro seg; cases seg <;> decide
  case roles => intro pos; exact nth_replicate_getD _ pos none
  case attn => decide
  case marks => exact allMarks_false_get 48

/-! ### What stops the part -/

/-- A code dispatched to a part that does not run: the request is lost (R190). -/
theorem Part.byCode_stopped (p : Part) (code : Byte) (body : List Byte) (h : p.power ≠ .running) :
    p.byCode code body = p := by
  unfold Part.byCode
  split <;> simp [Part.portRequest, Part.request, Part.resetRequest, Part.unknownCode, h]

/-- Settles O14: each way to stop the part is its own case of the pin and of the supply, and every request tests first that the
part runs. -/
theorem resetLowAndPowerLossStopThePart : Obligations.ResetLowAndPowerLossStopThePart := by
  refine ⟨fun s => ⟨fun hr => ?fall, fun hoff => ?offFall, fun hlow => ?offRise, ?loss⟩, fun s c hp hc => ?lost⟩
  case fall =>
    have hr : s.part.power = .running := hr
    simp [exec, execResetPinFall, Part.pinFalls, hr, Store.cutShort]
  case offFall => simp [exec, execResetPinFall, Part.pinFalls, hoff]
  case offRise => simp [exec, execResetPinRise, Part.pinRises, hlow]
  case loss =>
    have hlow : s.part.power.lowReset = true ↔ s.part.power = .resetLow ∨ s.part.power = .offResetLow := by
      cases s.part.power <;> decide
    simp [exec, execPowerLoss, Part.losePower, Store.cutShort, hlow]
  case lost =>
    have keeps : ∀ p, p = s.part → s.become p = .next s := by rintro _ rfl; rfl
    cases c with
    | badFrame received =>
      refine keeps _ ?_
      split
      · exact s.part.byCode_stopped _ _ hp
      · simp [Part.badFrame, hp]
    | unknownRequest code body => exact keeps _ (s.part.byCode_stopped _ _ hp)
    | resetTable body => exact keeps _ (by simp [Part.resetRequest, hp])
    | resetAll body => exact keeps _ (by simp [Part.resetRequest, hp])
    | _ =>
      first
      | exact keeps _ (if_neg hp)
      | exact absurd hc Bool.false_ne_true

/-! ### The images -/

theorem bytes_two (v : Nat) : bytes 2 v = [BitVec.ofNat 8 (v / 256), BitVec.ofNat 8 v] := by
  simp [bytes, List.range_succ]

theorem flagByte_eq (b : Bool) : flagByte b = byte (if b then 1 else 0) := by cases b <;> rfl

theorem autoBytes_eq (b : Bool) : autoBytes b = byte (if b then 0 else 1) := by cases b <;> rfl

theorem optParams_eq (q : Option FloorParams) :
    optParams q = match q with | none => List.replicate 11 0 | some q => paramsBytes q := by
  cases q <;> rfl

theorem rangeBytes_eq (r : Option (Nat × Nat)) :
    rangeBytes r = match r with | none => [0, 0] | some (a, b) => byte a ++ byte b := by
  cases r <;> rfl

theorem candidateCode_eq (c : Option WallState) :
    candidateCode c = match c with | none => 0xFF | some .closed => 0 | some .opened => 1 := by
  rcases c with _ | _ | _ <;> rfl

theorem partitionBytes_eq : partitionBytes = fun x =>
    byte (wallStateCode x.state) ++ optByte x.sensorPosition ++ serialBytes x.sensorSerial ++ healthBytes x.health ++
      byte (match x.candidate with | none => 0xFF | some .closed => 0 | some .opened => 1) ++ byte x.repeatCount := by
  funext x
  rw [partitionBytes, candidateCode_eq]

theorem SettingsSource.code_eq (c : SettingsSource) : [c.code] = byte (match c with | .stored => 1 | .factory => 2) := by
  cases c <;> rfl

theorem flagByte_length (b : Bool) : (flagByte b).length = 1 := by cases b <;> rfl

/-- Settles O6: every image is laid out as its definition has it; each code is the case of its format. -/
theorem recordImagesAreLaidOut : Obligations.RecordImagesAreLaidOut := by
  refine ⟨fun q => ⟨rfl, ?params⟩, fun h => rfl, fun v => ⟨?two, ?three, rfl⟩, ?seat, ?floor, ?queue, fun slot page b => rfl,
    ⟨rfl, rfl, rfl, rfl, rfl, rfl⟩, ?config, ⟨rfl, rfl, rfl, fun n => rfl, rfl⟩, ?display, fun c => rfl, fun p i => rfl,
    fun p i => ?ambient, fun p i => ?layout, fun p i segment hseg => ?table, fun p i => ?settings⟩
  case params => simp [paramsBytes, byte, bytes, flagByte_length]
  case two => exact bytes_two v
  case three => simp [bytes, List.range_succ]
  case seat => rintro p n _ rfl; rfl
  case floor =>
    rintro p f _ rfl
    simp only [Part.imageOfRecord, Part.floorImage, optParams_eq]
    rfl
  case queue => rintro p f _ rfl; rfl
  case config => intro c; rw [configBytes, autoBytes_eq]; rfl
  case display => intro d x; rw [displayImage, flagByte_eq x.phaseB]; rfl
  case ambient =>
    simp only [Part.imageOfRecord, Part.ambientImage, ambientSettingsBytes, ← List.append_assoc]
    rfl
  case layout =>
    simp only [Part.imageOfRecord, Part.layoutImage, zoneMapBytes, rangeBytes_eq, partitionBytes_eq]
    rfl
  case table =>
    have hs : segment = segmentBytes := funext hseg
    subst hs
    rfl
  case settings =>
    simp only [Part.imageOfRecord, Part.settingsImage, SettingsSource.code_eq, settingsBytes, zoneMapBytes, rangeBytes_eq,
      bookingDefaultsBytes, ambientSettingsBytes, ← List.append_assoc]
    rfl

/-! ### The check word and the frames -/

/-- One shift of the check word's register (R177). -/
def crcStep (c : BitVec 16) : BitVec 16 := if c.msb then (c <<< 1) ^^^ 0x1021#16 else c <<< 1

/-- One bit enters the check word (R177). -/
def crcBit (c : BitVec 16) (bit : Bool) : BitVec 16 := if c.msb ≠ bit then (c <<< 1) ^^^ 0x1021#16 else c <<< 1

theorem crcShift_succ (k : Nat) (c : BitVec 16) : crcShift (k + 1) c = crcShift k (crcStep c) := rfl

/-- A shift takes in the front bit of what stands over the register's high half. -/
theorem crcStep_xor (c : BitVec 16) (b : Byte) :
    crcStep (c ^^^ (b.zeroExtend 16 <<< 8)) = crcBit c b.msb ^^^ ((b <<< 1).zeroExtend 16 <<< 8) := by
  have hmsb : (b.zeroExtend 16 <<< 8).msb = b.msb := by
    simp [BitVec.msb, BitVec.getMsbD]
  have hshift : (b.zeroExtend 16 <<< 8) <<< 1 = (b <<< 1).zeroExtend 16 <<< 8 := by
    apply BitVec.eq_of_toNat_eq
    simp [Nat.shiftLeft_eq]
    omega
  have hbit : (c ^^^ (b.zeroExtend 16 <<< 8)).msb = true ↔ c.msb ≠ b.msb := by
    rw [BitVec.msb_xor, hmsb]; cases c.msb <;> cases b.msb <;> decide
  simp only [crcStep, crcBit, hbit, BitVec.shiftLeft_xor_distrib, hshift]
  split
  · rw [BitVec.xor_assoc, BitVec.xor_comm _ 0x1021#16, ← BitVec.xor_assoc]
  · rfl

/-- The first `k` bits of a byte enter one by one. -/
theorem crcShift_eq_foldl (b : Byte) (k : Nat) : ∀ (j : Nat) (c : BitVec 16),
    crcShift k (c ^^^ ((b <<< j).zeroExtend 16 <<< 8)) =
      (List.range' j k).foldl (fun c i => crcBit c (b.getMsbD i)) c ^^^ ((b <<< (j + k)).zeroExtend 16 <<< 8) := by
  induction k with
  | zero => intro j c; rfl
  | succ k ih =>
    intro j c
    have hfront : (b <<< j).msb = b.getMsbD j := by simp [BitVec.msb]
    rw [crcShift_succ, crcStep_xor, hfront, ← BitVec.shiftLeft_add, ih (j + 1), List.range'_succ, List.foldl_cons,
      Nat.add_right_comm j 1 k, Nat.add_assoc j k 1]

theorem crcByte_eq_foldl (c : BitVec 16) (b : Byte) :
    crcByte c b = (List.range 8).foldl (fun c i => crcBit c (b.getMsbD i)) c := by
  have hgone : (b <<< 8).zeroExtend 16 <<< 8 = 0#16 := by simp [BitVec.shiftLeft_eq_zero]
  have h := crcShift_eq_foldl b 8 0 c
  rwa [BitVec.shiftLeft_zero, Nat.zero_add, hgone, BitVec.xor_zero, ← List.range_eq_range'] at h

theorem crcBytes_eq (l : List Byte) : crcBytes l = [(crc16 l).extractLsb' 8 8, (crc16 l).extractLsb' 0 8] := by
  rw [crcBytes, bytes_two, List.cons.injEq, List.cons.injEq]
  refine ⟨BitVec.eq_of_toNat_eq ?_, BitVec.eq_of_toNat_eq ?_, rfl⟩ <;> simp [Nat.shiftRight_eq_div_pow]

theorem crcBytes_length (l : List Byte) : (crcBytes l).length = 2 := by simp [crcBytes_eq]

/-- Two bytes read back as the length they were written from. -/
theorem bigEndian_two (n : Nat) (h : n < 65536) : bigEndian [BitVec.ofNat 8 (n / 256), BitVec.ofNat 8 n] = n := by
  simp [bigEndian]
  omega

/-- The two bytes of a length are the ones it is written in. -/
theorem ofNat_bigEndian (a b : Byte) :
    BitVec.ofNat 8 (bigEndian [a, b] / 256) = a ∧ BitVec.ofNat 8 (bigEndian [a, b]) = b := by
  have ha := a.isLt
  have hb := b.isLt
  constructor <;> apply BitVec.eq_of_toNat_eq <;> simp [bigEndian] <;> omega

/-- What the three checks say (R177). -/
theorem frameOk_checks (received : List Byte) : frameOk received = true ↔
    5 ≤ received.length ∧ bigEndian (received.take 2) ≤ 1024 ∧ received.length = 5 + bigEndian (received.take 2) ∧
      received.drop (3 + bigEndian (received.take 2)) = crcBytes (received.take (3 + bigEndian (received.take 2))) := by
  simp [frameOk, Config.largestBody, and_assoc]

/-- The bytes that pass the three checks are the frames (R177). -/
theorem frameOk_iff (received : List Byte) : frameOk received = true ↔
    ∃ (code : Byte) (body front : List Byte), body.length ≤ 1024 ∧
      front = [BitVec.ofNat 8 (body.length / 256), BitVec.ofNat 8 body.length, code] ++ body ∧
      received = front ++ crcBytes front ∧ frameCode received = code ∧ frameBody received = body := by
  rw [frameOk_checks]
  constructor
  · rintro ⟨hmin, hmax, hlen, hword⟩
    obtain ⟨hi, lo, code, rest, rfl⟩ : ∃ hi lo code rest, received = hi :: lo :: code :: rest := by
      match received, hmin with
      | hi :: lo :: code :: rest, _ => exact ⟨hi, lo, code, rest, rfl⟩
    have htake : (hi :: lo :: code :: rest).take 2 = [hi, lo] := rfl
    rw [htake] at hmax hlen hword
    obtain ⟨hhi, hlo⟩ := ofNat_bigEndian hi lo
    generalize hn : bigEndian [hi, lo] = n at hmax hlen hword hhi hlo
    simp only [List.length_cons] at hlen
    have hbody : (rest.take n).length = n := by rw [List.length_take]; omega
    refine ⟨code, rest.take n, hi :: lo :: code :: rest.take n, by omega, by rw [hbody, hhi, hlo]; rfl, ?_, rfl, ?_⟩
    · rw [Nat.add_comm] at hword
      rw [← List.take_append_drop (n + 3) (hi :: lo :: code :: rest), hword]
      rfl
    · simp [frameBody, hn]
  · rintro ⟨code, body, front, hmax, rfl, rfl, -, -⟩
    have hn := bigEndian_two body.length (by omega)
    generalize BitVec.ofNat 8 (body.length / 256) = hi at hn ⊢
    generalize BitVec.ofNat 8 body.length = lo at hn ⊢
    have hfront : ([hi, lo, code] ++ body).length = 3 + body.length := by simp; omega
    have htake : (([hi, lo, code] ++ body) ++ crcBytes ([hi, lo, code] ++ body)).take 2 = [hi, lo] := rfl
    rw [htake, hn, List.length_append, crcBytes_length, hfront, ← hfront, List.drop_left, List.take_left]
    exact ⟨by omega, hmax, by omega, rfl⟩

/-- Settles O9. -/
theorem framesCarryTheCheckWord : Obligations.FramesCarryTheCheckWord := by
  refine ⟨⟨rfl, fun l b => ?crc⟩, crcBytes_eq, frameOk_iff, fun a front hfront => ⟨?frame, fun n => ?transaction⟩⟩
  case crc => rw [crc16_append]; exact crcByte_eq_foldl _ b
  case frame =>
    subst hfront
    simp only [Answer.frame, bytes_two]
    rfl
  case transaction =>
    simp [Answer.transaction, List.take_append, List.take_replicate]

end Sys2Proof.Machine
end

section
/-! The port's own requests (O5, O7), what it turns away (O8) and its outputs (O10). -/

namespace Sys2Proof.Machine

/-! ### One mark -/

theorem RecordKind.holds_iff (k : RecordKind) (i : Nat) : k.holds i = true ↔ 1 ≤ i ∧ i ≤ k.count := by
  simp [RecordKind.holds]

/-- A write of one mark leaves every other mark. -/
theorem Marks.get_set_ne (m : Marks) (k k' : RecordKind) (i i' : Nat) (v : Bool) (h : k.holds i = true)
    (h' : k'.holds i' = true) (hne : (k', i') ≠ (k, i)) : (m.set k i v).get k' i' = m.get k' i' := by
  rw [RecordKind.holds_iff] at h h'
  by_cases hk : k' = k
  · subst hk
    have hi : i ≠ i' := fun e => hne (by rw [e])
    cases k' with
    | seat | floor | queue | booking | display => exact congrArg (fun x => x.getD false) (nth_upd_ne _ i i' _ hi)
    | _ =>
      simp only [RecordKind.count] at h h'
      omega
  · cases k <;> cases k' <;> simp only [Marks.set, Marks.get, not_true_eq_false] at hk ⊢

/-! ### READ -/

/-- READ dispatched with what its body spells. -/
theorem exec_read (s : State) (body : List Byte) :
    exec (.read body) s = s.become (s.part.portRequest 0x02 (parseRead body) readOwner) := rfl

theorem readOwner_other (p : Part) (k : RecordKind) (i page : Nat) (hb : k ≠ .booking) (h : k.holds i = true) :
    readOwner { kind := k, index := i, page := page } p = (p.clearMark k i).doneWith (p.imageOfRecord k i) := by
  simp [readOwner, hb, h]

theorem readOwner_outside (p : Part) (k : RecordKind) (i page : Nat) (hb : k ≠ .booking) (h : k.holds i = false) :
    readOwner { kind := k, index := i, page := page } p = p.refuse .badValue := by
  simp [readOwner, hb, h]

theorem readOwner_booking (p : Part) (h page slot : Nat) (b : Booking) (h1 : 1 ≤ h) (hp : page ≤ 3)
    (hslot : p.slotOf h = some slot) (hb : p.slotAt slot = some b) :
    readOwner { kind := .booking, index := h, page := page } p =
      (if page ≤ 1 then p.clearMark .booking slot else p).doneWith (bookingImage slot (max page 1) b) := by
  have hfits : ¬ (3 < page ∨ h = 0) := by omega
  have hof : p.bookingOf h = some b := by simp [Part.bookingOf, hslot, hb]
  simp [readOwner, Part.readBooking, hfits, hslot, hof]

theorem readOwner_unheld (p : Part) (h page : Nat) (h1 : 1 ≤ h) (hp : page ≤ 3) (hslot : p.slotOf h = none) :
    readOwner { kind := .booking, index := h, page := page } p = p.refuse .noRecord := by
  have hfits : ¬ (3 < page ∨ h = 0) := by omega
  simp [readOwner, Part.readBooking, hfits, hslot]

/-- Settles O5. -/
theorem readAnswersTheImage : Obligations.ReadAnswersTheImage := by
  refine ⟨fun s code i k hr hcode hi hk hb => ⟨fun hin => ⟨?read, ?others⟩, fun hout => ?outside⟩,
    fun s h page slot b hr h1 hh hp hslot hb => ?booking, fun s h page hr h1 hh hp hslot => ?unheld⟩
  case read =>
    rw [exec_read, parseRead_other code i k hcode hi hk hb, s.part.portRequest_some _ _ _ hr, readOwner_other _ k i 0 hb hin]
    rfl
  case others => exact fun k' i' hin' hne => s.part.marks.get_set_ne k k' i i' false hin hin' hne
  case outside =>
    have hx := exec_read s (byte code ++ bytes 2 i)
    rw [parseRead_other code i k hcode hi hk hb] at hx
    have ho := readOwner_outside s.part k i 0 hb hout
    have := answers_of_portReply _ s 0x02 _ readOwner hx hr (by rw [ho]; rfl)
    rwa [ho] at this
  case booking =>
    rw [exec_read, List.append_assoc, parseRead_booking h page hh (by omega), s.part.portRequest_some _ _ _ hr,
      readOwner_booking _ h page slot b h1 hp hslot hb]
    by_cases hpage : page ≤ 1 <;> simp only [hpage, if_true, if_false] <;> rfl
  case unheld =>
    have hx := exec_read s (byte 4 ++ bytes 2 h ++ byte page)
    rw [List.append_assoc, parseRead_booking h page hh (by omega)] at hx
    have ho := readOwner_unheld s.part h page h1 hp hslot
    have := answers_of_portReply _ s 0x02 _ readOwner hx hr (by rw [ho]; rfl)
    rw [ho] at this
    rwa [List.append_assoc]

/-! ### FIND_CHANGED -/

/-- A mark that FIND_CHANGED stops at (R185). -/
def Part.findable (p : Part) (k : RecordKind) (i : Nat) : Prop :=
  p.marks.get k i = true ∧ (k = .booking → (p.slotAt i).isSome = true)

theorem Part.findable_iff (p : Part) (k : RecordKind) (start i : Nat) :
    (decide (start ≤ i) && p.marks.get k i && (decide (k ≠ .booking) || (p.slotAt i).isSome)) = true ↔
      start ≤ i ∧ p.findable k i := by
  by_cases hk : k = .booking <;> simp [Part.findable, hk, and_assoc]

theorem Part.findMark_eq_some (p : Part) (k : RecordKind) (start j : Nat) (hj : start ≤ j) (hin : k.holds j = true)
    (hfound : p.findable k j) (hfirst : ∀ m, start ≤ m → m < j → k.holds m = true → ¬ p.findable k m) :
    p.findMark k start = some j := by
  rw [RecordKind.holds_iff] at hin
  rw [Part.findMark, List.find?_range'_eq_some]
  refine ⟨(p.findable_iff k start j).2 ⟨hj, hfound⟩, by rw [List.mem_range'_1]; omega, fun m hm hlt => ?_⟩
  rw [Bool.not_eq_true', ← Bool.not_eq_true, p.findable_iff]
  exact fun ⟨hstart, hm'⟩ => hfirst m hstart hlt (by rw [RecordKind.holds_iff]; omega) hm'

theorem Part.findMark_eq_none (p : Part) (k : RecordKind) (start : Nat)
    (hnone : ∀ m, start ≤ m → k.holds m = true → ¬ p.findable k m) : p.findMark k start = none := by
  rw [Part.findMark, List.find?_eq_none]
  intro m hm
  rw [p.findable_iff]
  rw [List.mem_range'_1] at hm
  exact fun ⟨hstart, hm'⟩ => hnone m hstart (by rw [RecordKind.holds_iff]; omega) hm'

/-- A mark that belongs to a slot with no record is not found. -/
theorem Part.not_findable (p : Part) (k : RecordKind) (m : Nat)
    (h : p.marks.get k m = true → k = .booking ∧ p.slotAt m = none) : ¬ p.findable k m := by
  rintro ⟨hmark, hslot⟩
  obtain ⟨hk, hnone⟩ := h hmark
  simp [hnone] at hslot
  exact hslot hk

theorem exec_findChanged (s : State) (code i : Nat) (k : RecordKind) (hcode : code < 256) (hi : i < 256)
    (hk : kindOf code = some k) :
    exec (.findChanged (byte code ++ byte i)) s = s.become (s.part.portRequest 0x03 (some (k, i)) findOwner) := by
  rw [← parseFind_eq code i k hcode hi hk]; rfl

theorem findOwner_found (p : Part) (k : RecordKind) (i j : Nat) (hin : k.holds i = true) (h : p.findMark k i = some j) :
    findOwner (k, i) p = p.doneWith (p.foundBody k j) := by
  simp [findOwner, hin, h]

theorem findOwner_none (p : Part) (k : RecordKind) (i : Nat) (hin : k.holds i = true) (h : p.findMark k i = none) :
    findOwner (k, i) p = p.refuse .noRecord := by
  simp [findOwner, hin, h]

/-! ### Notice sets -/

/-- A notice set sent as two bytes reads back. -/
theorem readSet_bytes (n : NoticeSet) (l : List Byte) : readSet (bytes 2 n.toNat ++ l) = some (n, l) := by
  have hn := n.isLt
  rw [readSet_eq _ (by omega), if_pos (by omega), BitVec.ofNat_toNat, BitVec.setWidth_eq]

theorem parseClear_bytes (n : NoticeSet) : parseClear (bytes 2 n.toNat) = some n := by
  have h := readSet_bytes n []
  rw [List.append_nil] at h
  simp [parseClear, h, whole]

theorem parseClear_beyond (v : Nat) (h : 512 ≤ v) (hv : v < 65536) : parseClear (bytes 2 v) = none := by
  have hx := readSet_eq v hv []
  rw [List.append_nil, if_neg (by omega)] at hx
  simp [parseClear, hx, whole]

theorem parseEnables_bytes (a b : NoticeSet) : parseEnables (bytes 2 a.toNat ++ bytes 2 b.toNat) = some (a, b) := by
  have h := readSet_bytes b []
  rw [List.append_nil] at h
  simp [parseEnables, readSet_bytes a, h, whole]

theorem parseEnables_beyond (v w : Nat) (hv : v < 65536) (hw : w < 65536) (h : 512 ≤ v ∨ 512 ≤ w) :
    parseEnables (bytes 2 v ++ bytes 2 w) = none := by
  have hx := readSet_eq w hw []
  rw [List.append_nil] at hx
  by_cases hlow : v < 512
  · rw [if_neg (by omega)] at hx
    simp [parseEnables, readSet_eq v hv, hlow, hx, whole]
  · simp [parseEnables, readSet_eq v hv, hlow, whole]

/-- A body that a request of the port's own cannot read is answered BAD_VALUE. -/
theorem answers_of_portNone {α : Type} (c : Instr) (s : State) (code : Byte) (owner : α → Part → Reply)
    (hx : exec c s = s.become (s.part.portRequest code none owner)) (hr : s.runs) : Answers c s code .badValue [] := by
  have hr' : s.part.power = .running := hr
  rw [Answers, hx]
  simp [Part.portRequest, hr', Part.setAnswer]

/-- Settles O7. -/
theorem marksAndNoticesRequests : Obligations.MarksAndNoticesRequests := by
  refine ⟨fun s code i k hr hcode hi hk hin => ⟨fun j hj hjin hmark hslot hfirst => ?found, fun hnone => ?none⟩,
    fun s hr => ⟨fun named => ?clear, fun v hv hv' => ?clearBeyond⟩,
    fun s hr => ⟨fun enables signals => ?enables, fun v w hv hw hbeyond => ?enablesBeyond⟩⟩
  case found =>
    have ho := findOwner_found s.part k i j hin (s.part.findMark_eq_some k i j hj hjin ⟨hmark, hslot⟩
      (fun m hm hlt hmin => s.part.not_findable k m (hfirst m hm hlt hmin)))
    have h := answers_of_portReply _ s 0x03 _ findOwner (exec_findChanged s code i k hcode hi hk) hr (by rw [ho]; rfl)
    rwa [ho] at h
  case none =>
    have ho := findOwner_none s.part k i hin (s.part.findMark_eq_none k i
      (fun m hm hmin => s.part.not_findable k m (hnone m hm hmin)))
    have h := answers_of_portReply _ s 0x03 _ findOwner (exec_findChanged s code i k hcode hi hk) hr (by rw [ho]; rfl)
    rwa [ho] at h
  case clear =>
    rw [exec, execClearNotices, parseClear_bytes, s.part.portRequest_some _ _ _ hr]; rfl
  case clearBeyond =>
    exact answers_of_portNone _ s 0x04 clearOwner (by rw [exec, execClearNotices, parseClear_beyond v hv hv']) hr
  case enables =>
    rw [exec, execSetNoticeEnables, parseEnables_bytes, s.part.portRequest_some _ _ _ hr]; rfl
  case enablesBeyond =>
    exact answers_of_portNone _ s 0x05 enablesOwner
      (by rw [exec, execSetNoticeEnables, parseEnables_beyond v w hv hw hbeyond]) hr

/-! ### Writes that are turned away -/

/-- A code outside the catalogue is dispatched to no owner (R180, R197). -/
theorem Part.byCode_unknown (p : Part) (code : Byte) (body : List Byte) (h : code.toNat ∉ catalogueCodes) :
    p.byCode code body = p.unknownCode code := by
  unfold Part.byCode
  generalize code.toNat = n at h
  split <;> first | rfl | exact absurd (by decide) h

theorem Part.writeIgnored_running (p : Part) (h : p.power = .running) : p.writeIgnored = p.raise .port := by
  simp [Part.writeIgnored, h]

/-- Settles O8. -/
theorem portTurnsWritesAway : Obligations.PortTurnsWritesAway := by
  intro s hr
  have hr' : s.part.power = .running := hr
  refine ⟨fun received hbad => ?badFrame, fun code body hcode => ?unknown, ?busy, fun marker h5A hA5 => ?marker⟩
  case badFrame =>
    rw [exec, execBadFrame, if_neg (by rw [hbad]; decide), Part.badFrame, if_pos hr']
    rfl
  case unknown =>
    rw [Answers, exec, execUnknownRequest, s.part.byCode_unknown code body hcode, Part.unknownCode, if_pos hr']
    rfl
  case busy => rw [exec, execWriteWhileBusy, s.part.writeIgnored_running hr]; rfl
  case marker =>
    rw [exec, execUnknownMarker, if_neg (not_or.2 ⟨h5A, hA5⟩), s.part.writeIgnored_running hr]
    rfl

/-! ### The outputs -/

theorem and_ne_zero_iff (a b : NoticeSet) :
    a &&& b ≠ 0 ↔ ∃ k, k < 9 ∧ a.getLsbD k = true ∧ b.getLsbD k = true := by
  constructor
  · intro h
    by_contra hnone
    refine h (BitVec.eq_of_getLsbD_eq fun k hk => ?_)
    simp only [not_exists, not_and] at hnone
    by_cases ha : a.getLsbD k = true
    · simp [hnone k hk ha]
    · simp [ha]
  · rintro ⟨k, -, ha, hb⟩ h
    have hk : (a &&& b).getLsbD k = false := by rw [h]; simp
    simp [ha, hb] at hk

/-- The ATTN output (R186). -/
theorem Part.attn_iff (p : Part) : p.attn = true ↔
    p.power = .running ∧ ∃ k, k < 9 ∧ p.notices.flags.getLsbD k = true ∧ p.notices.signals.getLsbD k = true := by
  rw [← and_ne_zero_iff]
  simp [Part.attn, Notices.signal]

theorem State.rdy_iff (s : State) : s.rdy = true ↔ s.runs ∧ s.inHand = none := by
  simp [State.rdy, State.runs]

theorem beginsAnew_iff (c : Instr) : beginsAnew c = true ↔ c = .powerOn ∨ c = .resetPinRise := by
  cases c <;> simp [beginsAnew]

/-- A command by which a part starts is no request (R190). -/
theorem beginsAnew_of_request (c : Instr) (code : Byte) (h : requestCode c = some code) : beginsAnew c = false := by
  rw [← Bool.not_eq_true, beginsAnew_iff]
  rintro (rfl | rfl) <;> cases h

/-- Behind commands that are no request and start nothing, the request in hand is looked for in the rest. -/
theorem State.inHand_append (s : State) (front rest : List Instr) (hr : s.part.power = .running)
    (hp : s.pending = front ++ rest) (hf : ∀ x ∈ front, requestCode x = none ∧ beginsAnew x = false) :
    s.inHand = (rest.takeWhile (fun c => !beginsAnew c)).findSome? requestCode := by
  have hfront : front.findSome? requestCode = none := List.findSome?_eq_none_iff.2 fun x hx => (hf x hx).1
  rw [State.inHand, if_pos hr, hp, List.takeWhile_append_of_pos (by intro x hx; simp [(hf x hx).2]),
    List.findSome?_append, hfront, Option.none_or]

theorem State.inHand_of_noRequest (s : State) (h : ∀ c ∈ s.pending, requestCode c = none) : s.inHand = none := by
  rw [State.inHand]
  split
  · exact List.findSome?_eq_none_iff.2 fun x hx => h x (List.takeWhile_prefix _ |>.subset hx)
  · rfl

/-- The part after RESET has fallen, or the supply is lost, does not run. -/
theorem not_running_of_stop (s : State) (c : Instr) (hc : c = .resetPinFall ∨ c = .powerLoss) :
    ∃ t, exec c s = .next t ∧ t.pending = s.pending ∧ t.part.answer = s.part.answer ∧
      (s.runs ∨ c = .powerLoss → t.part.power ≠ .running) := by
  rcases hc with rfl | rfl
  · refine ⟨_, rfl, rfl, ?_, ?_⟩
    · cases h : s.part.power <;> simp [Part.pinFalls, h]
    · rintro (hr | h)
      · have hr' : s.part.power = .running := hr
        simp [Part.pinFalls, hr']
      · cases h
  · refine ⟨_, rfl, rfl, rfl, fun _ => ?_⟩
    change (if s.part.power.lowReset then Power.offResetLow else Power.off) ≠ .running
    split <;> decide

theorem Part.portAnswer_stopped (p : Part) (c : Option Byte) (h : p.power ≠ .running) : p.portAnswer c = busyImage 0 := by
  simp [Part.portAnswer, h]

/-- Settles O10: the outputs are functions of the power, the notices and the queue's first request. -/
theorem portOutputsFollowTheState : Obligations.PortOutputsFollowTheState := by
  intro s
  refine ⟨s.rdy_iff, s.part.attn_iff, fun n => rfl, fun hstop => ⟨s.inHand_stopped hstop, fun n => ?stopped⟩,
    fun hr => ⟨s.inHand_of_noRequest, fun front c rest hp hf => ?inHand, fun hnone n => ?buffer, fun code hin n => ?busy⟩,
    fun c hc => ?stop⟩
  case stopped =>
    rw [State.readTransaction, s.part.portAnswer_stopped _ hstop]; rfl
  case inHand =>
    have hx := s.inHand_append front (c :: rest) hr hp (fun x hx => ⟨(hf x hx).1, by
      rw [← Bool.not_eq_true, beginsAnew_iff]; exact not_or.2 (hf x hx).2⟩)
    refine ⟨fun code hcode => ?_, fun hnew => ?_⟩
    · rw [hx, List.takeWhile_cons, if_pos (by rw [beginsAnew_of_request c code hcode]; rfl), List.findSome?_cons, hcode]
    · rw [hx, List.takeWhile_cons, if_neg (by rw [(beginsAnew_iff c).2 hnew]; decide)]; rfl
  case buffer => rw [State.readTransaction, hnone, Part.portAnswer, if_pos (show s.part.power = .running from hr)]
  case busy => rw [State.readTransaction, hin, Part.portAnswer, if_pos (show s.part.power = .running from hr)]; rfl
  case stop =>
    obtain ⟨t, hx, hp, ha, hstop⟩ := not_running_of_stop s c hc
    refine ⟨t, hx, hp, ha, fun h => ?_⟩
    have hpow := hstop h
    exact ⟨by simp [State.rdy, hpow], by simp [Part.attn, hpow], t.inHand_stopped hpow⟩

end Sys2Proof.Machine
end

section
/-! RESET TABLE at every block (O11, O12), and the starts (O13). -/

namespace Sys2Proof.Machine

/-! ### RESET TABLE -/

/-- RESET with scope TABLE, dispatched (R189). -/
theorem exec_resetTable_table (s : State) (hr : s.runs) :
    exec (.resetTable [1]) s = .next { s with part := s.part.tableReset.setAnswer 0x08 .done [] } := by
  have hr' : s.part.power = .running := hr
  simp [exec, execResetTable, Part.resetRequest, hr', parseReset, Part.resetBy]

/-- The part that RESET TABLE leaves is this one. -/
theorem part_of_resetTable (s : State) (p : Part) (hr : s.runs) (hx : exec (.resetTable [1]) s = .next { s with part := p }) :
    p = s.part.tableReset.setAnswer 0x08 .done [] := by
  rw [exec_resetTable_table s hr] at hx
  injection hx with hx
  injection hx with hx
  exact hx.symm

theorem nth_replicate_of_le {α : Type} (n i : Nat) (a : α) (h1 : 1 ≤ i) (hn : i ≤ n) : nth (List.replicate n a) i = some a := by
  obtain ⟨k, rfl⟩ : ∃ k, i = k + 1 := ⟨i - 1, by omega⟩
  simp [nth, List.getElem?_replicate]
  omega

theorem nth_map {α β : Type} (f : α → β) (l : List α) (i : Nat) : nth (l.map f) i = (nth l i).map f := by
  cases i with
  | zero => rfl
  | succ k => simp [nth]

/-- Where every mark that exists is set, the mark of every record reads yes; a booking's where its slot holds a record
(R184). -/
theorem allMarks_true_get (bookings : List Bool) (k : RecordKind) (i : Nat) (h : k.holds i = true)
    (hb : k = .booking → (nth bookings i).getD false = true) : (allMarks true bookings).get k i = true := by
  rw [RecordKind.holds_iff] at h
  cases k with
  | booking => exact hb rfl
  | seat | floor | queue | display => exact congrArg (fun x => x.getD false) (nth_replicate_of_le _ i true h.1 h.2)
  | _ => rfl

theorem Part.tableReset_marks (p : Part) (k : RecordKind) (i : Nat) (h : k.holds i = true)
    (hb : k = .booking → (p.slotAt i).isSome = true) : p.tableReset.marks.get k i = true := by
  refine allMarks_true_get _ k i h fun hk => ?_
  have hslot := hb hk
  rw [nth_map]
  rw [Part.slotAt] at hslot
  cases hn : nth p.slots i with
  | none => simp [hn] at hslot
  | some b => simpa [hn] using hslot

theorem Part.tableReset_configs (p : Part) :
    p.tableReset.displays.map (fun d => d.config) = p.displays.map (fun d => d.config) := by
  have hreset : p.cleared.displays = p.displays.map Display.reset := rfl
  have hrecomputed : ∀ d, (p.cleared.recomputed d).config = d.config := fun d =>
    congrArg DisplayCore.config (p.cleared.recomputed_core d)
  simp only [Part.tableReset, hreset]
  rw [map_map_of_keeps (fun d : Display => d.config) _ _ hrecomputed,
    map_map_of_keeps (fun d : Display => d.config) Display.reset _ (fun d => rfl)]

theorem PowerControl.reset_idleMark (c : PowerControl) (now : Nat) : (c.reset now).idleMark = now := by
  unfold PowerControl.reset
  split <;> rfl

/-- Settles O11. -/
theorem resetTableClearsTheTable : Obligations.ResetTableClearsTheTable := by
  intro s hr
  refine ⟨_, exec_resetTable_table s hr, rfl, rfl, rfl, rfl, rfl, rfl, fun k i h hb _ => s.part.tableReset_marks k i h hb,
    rfl, rfl, rfl, rfl, rfl, ?partitions, s.part.tableReset_configs, rfl, ?idle⟩
  case partitions => exact map_map_of_keeps (fun x : Partition => x.state) _ _ (fun x => rfl)
  case idle => exact s.part.control.reset_idleMark s.part.now

/-! ### The bookings, the engines and the power controller -/

theorem Part.tableReset_slotAt (p : Part) (k : Nat) : p.tableReset.slotAt k = (p.slotAt k).map Booking.cut := by
  change (nth (p.slots.map (fun b => b.map Booking.cut)) k).getD none = _
  rw [nth_map, Part.slotAt]
  cases nth p.slots k <;> rfl

/-- RESET TABLE at a booking record by its state (R46). -/
theorem Booking.cut_eq (b : Booking) :
    b.cut = if b.state = .pending ∨ b.state = .ended then b else b.finish .cutByReset := by
  unfold Booking.cut
  cases h : b.state <;> simp

theorem Engine.reset_walks (e : Engine) :
    e.reset.state = .walking ∧ e.reset.urgent = [] ∧ e.reset.scope = .full ∧
      (e.line = none → e.reset.walk.map (fun w => w.phase) = some .lineBreak ∧ e.reset.unitsFound = 0 ∧
        e.reset.line = none) := by
  by_cases h : e.line = none
  · simp [Engine.reset, h, Engine.beginWalk, walkInBreak]
  · simp [Engine.reset, h]

theorem Part.tableReset_engine (p : Part) (seg : Segment) : p.tableReset.engine seg = (p.engine seg).reset := by
  cases seg <;> rfl

theorem PowerControl.reset_of_light (c : PowerControl) (now : Nat) (h : c.tableState = .awake ∨ c.tableState = .waking) :
    (c.reset now).tableState = c.tableState ∧ (c.reset now).lastWakeCause = c.lastWakeCause := by
  have hd : c.tableState.dark = false := by rcases h with h | h <;> rw [h] <;> rfl
  simp [PowerControl.reset, hd]

theorem PowerControl.reset_of_dark (c : PowerControl) (now : Nat)
    (h : c.tableState = .enteringStandby ∨ c.tableState = .standby) :
    (c.reset now).tableState = .waking ∧ (c.reset now).lastWakeCause = .reset := by
  have hd : c.tableState.dark = true := by rcases h with h | h <;> rw [h] <;> rfl
  simp [PowerControl.reset, hd]

/-- Settles O12: at the bookings by state, at the engines whether or not the line is free, at the power controller whether or
not the table is dark. -/
theorem resetTableCutsBookingsAndWalks : Obligations.ResetTableCutsBookingsAndWalks := by
  refine ⟨fun s p hr hx k => ?bookings, fun s p hr hx => ?rest⟩ <;> obtain rfl := part_of_resetTable s p hr hx
  case bookings =>
    have hk := s.part.tableReset_slotAt k
    cases hb : s.part.slotAt k with
    | none => rw [hb] at hk; exact hk
    | some b =>
      rw [hb, Option.map_some, b.cut_eq] at hk
      dsimp only
      split
      · next h => rw [if_pos h] at hk; exact hk
      · next h => rw [if_neg h] at hk; exact hk
  case rest =>
    refine ⟨fun seg => ?_, s.part.control.reset_of_light s.part.now, s.part.control.reset_of_dark s.part.now⟩
    rw [Part.setAnswer_engine, Part.tableReset_engine]
    exact (s.part.engine seg).reset_walks

/-! ### The starts -/

theorem parseReset_other (body : List Byte) (h1 : body ≠ [1]) (h2 : body ≠ [2]) : parseReset body = none := by
  unfold parseReset
  split
  · exact absurd rfl h1
  · exact absurd rfl h2
  · rfl

/-- A RESET of a scope that the catalogue does not have (R189). -/
theorem Part.resetRequest_other (p : Part) (body : List Byte) (hr : p.power = .running) (h1 : body ≠ [1]) (h2 : body ≠ [2]) :
    p.resetRequest body = p.setAnswer 0x08 .badValue [] := by
  simp [Part.resetRequest, hr, parseReset_other body h1 h2]

theorem Part.resetRequest_all (p : Part) (hr : p.power = .running) : p.resetRequest [2] = p.resetAll := by
  simp [Part.resetRequest, hr, parseReset, Part.resetBy]

theorem Store.cutShort_image (t : Store) : t.cutShort.image = if t.copy.isSome then none else t.image := by
  unfold Store.cutShort
  split <;> rfl

/-- The supply comes up with RESET high: a start (R190). -/
theorem Part.powerUp_high (p : Part) (h : p.power = .off ∨ p.power = .running) :
    p.powerUp = Part.started .powerOn p.store.cutShort.image 0 := by
  have hl : p.power.lowReset = false := by rcases h with h | h <;> rw [h] <;> rfl
  simp [Part.powerUp, hl]

/-- The supply comes up with RESET low: the part waits for its rise (R190). -/
theorem Part.powerUp_low (p : Part) (h : p.power = .offResetLow ∨ p.power = .resetLow) :
    p.powerUp = { p with power := .resetLow, now := 0, store := p.store.cutShort } := by
  have hl : p.power.lowReset = true := by rcases h with h | h <;> rw [h] <;> rfl
  simp [Part.powerUp, hl]

/-- What a start loads and answers (R179, R190, R191, R196). -/
theorem Part.started_loads (cause : StartCause) (image : Option Settings) :
    loadedSource image = (if image.isSome then .stored else .factory) ∧
      [cause.code, (loadedSource image).code] = [cause.code, if image.isSome then 1 else 2] := by
  cases image <;> exact ⟨rfl, rfl⟩

/-- Settles O13. -/
theorem startsLoadTheStoredImage : Obligations.StartsLoadTheStoredImage := by
  refine ⟨fun s => ⟨fun hr hidle => ?all, fun hr hstoring => ?busy, fun hlow => ?rise, fun hp image himage => ?up,
    fun hp => ?upLow⟩, fun s body hr h1 h2 => ?other, fun cause image now => ?start⟩
  case all => rw [exec, execResetAll, s.part.resetRequest_all hr, Part.resetAll, hidle]; rfl
  case busy => rw [Answers, exec, execResetAll, s.part.resetRequest_all hr, Part.resetAll, if_pos hstoring]; rfl
  case rise => simp [exec, execResetPinRise, Part.pinRises, hlow]
  case up => rw [exec, execPowerOn, s.part.powerUp_high hp, Store.cutShort_image, ← himage]; rfl
  case upLow =>
    refine ⟨s.part.powerUp, rfl, ?_⟩
    rw [s.part.powerUp_low hp]
    exact ⟨rfl, rfl, rfl, s.part.store.cutShort_image⟩
  case other =>
    rw [Answers, Answers, exec, exec, execResetTable, execResetAll, s.part.resetRequest_other body hr h1 h2]
    exact ⟨rfl, rfl⟩
  case start =>
    obtain ⟨hsource, hbody⟩ := Part.started_loads cause image
    refine ⟨rfl, hsource, rfl, rfl, rfl, rfl, ?_, rfl, fun k i => allMarks_false_get 48 k i, fun n => ?_, fun k => ?_, rfl, rfl⟩
    · rw [← hbody]; rfl
    · rw [Part.seatAt, show (Part.started cause image now).seats = List.replicate 96 startSeat from rfl,
        nth_replicate_getD]
      rfl
    · exact nth_replicate_getD 48 k none

end Sys2Proof.Machine
end

section
/-! How tasks run: a run of tasks taken piece by piece, and the time events of a table in which one booking alone moves. -/

namespace Sys2Proof.Machine

/-! ### Runs of tasks -/

/-- Run from a part with `P`, the tasks `ts` and all that they set off are `n` steps, and end in a part with `Q`. -/
def Runs (n : Nat) (ts : List Task) (P Q : Part → Prop) : Prop :=
  ∀ p, P p → ∀ k rest, ∃ q, runFuel (n + k) (ts ++ rest) p = runFuel k rest q ∧ Q q

theorem Runs.nil (P : Part → Prop) : Runs 0 [] P P :=
  fun p hp k rest => ⟨p, by rw [Nat.zero_add]; rfl, hp⟩

theorem Runs.append {m n : Nat} {ts us : List Task} {P Q R : Part → Prop} (h : Runs m ts P Q) (h' : Runs n us Q R) :
    Runs (m + n) (ts ++ us) P R := by
  intro p hp k rest
  obtain ⟨q, hq, hQ⟩ := h p hp (n + k) (us ++ rest)
  obtain ⟨r, hr, hR⟩ := h' q hQ k rest
  exact ⟨r, by rw [Nat.add_assoc, List.append_assoc, hq, hr], hR⟩

/-- One task, and then what it sets off. -/
theorem Runs.task {n : Nat} {t : Task} {ts : List Task} {P P' Q : Part → Prop}
    (ht : ∀ p, P p → ∃ q, p.doTask t = (q, ts) ∧ P' (p.follow q)) (h : Runs n ts P' Q) : Runs (n + 1) [t] P Q := by
  intro p hp k rest
  obtain ⟨p', hts, hp'⟩ := ht p hp
  obtain ⟨q, hq, hQ⟩ := h _ hp' k rest
  refine ⟨q, ?_, hQ⟩
  rw [Nat.add_right_comm, List.singleton_append, runFuel, hts, hq]

/-- One task that sets off nothing. -/
theorem Runs.single {t : Task} {P Q : Part → Prop} (ht : ∀ p, P p → ∃ q, p.doTask t = (q, []) ∧ Q (p.follow q)) :
    Runs 1 [t] P Q :=
  Runs.task ht (Runs.nil Q)

/-- Tasks that find nothing to do. -/
theorem Runs.idle {P : Part → Prop} (hf : ∀ p, P p → P (p.follow p)) (ts : List Task)
    (h : ∀ p, P p → ∀ t ∈ ts, p.doTask t = (p, [])) : Runs ts.length ts P P := by
  induction ts with
  | nil => exact Runs.nil P
  | cons t ts ih =>
    have ht : Runs 1 [t] P P := Runs.single fun p hp => ⟨p, h p hp t (by simp), hf p hp⟩
    have := ht.append (ih fun p hp t ht => h p hp t (by simp [ht]))
    rwa [Nat.add_comm, List.singleton_append] at this

theorem Runs.mono {n : Nat} {ts : List Task} {P P' Q Q' : Part → Prop} (h : Runs n ts P Q) (hP : ∀ p, P' p → P p)
    (hQ : ∀ p, Q p → Q' p) : Runs n ts P' Q' := by
  intro p hp k rest
  obtain ⟨q, hq, hQq⟩ := h p (hP p hp) k rest
  exact ⟨q, hq, hQ q hQq⟩

/-- The tasks of one event run to their end, since the fuel is more than their number. -/
theorem Runs.runTasks {n : Nat} {ts : List Task} {P Q : Part → Prop} (h : Runs n ts P Q) (hn : n ≤ taskFuel) (p : Part)
    (hp : P p) : Q (p.runTasks ts) := by
  obtain ⟨q, hq, hQ⟩ := h p hp (taskFuel - n) []
  have hend : ∀ k, runFuel k [] q = q := by intro k; cases k <;> rfl
  rw [List.append_nil, hend, Nat.add_sub_cancel' hn] at hq
  rw [Part.runTasks, hq]
  exact hQ

/-! ### A table in which one booking moves -/

/-- Slot `k` holds no booking but one with handle `h`; every other booking has another handle, and at minute `m` none of its
thresholds does anything (R26). -/
def Part.othersRest (p : Part) (k h m : Nat) : Prop :=
  ∀ j c, p.slotAt j = some c → (j = k → c.handle = h) ∧ (j ≠ k → c.handle ≠ h ∧ c.restsAt m)

theorem Part.othersRest_of_onlyOneMoves (p : Part) (k : Nat) (b : Booking) (m : Nat) (h : p.onlyOneMoves k b m) :
    p.othersRest k b.handle m := by
  obtain ⟨-, hb, hothers⟩ := h
  refine fun j c hc => ⟨fun hj => ?_, hothers j c hc⟩
  rw [hj, hb] at hc
  cases hc; rfl

theorem Part.slotAt_of_slots (p q : Part) (h : p.slots = q.slots) (k : Nat) : p.slotAt k = q.slotAt k := by
  rw [Part.slotAt, Part.slotAt, h]

theorem Part.slotOf_of_slots (p q : Part) (h : p.slots = q.slots) (n : Nat) : p.slotOf n = q.slotOf n := by
  simp only [Part.slotOf, p.slotAt_of_slots q h]

theorem Part.bookingOf_of_slots (p q : Part) (h : p.slots = q.slots) (n : Nat) : p.bookingOf n = q.bookingOf n := by
  simp only [Part.bookingOf, p.slotOf_of_slots q h]
  congr 1
  funext k
  exact p.slotAt_of_slots q h k

/-- A slot that holds a record is one of the 48. -/
theorem Part.slotAt_bounds (p : Part) (k : Nat) (b : Booking) (hl : p.slots.length = 48) (hb : p.slotAt k = some b) :
    1 ≤ k ∧ k ≤ 48 := by
  have h := p.slotAt_some k b hb
  cases k with
  | zero => cases h
  | succ j =>
    have hj : j < p.slots.length := (List.getElem?_eq_some_iff.1 h).1
    omega

/-- The slot of the handle of the one booking that moves. -/
theorem Part.slotOf_othersRest (p : Part) (k m : Nat) (b : Booking) (hl : p.slots.length = 48) (hb : p.slotAt k = some b)
    (h : p.othersRest k b.handle m) : p.slotOf b.handle = some k := by
  obtain ⟨h1, h48⟩ := p.slotAt_bounds k b hl hb
  rw [Part.slotOf, slotNumbers, List.find?_range'_eq_some]
  refine ⟨by simp [hb, hasHandle], by rw [List.mem_range'_1]; omega, fun j _ hj => ?_⟩
  cases hc : p.slotAt j with
  | none => rfl
  | some c =>
    have := ((h j c hc).2 (by omega)).1
    simp [hasHandle, this]

theorem upd_self {α : Type} (l : List α) (k : Nat) (a : α) (h : nth l k = some a) : upd l k (fun _ => a) = l := by
  rw [upd_congr l k (fun _ => a) id a h rfl]
  cases k with
  | zero => rfl
  | succ j => exact List.modify_id j l

/-- A write of what a record says already changes nothing. -/
theorem Part.updBooking_self (p : Part) (h : Nat) (g : Booking → Booking) (b : Booking) (hb : p.bookingOf h = some b)
    (hg : g b = b) : p.updBooking h g = p := by
  obtain ⟨k, hk, hs⟩ := p.bookingOf_some h b hb
  rw [p.updBooking_eq h k g b hk hs, hg, upd_self _ _ _ (p.slotAt_some k b hs)]

theorem Booking.startNoted_self (b : Booking) (h : b.startNoted = true) : { b with startNoted := true } = b := by
  cases b; cases h; rfl

theorem Booking.closeNoted_self (b : Booking) (h : b.closeNoted = true) : { b with closeNoted := true } = b := by
  cases b; cases h; rfl

/-! The tasks of one booking's time events, each of which finds nothing to do. -/

section

variable (p : Part) (h : Nat) (b : Booking)

theorem Part.takeOccStart_ahead (hb : p.bookingOf h = some b) (hrest : b.restsAt p.clock.minute) :
    p.takeOccStart h = (p, []) := by
  have hocc : ¬ (b.state = .pending ∧ b.occStart ≤ p.clock.minute) := by
    rintro ⟨hs, ho⟩
    simp only [Booking.restsAt, hs] at hrest
    rw [Booking.occStart] at ho
    omega
  simp [Part.takeOccStart, hb, hocc]

theorem Part.takeStart_rest (hb : p.bookingOf h = some b) (hrest : b.restsAt p.clock.minute) :
    p.takeStart h = (p, []) := by
  simp only [Part.takeStart, hb]
  by_cases hstart : b.startMinute ≤ p.clock.minute
  · rw [if_pos hstart]
    cases hs : b.state <;> simp only [Booking.restsAt, hs] at hrest ⊢
    case waiting | preparing =>
      rw [p.updBooking_self h _ b hb (b.startNoted_self (hrest.1.resolve_left (by omega)))]
    case ready => omega
  · rw [if_neg hstart]

theorem Part.takeEnd_rest (hb : p.bookingOf h = some b) (hrest : b.restsAt p.clock.minute) :
    p.takeEnd h = (p, []) := by
  simp only [Part.takeEnd, hb]
  by_cases hend : b.occEnd ≤ p.clock.minute
  · rw [if_pos hend]
    rw [Booking.occEnd] at hend
    cases hs : b.state <;> simp only [Booking.restsAt, hs] at hrest ⊢
    case pending | waiting | ready | live => omega
    case preparing => rw [p.updBooking_self h _ b hb (b.closeNoted_self (hrest.2.resolve_left (by omega)))]
  · rw [if_neg hend]

end

/-- The time events of a booking whose thresholds do nothing at this minute (R26, R27). -/
theorem Part.timeEvents_rest (p : Part) (h m : Nat) (hm : p.clock.minute = m)
    (hb : ∀ b, p.bookingOf h = some b → b.restsAt m) : ∀ t ∈ timeEvents h, p.doTask t = (p, []) := by
  subst hm
  intro t ht
  simp only [timeEvents, List.mem_cons, List.not_mem_nil, or_false] at ht
  cases hk : p.bookingOf h with
  | none => rcases ht with rfl | rfl | rfl <;> simp [Part.doTask, Part.takeOccStart, Part.takeStart, Part.takeEnd, hk]
  | some b =>
    rcases ht with rfl | rfl | rfl
    · exact p.takeOccStart_ahead h b hk (hb b hk)
    · exact p.takeStart_rest h b hk (hb b hk)
    · exact p.takeEnd_rest h b hk (hb b hk)

/-- The time events of the bookings of some slots, the moving one not among them. -/
theorem Part.timeEvents_others (p : Part) (k h m : Nat) (hm : p.clock.minute = m) (ho : p.othersRest k h m)
    (handles : List Nat) (hne : h ∉ handles) :
    ∀ t ∈ handles.flatMap timeEvents, p.doTask t = (p, []) := by
  intro t ht
  obtain ⟨i, hi, ht⟩ := List.mem_flatMap.1 ht
  refine p.timeEvents_rest i m hm (fun c hc => ?_) t ht
  obtain ⟨j, _, hj⟩ := p.bookingOf_some i c hc
  obtain ⟨hsame, hother⟩ := ho j c hj
  by_cases hjk : j = k
  · exact absurd (((p.bookingOf_handle i c hc).symm.trans (hsame hjk)) ▸ hi) hne
  · exact (hother hjk).2

/-- The handles of the table around the one booking that moves. -/
theorem Part.allTimeEvents_split (p : Part) (k m : Nat) (b : Booking) (hl : p.slots.length = 48) (hb : p.slotAt k = some b)
    (ho : p.othersRest k b.handle m) :
    ∃ before after : List Nat, p.allTimeEvents = before.flatMap timeEvents ++ (timeEvents b.handle ++ after.flatMap timeEvents) ∧
      b.handle ∉ before ∧ b.handle ∉ after ∧ before.length ≤ 48 ∧ after.length ≤ 48 := by
  obtain ⟨h1, h48⟩ := p.slotAt_bounds k b hl hb
  have hk : k ∈ slotNumbers := by rw [slotNumbers, List.mem_range'_1]; omega
  obtain ⟨low, high, hsplit⟩ := List.append_of_mem hk
  have hnodup : slotNumbers.Nodup := List.nodup_range'
  have hlen : (low ++ k :: high).length = 48 := by rw [← hsplit]; rfl
  rw [List.length_append, List.length_cons] at hlen
  rw [hsplit, List.nodup_append, List.nodup_cons] at hnodup
  obtain ⟨-, ⟨hhigh, -⟩, hlow⟩ := hnodup
  have hnot : ∀ l : List Nat, k ∉ l → b.handle ∉ l.filterMap (fun j => (p.slotAt j).map (fun c => c.handle)) := by
    intro l hkl hmem
    obtain ⟨j, hj, hc⟩ := List.mem_filterMap.1 hmem
    obtain ⟨c, hc, hh⟩ := Option.map_eq_some_iff.1 hc
    exact ((ho j c hc).2 fun e => hkl (e ▸ hj)).1 hh
  refine ⟨_, _, ?_, hnot low fun h => hlow k h k (by simp) rfl, hnot high hhigh,
    Nat.le_trans (List.length_filterMap_le _ low) (by omega), Nat.le_trans (List.length_filterMap_le _ high) (by omega)⟩
  rw [Part.allTimeEvents, hsplit]
  simp [hb]

/-- Parts with `P` are left so by what follows a block's step, and in them at minute `m` only the booking with handle `h`, in slot
`k`, can move. -/
def RestsBut (k h m : Nat) (P : Part → Prop) : Prop :=
  ∀ q, P q → P (q.follow q) ∧ q.clock.minute = m ∧ q.othersRest k h m

theorem timeEvents_length (l : List Nat) : (l.flatMap timeEvents).length = 3 * l.length := by
  induction l with
  | nil => rfl
  | cons h l ih => rw [List.flatMap_cons, List.length_append, ih, List.length_cons]; simp [timeEvents]; omega

/-- The time events of a table in which one booking alone moves are that booking's (R26). -/
theorem Part.evalTimes_one (p : Part) (k m n : Nat) (b : Booking) (P Q : Part → Prop) (hv : p.clock.valid = true)
    (hl : p.slots.length = 48) (hb : p.slotAt k = some b) (hp : P p) (hP : RestsBut k b.handle m P)
    (hQ : RestsBut k b.handle m Q) (hrun : Runs n (timeEvents b.handle) P Q) (hn : n ≤ 3000) : Q p.evalTimes := by
  obtain ⟨before, after, hsplit, hbefore, hafter, hlenB, hlenA⟩ := p.allTimeEvents_split k m b hl hb (hP p hp).2.2
  have idle : ∀ (R : Part → Prop) (l : List Nat), RestsBut k b.handle m R → b.handle ∉ l →
      Runs (l.flatMap timeEvents).length (l.flatMap timeEvents) R R := fun R l hR hl =>
    Runs.idle (fun q hq => (hR q hq).1) _ fun q hq => q.timeEvents_others k b.handle m (hR q hq).2.1 (hR q hq).2.2 l hl
  rw [Part.evalTimes, if_pos hv, hsplit]
  refine ((idle P before hP hbefore).append (hrun.append (idle Q after hQ hafter))).runTasks ?_ p hp
  rw [timeEvents_length, timeEvents_length, taskFuel]
  omega

/-! ### The booking that moves -/

/-- The records `r`, whose booking in slot `k` is `b`; at minute `m`, the clock's, no threshold of another booking does
anything. -/
def Part.stands (p : Part) (r : Records) (k : Nat) (b : Booking) (m : Nat) : Prop :=
  p.records = r ∧ p.onlyOneMoves k b m ∧ p.clock.minute = m

section

variable {p : Part} {r : Records} {k m : Nat} {b : Booking}

theorem Part.stands.slotAt (h : p.stands r k b m) : p.slotAt k = some b := h.2.1.2.1

theorem Part.stands.slotOf (h : p.stands r k b m) : p.slotOf b.handle = some k :=
  p.slotOf_othersRest k m b h.2.1.1 h.slotAt (p.othersRest_of_onlyOneMoves k b m h.2.1)

theorem Part.stands.bookingOf (h : p.stands r k b m) : p.bookingOf b.handle = some b := by
  rw [p.bookingOf_slot _ k h.slotOf, h.slotAt]

theorem Part.stands.follow (old : Part) (h : p.stands r k b m) : (old.follow p).stands r k b m := by
  obtain ⟨hr, hone, hm⟩ := h
  have hs : (old.follow p).slots = p.slots := congrArg Records.slots (old.follow_records p)
  refine ⟨by rw [Part.follow_records, hr], ?_, ?_⟩
  · rw [Part.onlyOneMoves] at hone ⊢
    simp only [Part.slotAt, hs]
    exact hone
  · have hc : (old.follow p).clock = p.clock := congrArg Records.clock (old.follow_records p)
    rw [hc, hm]

theorem restsBut_of_stands (r : Records) (k : Nat) (b : Booking) (m : Nat) :
    RestsBut k b.handle m (fun q => q.stands r k b m) := fun q hq =>
  ⟨hq.follow q, hq.2.2, q.othersRest_of_onlyOneMoves k b m hq.2.1⟩

end

end Sys2Proof.Machine
end

section
/-! The thresholds of one booking at a minute boundary (O15, O16), and the room clock. -/

namespace Sys2Proof.Machine

/-! ### The record of the booking that moves -/

/-- The records in which slot `k` holds the booking `b`. -/
def Records.put (r : Records) (k : Nat) (b : Booking) : Records := { r with slots := upd r.slots k (fun _ => some b) }

theorem Records.put_put (r : Records) (k : Nat) (a b : Booking) : (r.put k a).put k b = r.put k b := by
  simp [Records.put, upd_upd]

theorem Records.put_self (r : Records) (k : Nat) (b : Booking) (h : nth r.slots k = some (some b)) : r.put k b = r := by
  simp [Records.put, upd_self _ _ _ h]

theorem Part.updBooking_records (p : Part) (h k : Nat) (g : Booking → Booking) (b : Booking) (hk : p.slotOf h = some k)
    (hb : p.slotAt k = some b) : (p.updBooking h g).records = p.records.put k (g b) := by
  rw [p.updBooking_eq h k g b hk hb]; rfl

/-- A table of one moving booking is one still when its record is written. -/
theorem Part.onlyOneMoves_write (p q : Part) (k m : Nat) (b b' : Booking) (h : p.onlyOneMoves k b m)
    (hs : q.slots = upd p.slots k (fun _ => some b')) (hh : b'.handle = b.handle) : q.onlyOneMoves k b' m := by
  obtain ⟨hl, hb, hothers⟩ := h
  refine ⟨by rw [hs, length_upd, hl], ?_, fun j c hc hj => ?_⟩
  · rw [Part.slotAt, hs, nth_upd_same, p.slotAt_some k b hb]; rfl
  · rw [Part.slotAt, hs, nth_upd_ne _ _ _ _ (Ne.symm hj)] at hc
    rw [hh]
    exact hothers j c hc hj

section

variable {p q : Part} {r r' : Records} {k m : Nat} {b b' : Booking}

/-- A step that leaves the bookings and the clock. -/
theorem Part.stands.other (h : p.stands r k b m) (hq : q.records = r') (hs : r'.slots = r.slots) (hc : r'.clock = r.clock) :
    q.stands r' k b m := by
  obtain ⟨hp, hone, hm⟩ := h
  have hslots : q.slots = p.slots := (congrArg Records.slots hq).trans (hs.trans (congrArg Records.slots hp).symm)
  have hclock : q.clock = p.clock := (congrArg Records.clock hq).trans (hc.trans (congrArg Records.clock hp).symm)
  refine ⟨hq, ?_, by rw [hclock, hm]⟩
  rw [Part.onlyOneMoves] at hone ⊢
  simp only [Part.slotAt, hslots]
  exact hone

/-- A step that writes the moving booking, and other records with it. -/
theorem Part.stands.write (h : p.stands r k b m) (hq : q.records = r') (hs : q.slots = upd p.slots k (fun _ => some b'))
    (hh : b'.handle = b.handle) (hc : q.clock = p.clock) : q.stands r' k b' m :=
  ⟨hq, p.onlyOneMoves_write q k m b b' h.2.1 hs hh, by rw [hc, h.2.2]⟩

theorem Part.stands.updBooking (g : Booking → Booking) (h : p.stands r k b m) (hh : (g b).handle = b.handle) :
    (p.updBooking b.handle g).stands (r.put k (g b)) k (g b) m := by
  refine h.write ?_ (p.updBooking_slots _ k g b h.slotOf h.slotAt) hh ?_
  · rw [p.updBooking_records _ k g b h.slotOf h.slotAt, h.1]
  · exact Part.clock_of_base _ _ (p.updBooking_base b.handle g)

end

/-! ### Single tasks -/

/-- The moving booking is `b`, in slot `k` of the records `r`. -/
def At (r : Records) (k m : Nat) (b : Booking) (p : Part) : Prop := p.stands (r.put k b) k b m

section

variable {r : Records} {k m : Nat} {b : Booking}

theorem runs_rest {t : Task} (h : ∀ p, At r k m b p → p.doTask t = (p, [])) : Runs 1 [t] (At r k m b) (At r k m b) :=
  Runs.single fun p hp => ⟨p, h p hp, hp.follow p⟩

/-- A task that writes the moving booking's record, and the tasks it sets off. -/
theorem runs_write {t : Task} {n : Nat} {ts : List Task} {Q : Part → Prop} (g : Booking → Booking)
    (h : ∀ p, At r k m b p → p.doTask t = (p.updBooking b.handle g, ts)) (hh : (g b).handle = b.handle)
    (hrun : Runs n ts (At r k m (g b)) Q) : Runs (n + 1) [t] (At r k m b) Q := by
  refine Runs.task (fun p hp => ⟨_, h p hp, ?_⟩) hrun
  have hw := Part.stands.updBooking g hp hh
  rw [Records.put_put] at hw
  exact hw.follow p

/-- The occupation start is no threshold of a booking that is not PENDING, or that it lies ahead of (R27). -/
theorem runs_occStart_rest (hb : b.state ≠ .pending ∨ m < b.occStart) :
    Runs 1 [.occStart b.handle] (At r k m b) (At r k m b) := by
  refine runs_rest fun p hp => ?_
  have hnot : ¬ (b.state = .pending ∧ b.occStart ≤ p.clock.minute) := by
    rw [hp.2.2]
    rintro ⟨hs, ho⟩
    rcases hb with h | h
    · exact h hs
    · omega
  simp [Part.doTask, Part.takeOccStart, hp.bookingOf, hnot]

theorem runs_start_ahead (hb : m < b.startMinute) : Runs 1 [.startReached b.handle] (At r k m b) (At r k m b) := by
  refine runs_rest fun p hp => ?_
  have hnot : ¬ b.startMinute ≤ p.clock.minute := by rw [hp.2.2]; omega
  simp [Part.doTask, Part.takeStart, hp.bookingOf, hnot]

/-- `start` is no threshold of a PENDING, LIVE, CLOSING or ENDED booking (R27). -/
theorem runs_start_rest (hb : b.state = .pending ∨ b.state = .live ∨ b.state = .closing ∨ b.state = .ended) :
    Runs 1 [.startReached b.handle] (At r k m b) (At r k m b) := by
  refine runs_rest fun p hp => ?_
  rcases hb with h | h | h | h <;> simp [Part.doTask, Part.takeStart, hp.bookingOf, h]

theorem runs_end_ahead (hb : m < b.occEnd) : Runs 1 [.endReached b.handle] (At r k m b) (At r k m b) := by
  refine runs_rest fun p hp => ?_
  have hnot : ¬ b.occEnd ≤ p.clock.minute := by rw [hp.2.2]; omega
  simp [Part.doTask, Part.takeEnd, hp.bookingOf, hnot]

theorem runs_end_rest (hb : b.state = .closing ∨ b.state = .ended) :
    Runs 1 [.endReached b.handle] (At r k m b) (At r k m b) := by
  refine runs_rest fun p hp => ?_
  rcases hb with h | h <;> simp [Part.doTask, Part.takeEnd, hp.bookingOf, h]

/-- `end` + `grace` of a booking not begun: MISSED, or the outcome pending (R27). -/
theorem runs_end_missed (hs : b.state = .pending ∨ b.state = .waiting) (he : b.occEnd ≤ m) :
    Runs 1 [.endReached b.handle] (At r k m b) (At r k m (b.finish (b.pendingOutcome.getD .missed))) := by
  refine runs_write (fun b => b.finish (b.pendingOutcome.getD .missed)) (fun p hp => ?_) rfl (Runs.nil _)
  have he' : b.occEnd ≤ p.clock.minute := by rw [hp.2.2]; exact he
  rcases hs with h | h <;> simp [Part.doTask, Part.takeEnd, hp.bookingOf, h, he']

/-- `start` noted by a booking that waits for its floor or its seats (R27). -/
theorem runs_start_noted (hs : b.state = .waiting ∨ b.state = .preparing) (ht : b.startMinute ≤ m) :
    Runs 1 [.startReached b.handle] (At r k m b) (At r k m { b with startNoted := true }) := by
  refine runs_write (fun b => { b with startNoted := true }) (fun p hp => ?_) rfl (Runs.nil _)
  have ht' : b.startMinute ≤ p.clock.minute := by rw [hp.2.2]; exact ht
  rcases hs with h | h <;> simp [Part.doTask, Part.takeStart, hp.bookingOf, h, ht']

/-- `end` + `grace` noted by a PREPARING booking (R27). -/
theorem runs_close_noted (hs : b.state = .preparing) (he : b.occEnd ≤ m) :
    Runs 1 [.endReached b.handle] (At r k m b) (At r k m { b with closeNoted := true }) := by
  refine runs_write (fun b => { b with closeNoted := true }) (fun p hp => ?_) rfl (Runs.nil _)
  have he' : b.occEnd ≤ p.clock.minute := by rw [hp.2.2]; exact he
  simp [Part.doTask, Part.takeEnd, hp.bookingOf, hs, he']

/-- The zones of a run that some floor holds, by the records alone. -/
theorem Part.unheld_of_records (p q : Part) (h : p.records = q.records) (run : ZoneRun) : p.unheld run = q.unheld run := by
  have hf : p.floors = q.floors := congrArg Records.floors h
  simp only [Part.unheld, Part.floorOfZone, Part.floorAt, hf]

/-- The occupation start of a PENDING booking whose zones are held: it waits (R27, R28). -/
theorem runs_occStart_waits (s : Part) (hf : s.floors = r.floors) (hs : b.state = .pending) (ho : b.occStart ≤ m)
    (hheld : s.unheld b.zones = false) :
    Runs 2 [.occStart b.handle] (At r k m b) (At r k m { b with state := .waiting }) := by
  refine runs_write (fun b => { b with state := .waiting }) (ts := [.tryBegin b.handle]) (fun p hp => ?_) rfl
    (runs_rest fun p hp => ?_)
  · have ho' : b.occStart ≤ p.clock.minute := by rw [hp.2.2]; exact ho
    simp [Part.doTask, Part.takeOccStart, hp.bookingOf, hs, ho']
  · have hun : p.unheld b.zones = false := by
      have hpf : p.floors = s.floors := (congrArg Records.floors hp.1).trans hf.symm
      rw [← hheld]
      simp only [Part.unheld, Part.floorOfZone, Part.floorAt, hpf]
    have hb := hp.bookingOf
    dsimp only at hb
    simp [Part.doTask, Part.takeTry, hb, Part.canBegin, hun]

end

end Sys2Proof.Machine
end

section
/-! The minute boundary, and the thresholds that write records alone (O16). -/

namespace Sys2Proof.Machine

/-! ### A write of one record, by what the record says -/

theorem Part.updFloor_eq (p : Part) (f : Nat) (g : Floor → Floor) (fl : Floor) (h : nth p.floors f = some fl) :
    p.updFloor f g = { p with floors := upd p.floors f (fun _ => g fl) } := by
  rw [Part.updFloor, upd_congr p.floors f g (fun _ => g fl) fl h rfl]

theorem Part.updQueue_eq (p : Part) (f : Nat) (g : Queue → Queue) (w : Queue) (h : nth p.queues f = some w) :
    p.updQueue f g = { p with queues := upd p.queues f (fun _ => g w) } := by
  rw [Part.updQueue, upd_congr p.queues f g (fun _ => g w) w h rfl]

theorem Part.updSeat_eq (p : Part) (n : Nat) (g : Seat → Seat) (x : Seat) (h : nth p.seats n = some x) :
    p.updSeat n g = { p with seats := upd p.seats n (fun _ => g x) } := by
  rw [Part.updSeat, upd_congr p.seats n g (fun _ => g x) x h rfl]

/-! ### Suspension with every partition CLOSED -/

/-- With every partition CLOSED no floor is to be suspended (R14). -/
theorem Part.shouldSuspend_closed (p : Part) (f : Nat) (h : ∀ k, p.wallOpen k = false) : p.shouldSuspend f = false := by
  simp [Part.shouldSuspend, Part.besideBreach, Part.breach, h]

/-- The evaluation of suspension finds nothing to do (R14). -/
theorem Part.evalSuspension_calm (p : Part) (h : p.calm) : p.evalSuspension = p := by
  obtain ⟨hwalls, hfloors⟩ := h
  have hone : ∀ f, p.evalSuspensionOf f = p := fun f => by
    simp [Part.evalSuspensionOf, p.shouldSuspend_closed f hwalls, hfloors f]
  simp [Part.evalSuspension, floorNumbers, hone]

theorem Part.calm_of_eq (p q : Part) (hw : q.partitions = p.partitions) (hf : q.floors = p.floors) (h : p.calm) : q.calm := by
  obtain ⟨hwalls, hfloors⟩ := h
  refine ⟨fun k => ?_, fun f => ?_⟩
  · have := hwalls k
    rwa [Part.wallOpen, Part.partitionAt, ← hw] at this
  · have := hfloors f
    rwa [Part.floorAt, ← hf] at this

/-- A write of a floor that leaves it unsuspended keeps the meeting calm. -/
theorem Part.calm_updFloor (p : Part) (f : Nat) (g : Floor → Floor) (h : p.calm)
    (hg : ∀ fl, nth p.floors f = some fl → (g fl).suspended = false) : (p.updFloor f g).calm := by
  obtain ⟨hwalls, hfloors⟩ := h
  refine ⟨hwalls, fun i => ?_⟩
  by_cases hi : f = i
  · subst hi
    cases hn : nth p.floors f with
    | none => simp [Part.floorAt, nth_upd_same, hn, startFloor]
    | some fl => rw [p.floorAt_updFloor_same f g fl hn]; exact hg fl hn
  · rw [p.floorAt_updFloor_ne f i g hi]; exact hfloors i

theorem Part.restartRotations_displays (p : Part) (f : Nat) :
    (p.restartRotations f).displays.map Display.core = p.displays.map Display.core :=
  congrArg Side.displays (p.restartRotations_side f)

@[simp] theorem Part.restartRotations_records (p : Part) (f : Nat) : (p.restartRotations f).records = p.records := by
  simp only [Part.records, p.restartRotations_displays f]
  rfl

/-- A floor becomes LIVE in a calm meeting (R140): its state alone. -/
theorem Part.floorLive_records (p : Part) (f : Nat) (fl : Floor) (h : p.calm) (hfl : nth p.floors f = some fl) :
    (p.floorLive f).records = { p.records with floors := upd p.floors f (fun _ => { fl with state := .live }) } := by
  have hfloor : fl.suspended = false := by rw [← p.floorAt_of_nth f fl hfl]; exact h.2 f
  have hcalm : ((p.updFloor f (fun fl => { fl with state := .live })).restartRotations f).calm := by
    refine (p.updFloor f (fun fl => { fl with state := .live })).calm_of_eq _ rfl rfl (p.calm_updFloor f _ h fun x hx => ?_)
    rw [hfl] at hx; cases hx; exact hfloor
  rw [Part.floorLive, Part.evalSuspension_calm _ hcalm, Part.restartRotations_records, p.updFloor_eq f _ fl hfl]
  rfl

/-! ### The minute boundary -/

/-- The row acts on a running clock at second 59 (R23). -/
theorem Part.clockMinute_of (p : Part) (hv : p.clock.valid = true) (hm : p.clock.minute < 16777215) (hs : p.clock.second = 59) :
    p.clockMinute =
      ({ p with clock := { valid := true, minute := p.clock.minute + 1, second := 0 } } : Part).evalTimes.dueTest := by
  have hruns : p.clock.runs = true := by simp [Clock.runs, hv, Config.lastMinute]; omega
  have hadv : p.clock.advance = { valid := true, minute := p.clock.minute + 1, second := 0 } := by
    simp [Clock.advance, hs, ← hv]
  simp [Part.clockMinute, hruns, hs, Part.minuteBoundary, hadv]

/-- An event ends in a part with the records that its block leaves. -/
theorem ends_of_event (c : Instr) (s : State) (g : Part → Part) (hx : exec c s = s.become (s.part.event g)) (hr : s.runs)
    (ha : (g s.part).answer = s.part.answer) : ∃ p, Ends c s p ∧ p.records = (g s.part).records :=
  ⟨s.part.event g, ⟨hx, by rw [s.part.event_answer g hr, ha]⟩, s.part.event_records g hr⟩

/-- A minute boundary of an AWAKE table is its time events, with the clock gone on. -/
theorem ends_minuteBoundary (s : State) (clock : Clock) (hr : s.runs) (hv : s.part.clock.valid = true)
    (hm : s.part.clock.minute < 16777215) (hs : s.part.clock.second = 59)
    (hc : clock = { valid := true, minute := s.part.clock.minute + 1, second := 0 })
    (ha : s.part.control.tableState = .awake) :
    ∃ p, Ends .minuteBoundary s p ∧ p.records = ({ s.part with clock := clock } : Part).evalTimes.records := by
  subst hc
  have hawake := (Part.tableState_of_side _ _ (Part.evalTimes_side
    { s.part with clock := { valid := true, minute := s.part.clock.minute + 1, second := 0 } })).trans ha
  have hg := s.part.clockMinute_of hv hm hs
  rw [Part.dueTest_awake _ hawake] at hg
  rw [← hg]
  refine ends_of_event .minuteBoundary s Part.clockMinute rfl hr ?_
  rw [hg]
  exact (Part.answer_of_base _ _ (Part.evalTimes_base _)).trans rfl

theorem leaves_of_ends (c : Instr) (s : State) (r : Records) (h : ∃ p, Ends c s p ∧ p.records = r) : Leaves c s r := by
  obtain ⟨p, ⟨hx, ha⟩, hp⟩ := h
  exact ⟨p, hx, ha, hp⟩

/-- The records after the time events of a table in which one booking moves. -/
theorem Part.evalTimes_at (p : Part) (k m n : Nat) (b b' : Booking) (r' : Records) (hone : p.onlyOneMoves k b m)
    (hv : p.clock.valid = true) (hm : p.clock.minute = m) (hh : b'.handle = b.handle)
    (hrun : Runs n (timeEvents b.handle) (At p.records k m b) (At r' k m b')) (hn : n ≤ 3000) :
    p.evalTimes.records = r'.put k b' := by
  have hself : p.records.put k b = p.records := Records.put_self _ _ _ (p.slotAt_some k b hone.2.1)
  have hat : At p.records k m b p := ⟨hself.symm, hone, hm⟩
  have hrest' : RestsBut k b.handle m (At r' k m b') := hh ▸ restsBut_of_stands (r'.put k b') k b' m
  exact (p.evalTimes_one k m n b (At p.records k m b) (At r' k m b') hv hone.1 hone.2.1 hat
    (restsBut_of_stands (p.records.put k b) k b m) hrest' hrun hn).1

/-! ### The thresholds that write records alone -/

section

variable {r : Records} {k m n : Nat} {b : Booking}

/-- A booking's three thresholds, one after another (R26). -/
theorem runs_timeEvents {n₁ n₂ n₃ : Nat} {P₀ P₁ P₂ P₃ : Part → Prop} (h₁ : Runs n₁ [.occStart b.handle] P₀ P₁)
    (h₂ : Runs n₂ [.startReached b.handle] P₁ P₂) (h₃ : Runs n₃ [.endReached b.handle] P₂ P₃) :
    Runs (n₁ + (n₂ + n₃)) (timeEvents b.handle) P₀ P₃ :=
  h₁.append (h₂.append h₃)

/-- `start` at a WAITING booking: noted where it is reached (R27). -/
theorem runs_start_waiting (hs : b.state = .waiting ∨ b.state = .preparing) :
    Runs 1 [.startReached b.handle] (At r k m b) (At r k m { b with startNoted := b.startNoted || decide (b.startMinute ≤ m) }) := by
  by_cases ht : b.startMinute ≤ m
  · simpa [ht] using runs_start_noted (r := r) (k := k) hs ht
  · simpa [ht] using runs_start_ahead (r := r) (k := k) (Nat.lt_of_not_le ht)

theorem runs_end_preparing (hs : b.state = .preparing) :
    Runs 1 [.endReached b.handle] (At r k m b) (At r k m { b with closeNoted := b.closeNoted || decide (b.occEnd ≤ m) }) := by
  by_cases ht : b.occEnd ≤ m
  · simpa [ht] using runs_close_noted (r := r) (k := k) hs ht
  · simpa [ht] using runs_end_ahead (r := r) (k := k) (Nat.lt_of_not_le ht)

/-- The `end` + `grace` of a booking that holds no floor: MISSED, or with the outcome pending (R27). -/
theorem runs_missed (s : Part) (hf : s.floors = r.floors) (hs : b.state = .pending ∨ b.state = .waiting)
    (hheld : s.unheld b.zones = false) (ho : b.occStart ≤ m) (he : b.occEnd ≤ m) :
    ∃ n, n ≤ 3000 ∧
      Runs n (timeEvents b.handle) (At r k m b) (At r k m (b.finish (b.pendingOutcome.getD .missed))) := by
  have late : ∀ {n : Nat} (w : Booking), w = { b with state := .waiting } → Runs n [.occStart b.handle] (At r k m b) (At r k m w) →
      Runs (n + (1 + 1)) (timeEvents b.handle) (At r k m b) (At r k m (b.finish (b.pendingOutcome.getD .missed))) := by
    rintro n _ rfl h
    exact runs_timeEvents h (runs_start_waiting (b := { b with state := .waiting }) (.inl rfl))
      (runs_end_missed (b := { b with state := .waiting, startNoted := b.startNoted || decide (b.startMinute ≤ m) })
        (.inr rfl) he)
  rcases hs with hs | hs
  · exact ⟨_, by decide, late _ rfl (runs_occStart_waits s hf hs ho hheld)⟩
  · have hsame : b = { b with state := .waiting } := by rw [← hs]
    exact ⟨_, by decide, late b hsame (runs_occStart_rest (.inl (by rw [hs]; decide)))⟩

/-- `start` at a READY booking: LIVE with its floor (R27). -/
theorem runs_start_live (s : Part) (f : Nat) (fl : Floor) (hf : s.floors = r.floors) (hw : s.partitions = r.partitions)
    (hcalm : s.calm) (hs : b.state = .ready) (hb : b.floor = some f) (hfl : nth r.floors f = some fl) (ht : b.startMinute ≤ m) :
    Runs 1 [.startReached b.handle] (At r k m b)
      (At { r with floors := upd r.floors f (fun _ => { fl with state := .live }) } k m { b with state := .live }) := by
  refine Runs.single fun p hp => ?_
  have ht' : b.startMinute ≤ p.clock.minute := by rw [hp.2.2]; exact ht
  have hpf : p.floors = r.floors := congrArg Records.floors hp.1
  have hpcalm : p.calm := s.calm_of_eq p ((congrArg Records.partitions hp.1).trans hw.symm) (hpf.trans hf.symm) hcalm
  have hu := Part.stands.updBooking (fun b => { b with state := .live }) hp rfl
  have htask : p.doTask (.startReached b.handle) = ((p.updBooking b.handle (fun b => { b with state := .live })).floorLive f, []) := by
    simp [Part.doTask, Part.takeStart, hp.bookingOf, hs, ht', hb]
  refine ⟨_, htask, Part.stands.follow _ ?_⟩
  generalize hq : p.updBooking b.handle (fun b => { b with state := .live }) = q at hu ⊢
  rw [Records.put_put] at hu
  have hqf : q.floors = r.floors := congrArg Records.floors hu.1
  have hqcalm : q.calm := s.calm_of_eq q ((congrArg Records.partitions hu.1).trans hw.symm) (hqf.trans hf.symm) hcalm
  have hlive := q.floorLive_records f fl hqcalm (hqf ▸ hfl)
  rw [hu.1, hqf] at hlive
  exact hu.other hlive rfl rfl

end

end Sys2Proof.Machine
end

section
/-! What the booking controller's operations on a floor leave in the records: forced closes, close-out, apply and release. -/

namespace Sys2Proof.Machine

/-! ### Forced closes of the entries of a floor -/

/-- The floor but for its open list and its holds. -/
def Floor.shell (fl : Floor) : Floor := { fl with priorityHolders := 0, openList := [] }

theorem Floor.openSeats_nil (fl : Floor) (h : fl.openSeats = []) : fl.openList = [] := List.map_eq_nil_iff.1 h

theorem Floor.openSeats_dropHold (fl : Floor) : fl.dropHold.openSeats = fl.openSeats := by
  simp only [Floor.openSeats, Floor.dropHold]
  split
  · simp [OpenEntry.unmute]
  · rfl

/-- Closes write the seats and the floor `f` alone. -/
def Part.closesAt (p q : Part) (f : Nat) (fl' : Floor) : Prop :=
  q = { p with seats := q.seats, floors := upd p.floors f (fun _ => fl') }

theorem Part.closesAt.trans {p q r : Part} {f : Nat} {a b : Floor} (h : p.closesAt q f a) (h' : q.closesAt r f b) :
    p.closesAt r f b := by
  have hq : q.floors = upd p.floors f (fun _ => a) := congrArg Part.floors h
  rw [Part.closesAt, hq, upd_upd] at h'
  rw [Part.closesAt, h', h]

theorem Part.closesAt.refl {p : Part} {f : Nat} {fl : Floor} (hfl : nth p.floors f = some fl) : p.closesAt p f fl := by
  rw [Part.closesAt, upd_self _ _ _ hfl]

theorem Part.closesAt.nth {p q : Part} {f : Nat} {fl fl' : Floor} (h : p.closesAt q f fl') (hfl : nth p.floors f = some fl) :
    nth q.floors f = some fl' := by
  have hq : q.floors = upd p.floors f (fun _ => fl') := congrArg Part.floors h
  rw [hq, nth_upd_same, hfl]; rfl

/-- One forced close (R91, R111): the seat's entry goes. -/
theorem Part.forceClose_closesAt (p : Part) (f n : Nat) (fl : Floor) (hfl : nth p.floors f = some fl) :
    ∃ fl', p.closesAt (p.forceClose f n) f fl' ∧ fl'.shell = fl.shell ∧
      fl'.openSeats = fl.openSeats.filter (fun m => m != n) := by
  have drop : ∀ (q : Part) (x : Floor), nth q.floors f = some x →
      q.closesAt ((q.dropEntry f n).setGuard n) f { x with openList := x.openList.filter (fun e => e.seat != n) } := by
    intro q x hx
    rw [Part.closesAt, Part.dropEntry, q.updFloor_eq f _ x hx]
    rfl
  have seats : ∀ x : Floor, ({ x with openList := x.openList.filter (fun e => e.seat != n) } : Floor).openSeats =
      x.openSeats.filter (fun m => m != n) := by
    intro x
    simp [Floor.openSeats, List.filter_map, Function.comp_def]
  rw [Part.forceClose, Part.closeEntry, Part.endHold]
  split
  · refine ⟨_, Part.closesAt.trans (q := (p.updSeat n (fun s => { s with priorityHeld := false })).updFloor f Floor.dropHold)
      (a := fl.dropHold) ?_ (drop _ fl.dropHold ?_), rfl, by rw [seats, fl.openSeats_dropHold]⟩
    · rw [Part.closesAt, Part.updFloor_eq _ f _ fl (by exact hfl)]
      rfl
    · rw [Part.updFloor_floors, nth_upd_same, Part.updSeat_floors, hfl]; rfl
  · exact ⟨_, drop p fl hfl, rfl, seats fl⟩

/-- Forced closes of some seats (R91): their entries go, and the others stay. -/
theorem Part.forceCloseAll_closesAt (f : Nat) (l : List Nat) : ∀ (p : Part) (fl : Floor), nth p.floors f = some fl →
    ∃ fl', p.closesAt (p.forceCloseAll f l) f fl' ∧ fl'.shell = fl.shell ∧
      fl'.openSeats = fl.openSeats.filter (fun m => decide (m ∉ l)) := by
  induction l with
  | nil => exact fun p fl hfl => ⟨fl, Part.closesAt.refl hfl, rfl, by simp⟩
  | cons n l ih =>
    intro p fl hfl
    obtain ⟨x, hx, hxs, hxo⟩ := p.forceClose_closesAt f n fl hfl
    obtain ⟨y, hy, hys, hyo⟩ := ih (p.forceClose f n) x (hx.nth hfl)
    refine ⟨y, hx.trans hy, hys.trans hxs, ?_⟩
    rw [hyo, hxo, List.filter_filter]
    congr 1
    funext m
    by_cases hm : m = n <;> simp [hm]

/-- A forced close sets the guard of its seat and of no other (R111). -/
theorem Part.forceClose_guard (p : Part) (f n m : Nat) (x : Seat) (hx : nth p.seats m = some x) :
    ∃ y, nth (p.forceClose f n).seats m = some y ∧
      y.guardUntil = if m = n then some (p.now + Config.guard) else x.guardUntil := by
  have guard : ∀ q : Part, q.now = p.now → ∀ z, nth q.seats m = some z → z.guardUntil = x.guardUntil →
      ∃ y, nth ((q.dropEntry f n).setGuard n).seats m = some y ∧
        y.guardUntil = if m = n then some (p.now + Config.guard) else x.guardUntil := by
    intro q hnow z hz hg
    simp only [Part.setGuard, Part.updSeat_seats, Part.dropEntry, Part.updFloor_seats, Part.updFloor_now, hnow]
    by_cases hm : m = n
    · subst hm
      exact ⟨_, by rw [nth_upd_same, hz]; rfl, by simp⟩
    · exact ⟨z, by rw [nth_upd_ne _ _ _ _ (Ne.symm hm), hz], by rw [hg, if_neg hm]⟩
  rw [Part.forceClose, Part.closeEntry, Part.endHold]
  split
  · by_cases hm : m = n
    · subst hm
      exact guard _ rfl { x with priorityHeld := false } (by rw [Part.updFloor_seats, Part.updSeat_seats, nth_upd_same, hx]; rfl) rfl
    · exact guard _ rfl x (by rw [Part.updFloor_seats, Part.updSeat_seats, nth_upd_ne _ _ _ _ (Ne.symm hm), hx]) rfl
  · exact guard p rfl x hx rfl

theorem Part.forceCloseAll_guard (f m : Nat) (l : List Nat) : ∀ (p : Part) (x : Seat), nth p.seats m = some x →
    ∃ y, nth (p.forceCloseAll f l).seats m = some y ∧
      y.guardUntil = if m ∈ l then some (p.now + Config.guard) else x.guardUntil := by
  induction l with
  | nil => exact fun p x hx => ⟨x, hx, by simp⟩
  | cons n l ih =>
    intro p x hx
    obtain ⟨y, hy, hyg⟩ := p.forceClose_guard f n m x hx
    obtain ⟨z, hz, hzg⟩ := ih (p.forceClose f n) y hy
    have hnow : (p.forceClose f n).now = p.now := Part.now_of_base _ _ (p.forceClose_base f n)
    refine ⟨z, hz, ?_⟩
    rw [hzg, hyg, hnow]
    by_cases hl : m ∈ l <;> by_cases hn : m = n <;> simp [hl, hn]

/-! ### Urgent exchanges and marks touch no record -/

@[simp] theorem Part.requestSeats_records (p : Part) (l : List Nat) : (p.requestSeats l).records = p.records :=
  foldl_keeps Part.records _ (fun q n => q.requestSeat_records n) l p

@[simp] theorem Part.touchTable_records (p : Part) : p.touchTable.records = p.records := rfl

/-- A part with the same floors and partitions is as calm. -/
theorem Part.calm_of_records (p q : Part) (h : q.records = p.records) (hp : p.calm) : q.calm :=
  p.calm_of_eq q (congrArg Records.partitions h) (congrArg Records.floors h) hp

/-! ### Close-out begins -/

/-- Every partition is CLOSED, and no floor but `f` is suspended. -/
def Part.calmBut (p : Part) (f : Nat) : Prop :=
  (∀ k, p.wallOpen k = false) ∧ ∀ g, g ≠ f → (p.floorAt g).suspended = false

theorem Part.calmBut_of_calm (p : Part) (f : Nat) (h : p.calm) : p.calmBut f := ⟨h.1, fun g _ => h.2 g⟩

/-- A floor written as unsuspended, in a meeting that is calm but for it. -/
theorem Part.calm_of_calmBut (p q : Part) (f : Nat) (fl' : Floor) (h : p.calmBut f) (hw : q.partitions = p.partitions)
    (hf : q.floors = upd p.floors f (fun _ => fl')) (hs : fl'.suspended = false) : q.calm := by
  obtain ⟨hwalls, hfloors⟩ := h
  refine ⟨fun k => ?_, fun g => ?_⟩
  · have := hwalls k
    rwa [Part.wallOpen, Part.partitionAt, ← hw] at this
  · rw [Part.floorAt, hf]
    by_cases hg : g = f
    · subst hg
      rw [nth_upd_same]
      cases nth p.floors g <;> simp [hs, startFloor]
    · rw [nth_upd_ne _ _ _ _ (Ne.symm hg)]
      exact hfloors g hg

/-- The work list of a phase that asks for the seats `l` (R50, R56, R58): one AWAITING entry for each, in order. -/
def freshWork (l : List Nat) (work : List WorkEntry) : Prop :=
  work.map (fun u => (u.seat, u.attempts, u.status)) = l.map (fun n => (n, 0, WorkStatus.awaiting))

theorem freshWork_newWork (p : Part) (l : List Nat) : freshWork l (l.map p.newWork) := by
  simp [freshWork, Part.newWork, Function.comp_def]

theorem freshWork.seats {l : List Nat} {work : List WorkEntry} (h : freshWork l work) : work.map (fun u => u.seat) = l := by
  have := congrArg (List.map (fun t : Nat × Nat × WorkStatus => t.1)) h
  simpa [Function.comp_def] using this

theorem freshWork.settled {l : List Nat} {work : List WorkEntry} (h : freshWork l work) : settledWork work = true ↔ l = [] := by
  cases l with
  | nil =>
    have : work = [] := List.map_eq_nil_iff.1 h
    simp [settledWork, this]
  | cons n l =>
    cases work with
    | nil => cases h
    | cons u work =>
      simp only [freshWork, List.map_cons, List.cons.injEq, Prod.mk.injEq] at h
      obtain ⟨⟨-, -, hu⟩, -⟩ := h
      simp [settledWork, hu]

/-- What the begin of a close-out leaves (R56): the booking and its floor CLOSING, the open list and the queue empty, and an
AWAITING entry for each seat closed. -/
structure ClosingAt (p q : Part) (f k h : Nat) (b : Booking) (fl fl' : Floor) (work : List WorkEntry) : Prop where
  records : q.records = { p.records with
    slots := upd p.slots k (fun _ => some { b with state := .closing })
    seats := q.records.seats
    floors := upd p.floors f (fun _ => fl')
    queues := upd p.queues f (fun x => { x with entries := [] })
    contexts := upd p.contexts f (fun _ => some { booking := h, phase := .close, work := work }) }
  shell : fl'.shell = ({ fl with state := .closing, suspended := false } : Floor).shell
  openList : fl'.openList = []
  work : freshWork (seatNumbers.filter (fun n => decide (n ∈ fl.openSeats))) work
  guard : ∀ n x, nth p.seats n = some x → ∃ y, nth q.seats n = some y ∧
    y.guardUntil = if n ∈ fl.openSeats then some (p.now + Config.guard) else x.guardUntil
  seats : fl.openList = [] → q.records.seats = p.records.seats

/-- The seats of a part whose engines and marks alone have been written. -/
theorem Part.requestSeats_seats (p : Part) (l : List Nat) : (p.requestSeats l).seats = p.seats :=
  foldl_keeps Part.seats _ (fun q n => by unfold Part.requestSeat Part.requestUrgent; split <;> simp) l p

theorem Part.beginCloseOut_closingAt (p : Part) (f k h : Nat) (b : Booking) (fl : Floor) (hk : p.slotOf h = some k)
    (hb : p.slotAt k = some b) (hfl : nth p.floors f = some fl) (hcalm : p.calmBut f) :
    ∃ fl' work, ClosingAt p (p.beginCloseOut f h) f k h b fl fl' work := by
  have hclosing : (p.updBooking h (fun b => { b with state := .closing })).updFloor f
      (fun fl => { fl with state := .closing, suspended := false }) =
      { p with
        slots := upd p.slots k (fun _ => some { b with state := .closing })
        floors := upd p.floors f (fun _ => { fl with state := .closing, suspended := false }) } := by
    rw [p.updBooking_eq h k _ b hk hb]
    exact Part.updFloor_eq _ f _ fl hfl
  rw [Part.beginCloseOut, p.floorAt_of_nth f fl hfl, hclosing]
  generalize hq : ({ p with
        slots := upd p.slots k (fun _ => some { b with state := .closing })
        floors := upd p.floors f (fun _ => { fl with state := .closing, suspended := false }) } : Part) = q
  have hqf : nth q.floors f = some { fl with state := .closing, suspended := false } := by
    rw [← hq, nth_upd_same, hfl]; rfl
  obtain ⟨fl', hclosed, hshell, hopen⟩ := Part.forceCloseAll_closesAt f fl.openSeats q _ hqf
  have hguard := fun n => Part.forceCloseAll_guard f n fl.openSeats q
  have hseats : fl.openList = [] → q.forceCloseAll f fl.openSeats = q := fun h => by rw [Floor.openSeats, h]; rfl
  generalize q.forceCloseAll f fl.openSeats = c at hclosed hguard hseats ⊢
  have hfloors : c.floors = upd p.floors f (fun _ => fl') := by
    rw [congrArg Part.floors hclosed, ← hq, upd_upd]
  generalize hwork : (seatNumbers.filter (fun n => decide (n ∈ fl.openSeats))).map (c.emptyQueue f).newWork = work
  generalize hx : (c.emptyQueue f).setContext f (some { booking := h, phase := .close, work := work }) = x
  have hxc : x = { c with
      queues := upd c.queues f (fun x => { x with entries := [] })
      contexts := upd c.contexts f (fun _ => some { booking := h, phase := .close, work := work }) } := hx.symm
  have hcalm' : (x.requestSeats fl.openSeats).calm := by
    refine x.calm_of_records _ (x.requestSeats_records _) (p.calm_of_calmBut x f fl' hcalm ?_ ?_ ?_)
    · rw [hxc, hclosed, ← hq]
    · rw [hxc]; exact hfloors
    · exact congrArg Floor.suspended hshell
  rw [Part.evalSuspension_calm _ hcalm']
  refine ⟨fl', work, ?records, hshell, fl'.openSeats_nil (by rw [hopen]; simp [Floor.openSeats]), ?work, fun n y hy => ?guard,
    fun h => ?seats⟩
  case records =>
    rw [Part.touchTable_records, Part.requestSeats_records, hxc]
    simp only [Part.records, hfloors]
    rw [hclosed, ← hq]
  case work => rw [← hwork]; exact freshWork_newWork _ _
  case guard =>
    obtain ⟨z, hz, hzg⟩ := hguard n y (by rw [← hq]; exact hy)
    refine ⟨z, ?_, by rw [hzg, ← hq]⟩
    change nth (x.requestSeats fl.openSeats).seats n = some z
    rw [Part.requestSeats_seats, hxc]
    exact hz
  case seats =>
    rw [Part.touchTable_records, Part.requestSeats_records, hxc, hseats h, ← hq]
    rfl

/-! ### The seats of a run -/

theorem Part.writeSeats_seat (p : Part) (run : ZoneRun) (e : Nat → Option RosterEntry) (n : Nat) :
    nth (p.writeSeats run e).seats n = (nth p.seats n).map (fun x => if p.seatIn run n then x.take (e n) else x) :=
  nth_mapFrom _ _ _

/-- What a booking's roster offers a seat (R50, R76). -/
theorem Booking.seats_eq (b : Booking) (n : Nat) (x : Seat) : b.seats n x = x.take (b.entryOf n) := by
  rw [Booking.seats, Booking.entryOf]
  cases b.roster.find? (fun e => e.seat == n) <;> rfl

theorem Part.servedSeats_eq (p : Part) (run : ZoneRun) :
    p.servedSeats run = seatNumbers.filter (fun n => p.seatIn run n && p.inService n) := by
  rw [Part.servedSeats, Part.seatsIn, List.filter_filter]
  simp only [Bool.and_comm]

theorem Part.rosterUnseated_eq (p : Part) (b : Booking) : p.rosterUnseated b.zones b.roster = p.unseats b := rfl

/-! ### Flags of an outcome -/

/-- An outcome flag stands in the record after it is added, whether or not it stood there before (R44). -/
theorem Part.addFlag_records (p : Part) (h k : Nat) (g : Booking → Booking) (b : Booking) (hk : p.slotOf h = some k)
    (hb : p.slotAt k = some b) : (p.addFlag h g).records = p.records.put k (g b) := by
  have hbook : p.bookingOf h = some b := by rw [p.bookingOf_slot h k hk, hb]
  rw [Part.addFlag, hbook]
  split
  · next hsame =>
    rw [Option.map_some, Option.some.injEq] at hsame
    rw [hsame, Records.put_self]
    exact p.slotAt_some k b hb
  · rw [Part.touchBooking_records, p.updBooking_records h k g b hk hb]

/-- Added flags change nothing else: the part but for slots, marks and notices. -/
theorem Part.addFlag_seats (p : Part) (h : Nat) (g : Booking → Booking) : (p.addFlag h g).seats = p.seats := by
  unfold Part.addFlag Part.touchBooking Part.updBooking
  repeat' split
  all_goals rfl

/-! ### Apply begins -/

/-- What the begin of a push leaves (R50): the seats of the zones hold what the roster offers them, the flag of an entry that
finds none, and an AWAITING entry for each seat in service. -/
structure PushingAt (p q : Part) (f k : Nat) (b c : Booking) (work : List WorkEntry) : Prop where
  records : q.records = { p.records with
    slots := upd p.slots k (fun _ => some
      { c with flags := { c.flags with rosterUnseated := c.flags.rosterUnseated || p.unseats b } })
    seats := q.records.seats
    contexts := upd p.contexts f (fun _ => some { booking := b.handle, phase := .push, work := work }) }
  work : freshWork (p.servedSeats b.zones) work
  seats : ∀ n x, nth p.seats n = some x → nth q.seats n = some (if p.seatIn b.zones n then b.seats n x else x)

/-- A push for the booking `b`, whose record in slot `k` is `c` by now. -/
theorem Part.beginPush_pushingAt (p : Part) (f k : Nat) (b c : Booking) (hk : p.slotOf b.handle = some k)
    (hc : p.slotAt k = some c) : ∃ work, PushingAt p (p.beginPush f b) f k b c work := by
  rw [Part.beginPush, p.rosterUnseated_eq b]
  have hflag : (if p.unseats b = true then (p.writeSeats b.zones b.entryOf).addFlag b.handle Booking.unseated
      else p.writeSeats b.zones b.entryOf).records =
      (p.writeSeats b.zones b.entryOf).records.put k
        { c with flags := { c.flags with rosterUnseated := c.flags.rosterUnseated || p.unseats b } } := by
    have hset := (p.writeSeats b.zones b.entryOf).addFlag_records b.handle k Booking.unseated c hk hc
    by_cases hu : p.unseats b = true
    · rw [if_pos hu, hset]
      simp [Booking.unseated, hu]
    · rw [if_neg hu]
      simp only [Bool.not_eq_true] at hu
      rw [hu, Bool.or_false, Records.put_self]
      exact p.slotAt_some k c hc
  have hseats : (if p.unseats b = true then (p.writeSeats b.zones b.entryOf).addFlag b.handle Booking.unseated
      else p.writeSeats b.zones b.entryOf).seats = (p.writeSeats b.zones b.entryOf).seats := by
    split
    · exact Part.addFlag_seats _ _ _
    · rfl
  generalize (if p.unseats b = true then (p.writeSeats b.zones b.entryOf).addFlag b.handle Booking.unseated
      else p.writeSeats b.zones b.entryOf) = flagged at hflag hseats ⊢
  generalize hwork : (p.servedSeats b.zones).map p.newWork = work
  refine ⟨work, ?_, ?_, fun n x hx => ?_⟩
  · rw [Part.requestSeats_records]
    have hcontext : (flagged.setContext f (some { booking := b.handle, phase := .push, work := work })).records =
        { flagged.records with
          contexts := upd flagged.records.contexts f (fun _ => some { booking := b.handle, phase := .push, work := work }) } := rfl
    rw [hcontext, hflag]
    rfl
  · rw [← hwork]; exact freshWork_newWork _ _
  · rw [Part.requestSeats_seats, Part.setContext_seats, hseats, p.writeSeats_seat, hx, b.seats_eq]
    rfl

/-- What the begin of an apply leaves (R49, R50): the floor bound to the booking, and its push begun. -/
structure ApplyingAt (p q : Part) (f k : Nat) (b : Booking) (work : List WorkEntry) : Prop where
  records : q.records = { p.records with
    slots := upd p.slots k (fun _ => some
      { b with state := .preparing, floor := some f
               flags := { b.flags with rosterUnseated := b.flags.rosterUnseated || p.unseats b } })
    floors := upd p.floors f (fun _ => b.floorIn .preparing)
    queues := upd p.queues f (fun _ => startQueue)
    seats := q.records.seats
    contexts := upd p.contexts f (fun _ => some { booking := b.handle, phase := .push, work := work }) }
  work : freshWork (p.servedSeats b.zones) work
  seats : ∀ n x, nth p.seats n = some x → nth q.seats n = some (if p.seatIn b.zones n then b.seats n x else x)

theorem Part.beginApply_applyingAt (p : Part) (f k : Nat) (b : Booking) (hk : p.slotOf b.handle = some k)
    (hb : p.slotAt k = some b) (hcalm : p.calm) : ∃ work, ApplyingAt p (p.beginApply f b) f k b work := by
  have hslot : (p.updBooking b.handle (fun b => { b with state := .preparing, floor := some f })).slotOf b.handle = some k ∧
      (p.updBooking b.handle (fun b => { b with state := .preparing, floor := some f })).slotAt k =
        some { b with state := .preparing, floor := some f } := by
    rw [p.updBooking_slot b.handle k _ hk]
    refine ⟨?_, p.slotAt_updSlot_same k _ b hb⟩
    rw [p.slotOf_updSlot k b.handle (fun b => { b with state := .preparing, floor := some f }) fun _ _ => rfl]
    exact hk
  have hnoted := p.updBooking_eq b.handle k (fun b => { b with state := .preparing, floor := some f }) b hk hb
  have hbound : ((p.updBooking b.handle (fun b => { b with state := .preparing, floor := some f })).updFloor f
      (fun _ => boundFloor b)).updQueue f (fun _ => startQueue) =
      { p with
        slots := upd p.slots k (fun _ => some { b with state := .preparing, floor := some f })
        floors := upd p.floors f (fun _ => boundFloor b)
        queues := upd p.queues f (fun _ => startQueue) } := by
    rw [hnoted]; rfl
  rw [Part.beginApply]
  rw [hnoted] at hslot
  rw [hbound]
  generalize hq : ({ p with
        slots := upd p.slots k (fun _ => some { b with state := .preparing, floor := some f })
        floors := upd p.floors f (fun _ => boundFloor b)
        queues := upd p.queues f (fun _ => startQueue) } : Part) = q
  have hqs : q.slotOf b.handle = some k ∧ q.slotAt k = some { b with state := .preparing, floor := some f } := by
    rw [← hq]; exact hslot
  have hqcalm : q.calm := p.calm_of_calmBut q f (boundFloor b) (p.calmBut_of_calm f hcalm) (by rw [← hq]) (by rw [← hq]) rfl
  rw [Part.evalSuspension_calm q hqcalm]
  obtain ⟨work, hrec, hwork, hseats⟩ := q.beginPush_pushingAt f k b _ hqs.1 hqs.2
  refine ⟨work, ?_, ?_, fun n x hx => ?_⟩
  · rw [hrec, ← hq]
    simp only [upd_upd]
    rfl
  · rw [← hq] at hwork; exact hwork
  · have h := hseats n x (by rw [← hq]; exact hx)
    have hin : q.seatIn b.zones n = p.seatIn b.zones n := by rw [← hq]; rfl
    rw [h, hin]

/-- A push with no seat in service to serve completes at once (R51): READY with its floor, where `start` is not noted. -/
theorem Part.completeApply_records (p : Part) (f k : Nat) (b : Booking) (fl : Floor) (hk : p.slotOf b.handle = some k)
    (hb : p.slotAt k = some b) (hfl : nth p.floors f = some fl) (hs : b.startNoted = false) :
    (p.completeApply f b).records = { p.records with
      contexts := upd p.contexts f (fun _ => none)
      slots := upd p.slots k (fun _ => some { b with state := .ready })
      floors := upd p.floors f (fun _ => { fl with state := .ready }) } := by
  have hnoted := (p.setContext f none).updBooking_eq b.handle k (fun b => { b with state := .ready }) b hk hb
  have hnot : ¬ b.startNoted = true := by rw [hs]; decide
  rw [Part.completeApply]
  rw [if_neg hnot, hnoted, Part.updFloor_eq _ f _ fl (by exact hfl)]
  rfl

end Sys2Proof.Machine
end

section
/-! The thresholds that begin a close-out and an apply, and the statement about the thresholds (O16). -/

namespace Sys2Proof.Machine

/-! ### What the records alone decide -/

section

variable {p q : Part}

theorem Part.seatAt_quiet_of_records (h : q.records = p.records) (n : Nat) : (q.seatAt n).quiet = (p.seatAt n).quiet :=
  getD_of_map Seat.quiet _ _ _ (nth_of_map Seat.quiet _ _ (congrArg Records.seats h) n)

theorem Part.inService_of_records (h : q.records = p.records) (n : Nat) : q.inService n = p.inService n := by
  have hx := congrArg (fun x : Seat => x.health.presence.inService) (Part.seatAt_quiet_of_records h n)
  exact hx

theorem Part.seatIn_of_records (h : q.records = p.records) (run : ZoneRun) (n : Nat) : q.seatIn run n = p.seatIn run n := by
  have hs : q.settings = p.settings := congrArg Records.settings h
  rw [Part.seatIn, Part.seatIn, Part.zoneOf, Part.zoneOf, hs]

theorem Part.servedSeats_of_records (h : q.records = p.records) (run : ZoneRun) : q.servedSeats run = p.servedSeats run := by
  simp only [Part.servedSeats_eq, Part.seatIn_of_records h, Part.inService_of_records h]

theorem Part.unseats_of_records (h : q.records = p.records) (b : Booking) : q.unseats b = p.unseats b := by
  simp only [Part.unseats, Part.seatIn_of_records h, Part.inService_of_records h]

/-- A seat of one part, as the other has it but for `mic_confirmed`. -/
theorem Part.nth_seat_of_quiet (h : q.records.seats = p.records.seats) (n : Nat) (x : Seat) (hx : nth p.seats n = some x) :
    ∃ y, nth q.seats n = some y ∧ y.quiet = x.quiet := by
  have hn := nth_of_map Seat.quiet q.seats p.seats h n
  rw [hx] at hn
  exact Option.map_eq_some_iff.1 hn

theorem Part.nth_seat_of_records (h : q.records = p.records) (n : Nat) (x : Seat) (hx : nth p.seats n = some x) :
    ∃ y, nth q.seats n = some y ∧ y.quiet = x.quiet :=
  Part.nth_seat_of_quiet (congrArg Records.seats h) n x hx

end

/-! ### One record after a write -/

section

variable {p q : Part} {f g : Nat}

theorem Part.floorAt_written {fl fl' : Floor} (h : q.floors = upd p.floors f (fun _ => fl')) (hfl : nth p.floors f = some fl) :
    q.floorAt f = fl' := by
  rw [Part.floorAt, h, nth_upd_same, hfl]; rfl

theorem Part.floorAt_other {F : Floor → Floor} (h : q.floors = upd p.floors f F) (hg : g ≠ f) : q.floorAt g = p.floorAt g := by
  rw [Part.floorAt, h, nth_upd_ne _ _ _ _ (Ne.symm hg)]; rfl

theorem Part.queueAt_written {w : Queue} {F : Queue → Queue} (h : q.queues = upd p.queues f F) (hw : nth p.queues f = some w) :
    q.queueAt f = F w := by
  rw [Part.queueAt, h, nth_upd_same, hw]; rfl

theorem Part.queueAt_other {F : Queue → Queue} (h : q.queues = upd p.queues f F) (hg : g ≠ f) :
    q.queueAt g = p.queueAt g := by
  rw [Part.queueAt, h, nth_upd_ne _ _ _ _ (Ne.symm hg)]; rfl

/-- A queue that has been emptied, there or not. -/
theorem Part.queueAt_emptied (h : q.queues = upd p.queues f (fun x => { x with entries := [] })) :
    (q.queueAt f).entries = [] := by
  rw [Part.queueAt, h, nth_upd_same]
  cases nth p.queues f <;> rfl

/-- A floor's place in a list of four. -/
theorem nth_of_four {α : Type} (l : List α) (hl : l.length = 4) (h1 : 1 ≤ f) (h4 : f ≤ 4) : ∃ x, nth l f = some x := by
  obtain ⟨j, rfl⟩ : ∃ j, f = j + 1 := ⟨f - 1, by omega⟩
  exact ⟨l[j], List.getElem?_eq_getElem (by omega)⟩

theorem Part.contextAt_written {c : Option OpContext} (h : q.contexts = upd p.contexts f (fun _ => c))
    (hl : p.contexts.length = 4) (h1 : 1 ≤ f) (h4 : f ≤ 4) : q.contextAt f = c := by
  obtain ⟨x, hx⟩ := nth_of_four p.contexts hl h1 h4
  rw [Part.contextAt, h, nth_upd_same, hx]; rfl

theorem Part.contextAt_other {F : Option OpContext → Option OpContext} (h : q.contexts = upd p.contexts f F) (hg : g ≠ f) :
    q.contextAt g = p.contextAt g := by
  rw [Part.contextAt, h, nth_upd_ne _ _ _ _ (Ne.symm hg)]; rfl

end

/-! ### Close-out from the thresholds -/

section

variable {r : Records} {k m f : Nat} {b : Booking} {fl : Floor}

theorem restsBut_of {Q : Part → Prop} {h : Nat} (hf : ∀ q, Q q → Q (q.follow q))
    (hs : ∀ q, Q q → ∃ r b, b.handle = h ∧ q.stands r k b m) : RestsBut k h m Q := by
  intro q hq
  obtain ⟨r, b, rfl, hb⟩ := hs q hq
  exact ⟨hf q hq, (restsBut_of_stands r k b m q hb).2⟩

theorem Part.calmBut_of_eq (p q : Part) (f : Nat) (hw : q.partitions = p.partitions) (hf : q.floors = p.floors)
    (h : p.calmBut f) : q.calmBut f := by
  obtain ⟨hwalls, hfloors⟩ := h
  refine ⟨fun k => ?_, fun g hg => ?_⟩
  · have := hwalls k
    rwa [Part.wallOpen, Part.partitionAt, ← hw] at this
  · have := hfloors g hg
    rwa [Part.floorAt, ← hf] at this

/-- The close-out of the moving booking has begun on floor `f` (R56). -/
def Closed (r : Records) (k m f : Nat) (b : Booking) (fl : Floor) (q : Part) : Prop :=
  ∃ p c fl' work, At r k m b p ∧ ClosingAt p c f k b.handle b fl fl' work ∧ q.records = c.records

theorem Closed.stands {q : Part} (h : Closed r k m f b fl q) : q.stands q.records k { b with state := .closing } m := by
  obtain ⟨p, c, fl', work, hp, hc, hq⟩ := h
  rw [hc.records] at hq
  exact Part.stands.write hp rfl (congrArg Records.slots hq) rfl (congrArg Records.clock hq)

theorem Closed.follow {q : Part} (old : Part) (h : Closed r k m f b fl q) : Closed r k m f b fl (old.follow q) := by
  obtain ⟨p, c, fl', work, hp, hc, hq⟩ := h
  exact ⟨p, c, fl', work, hp, hc, by rw [Part.follow_records, hq]⟩

theorem restsBut_closed : RestsBut k b.handle m (Closed r k m f b fl) :=
  restsBut_of (fun q hq => hq.follow q) fun q hq => ⟨q.records, { b with state := .closing }, rfl, hq.stands⟩

/-- A close-out with a microphone to close waits in its close phase (R56, R57). -/
theorem runs_closeOut (s : Part) (hs : s.records = r) (hcalm : s.calmBut f) (hfl : nth s.floors f = some fl)
    (hl : s.contexts.length = 4) (h1 : 1 ≤ f) (h4 : f ≤ 4) (hb : b.floor = some f)
    (hopen : ∃ n ∈ fl.openSeats, 1 ≤ n ∧ n ≤ 96) :
    Runs 2 [.closeOut b.handle] (At r k m b) (Closed r k m f b fl) := by
  refine Runs.task (ts := [.advance f]) (P' := Closed r k m f b fl) (fun p hp => ?_) (Runs.single fun q hq => ⟨q, ?_, hq.follow q⟩)
  · subst hs
    have hpf : p.floors = s.floors := congrArg Records.floors hp.1
    have hpw : p.partitions = s.partitions := congrArg Records.partitions hp.1
    obtain ⟨fl', work, hc⟩ := p.beginCloseOut_closingAt f k b.handle b fl hp.slotOf hp.slotAt (by rw [hpf, hfl])
      (s.calmBut_of_eq p f hpw hpf hcalm)
    exact ⟨p.beginCloseOut f b.handle, by simp [Part.doTask, Part.takeCloseOut, hp.bookingOf, hb],
      p, _, fl', work, hp, hc, Part.follow_records _ _⟩
  · obtain ⟨p, c, fl', work, hp, hc, hrec⟩ := id hq
    have hbook := hq.stands.bookingOf
    have hctx : q.contextAt f = some { booking := b.handle, phase := .close, work := work } := by
      refine Part.contextAt_written (p := p) (congrArg Records.contexts (hrec.trans hc.records)) ?_ h1 h4
      rw [← hl, ← Part.records_contexts s, hs]
      exact congrArg (fun r : Records => r.contexts.length) hp.1
    have hwait : ¬ settledWork work = true := by
      rw [hc.work.settled]
      obtain ⟨n, hn, hn1, hn96⟩ := hopen
      exact List.ne_nil_of_mem (List.mem_filter.2 ⟨List.mem_range'_1.2 ⟨hn1, by omega⟩, by simpa using hn⟩)
    dsimp only at hbook
    simp [Part.doTask, Part.takeAdvance, hctx, hbook, hwait]

/-- The table after a close-out has begun with a microphone open, seen from the records it began with. -/
theorem Closed.facts {q : Part} (s : Part) (hs : s.records = r) (hfl : nth s.floors f = some fl) (hl : s.contexts.length = 4)
    (h1 : 1 ≤ f) (h4 : f ≤ 4) (h : Closed r k m f b fl q) :
    q.clock = s.clock ∧ q.slotAt k = some { b with state := .closing } ∧ (q.floorAt f).state = .closing ∧
      (q.floorAt f).openList = [] ∧ (q.queueAt f).entries = [] ∧
      (∀ g, g ≠ f → q.floorAt g = s.floorAt g ∧ q.queueAt g = s.queueAt g) ∧
      ∃ x, q.contextAt f = some x ∧ x.booking = b.handle ∧ x.phase = .close ∧
        x.work.map (fun v => v.seat) = seatNumbers.filter (fun n => decide (n ∈ fl.openSeats)) := by
  have hslot := h.stands.slotAt
  obtain ⟨p, c, fl', work, hp, hc, hrec⟩ := h
  subst hs
  have hq := hrec.trans hc.records
  have hfloors : q.floors = upd s.floors f (fun _ => fl') :=
    (congrArg Records.floors hq).trans (congrArg (fun r : Records => upd r.floors f (fun _ => fl')) hp.1)
  have hqueues : q.queues = upd s.queues f (fun x => { x with entries := [] }) :=
    (congrArg Records.queues hq).trans (congrArg (fun r : Records => upd r.queues f (fun x => { x with entries := [] })) hp.1)
  have hcontexts : q.contexts = upd s.contexts f (fun _ => some { booking := b.handle, phase := .close, work := work }) :=
    (congrArg Records.contexts hq).trans (congrArg (fun r : Records => upd r.contexts f (fun _ => some { booking := b.handle, phase := .close, work := work })) hp.1)
  have hclock : q.clock = s.clock := (congrArg Records.clock hq).trans (congrArg Records.clock hp.1)
  have hfloor := Part.floorAt_written hfloors hfl
  refine ⟨hclock, hslot, ?_, by rw [hfloor, hc.openList], Part.queueAt_emptied hqueues,
    fun g hg => ⟨Part.floorAt_other hfloors hg, Part.queueAt_other hqueues hg⟩, _,
    Part.contextAt_written hcontexts hl h1 h4, rfl, rfl, hc.work.seats⟩
  rw [hfloor]
  exact congrArg Floor.state hc.shell

end

/-! ### Apply from the thresholds -/

/-- The booking `b` once apply has begun for it on floor `f` (R49, R50). -/
def Booking.onFloor (b : Booking) (st : BookingState) (f : Nat) (unseated : Bool) : Booking :=
  { b with state := st, floor := some f, flags := { b.flags with rosterUnseated := b.flags.rosterUnseated || unseated } }

/-- The part `s` after apply has begun for the booking `b` of slot `k` on floor `f`: the booking in state `st`, the floor in state
`fst`, and the operation `x` (R49 to R51). -/
structure AppliedTo (s : Part) (k f : Nat) (b : Booking) (st : BookingState) (fst : FloorState) (x : Option OpContext)
    (q : Part) : Prop where
  records : q.records = { s.records with
    slots := upd s.slots k (fun _ => some (b.onFloor st f (s.unseats b)))
    floors := upd s.floors f (fun _ => b.floorIn fst)
    queues := upd s.queues f (fun _ => startQueue)
    seats := q.records.seats
    contexts := upd s.contexts f (fun _ => x) }
  seats : ∀ n y, nth s.seats n = some y → ∃ z, nth q.seats n = some z ∧
    z.quiet = (if s.seatIn b.zones n then b.seats n y else y).quiet

section

variable {s : Part} {k m f : Nat} {b : Booking} {st : BookingState} {fst : FloorState} {x : Option OpContext}

theorem AppliedTo.of_records {q q' : Part} (h : AppliedTo s k f b st fst x q) (hq : q'.records = q.records) :
    AppliedTo s k f b st fst x q' := by
  obtain ⟨hrec, hseats⟩ := h
  refine ⟨by rw [hq]; exact hrec, fun n y hy => ?_⟩
  obtain ⟨z, hz, hzq⟩ := hseats n y hy
  obtain ⟨w, hw, hwq⟩ := Part.nth_seat_of_records hq n z hz
  exact ⟨w, hw, hwq.trans hzq⟩

/-- What the roster offers a seat does not look at `mic_confirmed`. -/
theorem Booking.seats_quiet (b : Booking) (n : Nat) (y z : Seat) (h : y.quiet = z.quiet) :
    (b.seats n y).quiet = (b.seats n z).quiet := by
  simp only [Booking.seats_eq]
  exact congrArg (fun u : Seat => u.take (b.entryOf n)) h

/-- Apply begun from records that differ from those of `s` in the record of slot `k` at most. -/
theorem appliedTo_of_applyingAt {p c : Part} {work : List WorkEntry} (hp : p.records = s.records.put k b)
    (h : ApplyingAt p c f k b work) :
    AppliedTo s k f b .preparing .preparing (some { booking := b.handle, phase := .push, work := work }) c ∧
      freshWork (s.servedSeats b.zones) work := by
  obtain ⟨hrec, hwork, hseats⟩ := h
  have hlike : ({ s with slots := upd s.slots k (fun _ => some b) } : Part).records = s.records.put k b := rfl
  have hpl := hp.trans hlike.symm
  have hun : p.unseats b = s.unseats b := Part.unseats_of_records hpl b
  have hslots : upd p.slots k (fun _ => some (b.onFloor .preparing f (s.unseats b))) =
      upd s.slots k (fun _ => some (b.onFloor .preparing f (s.unseats b))) := by
    rw [show p.slots = _ from congrArg Records.slots hp]
    exact upd_upd _ _ _ _
  refine ⟨⟨?_, fun n y hy => ?_⟩, (Part.servedSeats_of_records hpl b.zones) ▸ hwork⟩
  · rw [hun] at hrec
    have hrec' := hrec.trans (congrArg (fun t : List (Option Booking) => { p.records with
      slots := t
      floors := upd p.floors f (fun _ => b.floorIn .preparing)
      queues := upd p.queues f (fun _ => startQueue)
      seats := c.records.seats
      contexts := upd p.contexts f (fun _ => some { booking := b.handle, phase := .push, work := work }) }) hslots)
    refine hrec'.trans ?_
    exact congrArg (fun r : Records => { r with
      slots := upd s.slots k (fun _ => some (b.onFloor .preparing f (s.unseats b)))
      floors := upd r.floors f (fun _ => b.floorIn .preparing)
      queues := upd r.queues f (fun _ => startQueue)
      seats := c.records.seats
      contexts := upd r.contexts f (fun _ => some { booking := b.handle, phase := .push, work := work }) }) hp
  · obtain ⟨z, hz, hzq⟩ := Part.nth_seat_of_records hpl n y hy
    refine ⟨_, hseats n z hz, ?_⟩
    have hin : p.seatIn b.zones n = s.seatIn b.zones n := Part.seatIn_of_records hpl b.zones n
    rw [hin]
    split
    · exact b.seats_quiet n z y hzq
    · exact hzq

theorem AppliedTo.slotAt {q : Part} (h : AppliedTo s k f b st fst x q) {c : Booking} (hc : s.slotAt k = some c) :
    q.slotAt k = some (b.onFloor st f (s.unseats b)) := by
  have hslots : q.slots = _ := congrArg Records.slots h.records
  rw [Part.slotAt, hslots, nth_upd_same, s.slotAt_some k c hc]; rfl

theorem AppliedTo.stands {p q : Part} (h : AppliedTo s k f b st fst x q) (hp : At s.records k m b p) :
    q.stands q.records k (b.onFloor st f (s.unseats b)) m := by
  refine Part.stands.write hp rfl ?_ rfl ((congrArg Records.clock h.records).trans (congrArg Records.clock hp.1).symm)
  have hslots := congrArg (fun r : Records => upd r.slots k (fun _ => some (b.onFloor st f (s.unseats b)))) hp.1
  exact (congrArg Records.slots h.records).trans ((upd_upd _ _ _ _).symm.trans hslots.symm)

theorem AppliedTo.floorAt {q : Part} (h : AppliedTo s k f b st fst x q) {fl : Floor} (hfl : nth s.floors f = some fl) :
    q.floorAt f = b.floorIn fst :=
  Part.floorAt_written (congrArg Records.floors h.records) hfl

theorem AppliedTo.queueAt {q : Part} (h : AppliedTo s k f b st fst x q) {w : Queue} (hw : nth s.queues f = some w) :
    q.queueAt f = { entries := [], lastArrival := 0 } :=
  Part.queueAt_written (congrArg Records.queues h.records) hw

theorem AppliedTo.contextAt {q : Part} (h : AppliedTo s k f b st fst x q) (hl : s.contexts.length = 4) (h1 : 1 ≤ f)
    (h4 : f ≤ 4) : q.contextAt f = x :=
  Part.contextAt_written (congrArg Records.contexts h.records) hl h1 h4

theorem AppliedTo.others {q : Part} (h : AppliedTo s k f b st fst x q) (g : Nat) (hg : g ≠ f) :
    q.floorAt g = s.floorAt g ∧ q.queueAt g = s.queueAt g ∧ q.contextAt g = s.contextAt g :=
  ⟨Part.floorAt_other (congrArg Records.floors h.records) hg, Part.queueAt_other (congrArg Records.queues h.records) hg,
    Part.contextAt_other (congrArg Records.contexts h.records) hg⟩

theorem AppliedTo.seatAt {q : Part} (h : AppliedTo s k f b st fst x q) (n : Nat) (y : Seat) (hy : nth s.seats n = some y) :
    (q.seatAt n).quiet = (if s.seatIn b.zones n then b.seats n y else y).quiet := by
  obtain ⟨z, hz, hzq⟩ := h.seats n y hy
  rw [q.seatAt_of_nth n z hz, hzq]

/-- The records that a begun apply writes. -/
theorem AppliedTo.frame {q : Part} (h : AppliedTo s k f b st fst x q) :
    q.records = { s.records with
      seats := q.records.seats, slots := q.slots, floors := q.floors, queues := q.queues, contexts := q.contexts } := by
  have hslots := congrArg Records.slots h.records
  have hfloors := congrArg Records.floors h.records
  have hqueues := congrArg Records.queues h.records
  have hcontexts := congrArg Records.contexts h.records
  refine h.records.trans ?_
  simp only [Part.records_slots, Part.records_floors, Part.records_queues, Part.records_contexts] at hslots hfloors hqueues hcontexts
  rw [hslots, hfloors, hqueues, hcontexts]

/-- A push with no seat to serve is complete (R50, R51): READY with its floor. -/
theorem AppliedTo.completes {q : Part} (h : AppliedTo s k f b .preparing .preparing x q) {fl : Floor}
    (hfl : nth s.floors f = some fl) (hk : q.slotOf b.handle = some k)
    (hb : q.slotAt k = some (b.onFloor .preparing f (s.unseats b))) (hs : b.startNoted = false) :
    AppliedTo s k f b .ready .ready none (q.completeApply f (b.onFloor .preparing f (s.unseats b))) := by
  have hfloor : nth q.floors f = some (b.floorIn .preparing) := by
    rw [show q.floors = _ from congrArg Records.floors h.records, nth_upd_same, hfl]; rfl
  have hdone := q.completeApply_records f k (b.onFloor .preparing f (s.unseats b)) (b.floorIn .preparing) hk hb hfloor hs
  refine ⟨hdone.trans ?_, fun n y hy => ?_⟩
  · have hseats := congrArg Records.seats hdone
    generalize q.completeApply f (b.onFloor .preparing f (s.unseats b)) = c at hseats
    have hrec := congrArg (fun r : Records => { r with
      contexts := upd r.contexts f (fun _ => none)
      slots := upd r.slots k (fun _ => some (b.onFloor .ready f (s.unseats b)))
      floors := upd r.floors f (fun _ => b.floorIn .ready)
      seats := c.records.seats }) h.records
    simp only [upd_upd] at hrec
    rw [← hrec, hseats]
    rfl
  · obtain ⟨z, hz, hzq⟩ := h.seats n y hy
    have hquiet := congrArg Records.seats hdone
    obtain ⟨w, hw, hwq⟩ := Part.nth_seat_of_quiet (p := q) hquiet n z hz
    exact ⟨w, hw, hwq.trans hzq⟩

/-- The operation that a push leaves on its floor: none where it was complete at once. -/
def pushContext (b : Booking) (served : List Nat) (x : Option OpContext) : Prop :=
  if served = [] then x = none
  else ∃ work, x = some { booking := b.handle, phase := .push, work := work } ∧ freshWork served work

/-- The states of the booking and of its floor after a push has begun (R50, R51). -/
def pushState (served : List Nat) : BookingState := if served = [] then .ready else .preparing
def pushFloor (served : List Nat) : FloorState := if served = [] then .ready else .preparing

/-- Apply has begun for the moving booking, and is complete where no seat is to be served. -/
def Applied (s : Part) (k m f : Nat) (b : Booking) (q : Part) : Prop :=
  ∃ p x, At s.records k m b p ∧ pushContext b (s.servedSeats b.zones) x ∧
    AppliedTo s k f b (pushState (s.servedSeats b.zones)) (pushFloor (s.servedSeats b.zones)) x q

theorem Applied.follow {q : Part} (old : Part) (h : Applied s k m f b q) : Applied s k m f b (old.follow q) := by
  obtain ⟨p, x, hp, hx, hq⟩ := h
  exact ⟨p, x, hp, hx, hq.of_records (Part.follow_records _ _)⟩

theorem Applied.stands {q : Part} (h : Applied s k m f b q) :
    q.stands q.records k (b.onFloor (pushState (s.servedSeats b.zones)) f (s.unseats b)) m := by
  obtain ⟨p, x, hp, -, hq⟩ := h
  exact hq.stands hp

theorem restsBut_applied : RestsBut k b.handle m (Applied s k m f b) :=
  restsBut_of (fun q hq => hq.follow q)
    fun q hq => ⟨q.records, b.onFloor (pushState (s.servedSeats b.zones)) f (s.unseats b), rfl, hq.stands⟩

/-- R28's test passed: apply begins on the lowest FREE floor, and its push is complete at once where it has no seat to serve. -/
theorem runs_tryBegin {fl : Floor} (hcalm : s.calm) (hawake : s.control.tableState = .awake) (hun : s.unheld b.zones = true)
    (hfree : s.freeFloor = some f) (hfl : nth s.floors f = some fl) (hl : s.contexts.length = 4) (h1 : 1 ≤ f) (h4 : f ≤ 4)
    (hw : b.state = .waiting) (hs : b.startNoted = false) :
    Runs 2 [.tryBegin b.handle] (At s.records k m b) (Applied s k m f b) := by
  refine Runs.task (ts := [.advance f])
    (P' := fun q => ∃ p work, At s.records k m b p ∧ freshWork (s.servedSeats b.zones) work ∧
      AppliedTo s k f b .preparing .preparing (some { booking := b.handle, phase := .push, work := work }) q)
    (fun p hp => ?begin) (Runs.single fun q hq => ?advance)
  case begin =>
    have hpf : p.floors = s.floors := congrArg Records.floors hp.1
    have hpu : p.unheld b.zones = true := by
      rw [← hun]
      simp only [Part.unheld, Part.floorOfZone, Part.floorAt, hpf]
    have hpa : p.control.tableState = .awake := (congrArg (fun r : Records => r.control.tableState) hp.1).trans hawake
    have hpfree : p.freeFloor = some f := by rw [← hfree, Part.freeFloor, Part.freeFloor]; simp only [Part.floorAt, hpf]; rfl
    have hpcalm : p.calm := s.calm_of_eq p (congrArg Records.partitions hp.1) hpf hcalm
    obtain ⟨work, hwork⟩ := p.beginApply_applyingAt f k b hp.slotOf hp.slotAt hpcalm
    obtain ⟨hto, hfresh⟩ := appliedTo_of_applyingAt hp.1 hwork
    exact ⟨p.beginApply f b, by simp [Part.doTask, Part.takeTry, hp.bookingOf, Part.canBegin, hw, hpu, hpa, Part.startApply, hpfree],
      p, work, hp, hfresh, hto.of_records (Part.follow_records _ _)⟩
  case advance =>
    obtain ⟨p, work, hp, hfresh, hto⟩ := hq
    have hstands := hto.stands hp
    have hbook := hstands.bookingOf
    have hctx : q.contextAt f = some { booking := b.handle, phase := .push, work := work } :=
      Part.contextAt_written (p := s) (congrArg Records.contexts hto.records) hl h1 h4
    have hbook : q.bookingOf b.handle = some (b.onFloor .preparing f (s.unseats b)) := hbook
    have hnoted : (b.onFloor .preparing f (s.unseats b)).startNoted = false := hs
    by_cases hserved : s.servedSeats b.zones = []
    · have hdone : settledWork work = true := hfresh.settled.2 hserved
      refine ⟨q.completeApply f (b.onFloor .preparing f (s.unseats b)),
        by simp [Part.doTask, Part.takeAdvance, hctx, hbook, hdone, hnoted], p, none, hp, by simp [pushContext, hserved], ?_⟩
      rw [pushState, pushFloor, if_pos hserved, if_pos hserved]
      exact (hto.completes hfl hstands.slotOf hstands.slotAt hs).of_records (Part.follow_records _ _)
    · have hwait : ¬ settledWork work = true := fun h => hserved (hfresh.settled.1 h)
      refine ⟨q, by simp [Part.doTask, Part.takeAdvance, hctx, hbook, hwait], p,
        some { booking := b.handle, phase := .push, work := work }, hp, ?_, ?_⟩
      · rw [pushContext, if_neg hserved]; exact ⟨work, rfl, hfresh⟩
      · rw [pushState, pushFloor, if_neg hserved, if_neg hserved]
        exact hto.of_records (Part.follow_records _ _)

end

/-! ### The thresholds -/

/-- The lowest FREE floor (R11). -/
theorem Part.freeFloor_of (p : Part) (f : Nat) (h1 : 1 ≤ f) (h4 : f ≤ 4) (hfree : (p.floorAt f).state = .free)
    (hlow : ∀ g, 1 ≤ g → g < f → (p.floorAt g).state ≠ .free) : p.freeFloor = some f := by
  have hn : floorNumbers = List.range' 1 4 := rfl
  rw [Part.freeFloor, hn, List.find?_range'_eq_some]
  refine ⟨by simpa using hfree, by rw [List.mem_range'_1]; omega, fun g hg hlt => ?_⟩
  simpa using hlow g hg hlt

/-- What a booking that begins its apply at the occupation start leaves behind it (R27, R28, R49). -/
theorem runs_occStart_begins {s : Part} {k m f : Nat} {b : Booking} {fl : Floor} (hcalm : s.calm)
    (hawake : s.control.tableState = .awake) (hun : s.unheld b.zones = true) (hfree : s.freeFloor = some f)
    (hfl : nth s.floors f = some fl) (hl : s.contexts.length = 4) (h1 : 1 ≤ f) (h4 : f ≤ 4) (hp : b.state = .pending)
    (hs : b.startNoted = false) (ho : b.occStart ≤ m) (hstart : m < b.startMinute) (hend : m < b.occEnd) :
    Runs 5 (timeEvents b.handle) (At s.records k m b) (Applied s k m f { b with state := .waiting }) := by
  have hocc : Runs 3 [.occStart b.handle] (At s.records k m b) (Applied s k m f { b with state := .waiting }) := by
    refine runs_write (fun b => { b with state := .waiting }) (ts := [.tryBegin b.handle]) (fun p hat => ?_) rfl
      (runs_tryBegin (b := { b with state := .waiting }) hcalm hawake hun hfree hfl hl h1 h4 rfl hs)
    have ho' : b.occStart ≤ p.clock.minute := by rw [hat.2.2]; exact ho
    simp [Part.doTask, Part.takeOccStart, hat.bookingOf, hp, ho']
  have rests : ((({ b with state := .waiting } : Booking).onFloor (pushState (s.servedSeats b.zones)) f (s.unseats b))).restsAt m := by
    rw [pushState]
    split
    · exact ⟨hstart, hend⟩
    · exact ⟨.inl hstart, .inl hend⟩
  have rest : ∀ t, (∀ q, Applied s k m f { b with state := .waiting } q → q.doTask t = (q, [])) →
      Runs 1 [t] (Applied s k m f { b with state := .waiting }) (Applied s k m f { b with state := .waiting }) :=
    fun t ht => Runs.single fun q hq => ⟨q, ht q hq, hq.follow q⟩
  refine runs_timeEvents hocc (rest _ fun q hq => ?_) (rest _ fun q hq => ?_)
  · refine (q.takeStart_rest _ _ hq.stands.bookingOf ?_ : q.takeStart b.handle = (q, []))
    rw [hq.stands.2.2]
    exact rests
  · refine (q.takeEnd_rest _ _ hq.stands.bookingOf ?_ : q.takeEnd b.handle = (q, []))
    rw [hq.stands.2.2]
    exact rests

end Sys2Proof.Machine
end

section
/-! The statement about the thresholds at a minute boundary (O16), and the one about the room clock (O15). -/

namespace Sys2Proof.Machine

/-- The part in which the clock has gone on to the minute boundary. -/
def Part.atMinute (p : Part) (m : Nat) : Part := { p with clock := { valid := true, minute := m, second := 0 } }

section

variable {s : State} {k m : Nat} {b : Booking}

/-- A run of the moving booking's time events that ends in known records. -/
theorem leaves_minute {b' : Booking} {r' : Records} {n : Nat} (hr : s.runs) (hv : s.part.clock.valid = true)
    (hlast : s.part.clock.minute < 16777215) (hsec : s.part.clock.second = 59) (hm : m = s.part.clock.minute + 1)
    (ha : s.part.control.tableState = .awake) (hone : s.part.onlyOneMoves k b m)
    (hrun : Runs n (timeEvents b.handle) (At (s.part.atMinute m).records k m b) (At r' k m b')) (hn : n ≤ 3000)
    (hh : b'.handle = b.handle) : Leaves .minuteBoundary s (r'.put k b') := by
  subst hm
  refine leaves_of_ends _ _ _ ?_
  obtain ⟨p, hp, hrec⟩ := ends_minuteBoundary s _ hr hv hlast hsec rfl ha
  refine ⟨p, hp, hrec.trans ?_⟩
  exact (s.part.atMinute _).evalTimes_at k _ n b b' r' hone rfl rfl hh hrun hn

/-- A run of the moving booking's time events that ends in a part with `Q`. -/
theorem ends_minute {Q : Part → Prop} {n : Nat} (hr : s.runs) (hv : s.part.clock.valid = true)
    (hlast : s.part.clock.minute < 16777215) (hsec : s.part.clock.second = 59) (hm : m = s.part.clock.minute + 1)
    (ha : s.part.control.tableState = .awake) (hone : s.part.onlyOneMoves k b m)
    (hrun : Runs n (timeEvents b.handle) (At (s.part.atMinute m).records k m b) Q) (hn : n ≤ 3000)
    (hQ : RestsBut k b.handle m Q) : ∃ p q, Ends .minuteBoundary s p ∧ p.records = q.records ∧ Q q := by
  subst hm
  obtain ⟨p, hp, hrec⟩ := ends_minuteBoundary s _ hr hv hlast hsec rfl ha
  have hself : (s.part.atMinute (s.part.clock.minute + 1)).records.put k b = (s.part.atMinute (s.part.clock.minute + 1)).records :=
    Records.put_self _ _ _ (s.part.slotAt_some k b hone.2.1)
  refine ⟨p, _, hp, hrec, ?_⟩
  exact (s.part.atMinute _).evalTimes_one k _ n b _ Q rfl hone.1 hone.2.1 ⟨hself.symm, hone, rfl⟩
    (restsBut_of_stands ((s.part.atMinute _).records.put k b) k b _) hQ hrun hn

end

/-- `end` + `grace` of a LIVE booking with a microphone open: its close-out waits for the seats it closes (R27, R56). -/
theorem runs_end_closes {s : Part} {k m f : Nat} {b : Booking} {fl : Floor} (hcalm : s.calm) (hs : b.state = .live)
    (hf : b.floor = some f) (hfl : nth s.floors f = some fl) (hl : s.contexts.length = 4) (h1 : 1 ≤ f) (h4 : f ≤ 4)
    (he : b.occEnd ≤ m) (hopen : ∃ n ∈ fl.openSeats, 1 ≤ n ∧ n ≤ 96) :
    Runs 5 (timeEvents b.handle) (At s.records k m b) (Closed s.records k m f b fl) := by
  refine runs_timeEvents (n₃ := 3) (runs_occStart_rest (.inl (by rw [hs]; decide))) (runs_start_rest (.inr (.inl hs))) ?_
  refine Runs.task (ts := [.closeOut b.handle]) (fun p hp => ⟨p, ?_, hp.follow p⟩)
    (runs_closeOut s rfl (s.calmBut_of_calm f hcalm) hfl hl h1 h4 hf hopen)
  have he' : b.occEnd ≤ p.clock.minute := by rw [hp.2.2]; exact he
  simp [Part.doTask, Part.takeEnd, hp.bookingOf, hs, he']

/-- Settles O16: each state's thresholds are a run of tasks of their own, and no other booking's time events do anything. -/
theorem thresholdsActOnTheBooking : Obligations.ThresholdsActOnTheBooking := by
  intro s k m b clock hr hv hlast hsec hm hclock ha hone hcalm
  subst hclock
  have leaves := fun {b' : Booking} {r' : Records} {n : Nat} => leaves_minute (s := s) (k := k) (b := b) (b' := b') (r' := r') (n := n)
    hr hv hlast hsec hm ha hone
  refine ⟨fun hs hheld ho he => ?missed, fun hs ht he => ?noted, fun hs => ?preparing, fun f fl hs hf hfl ht he => ?live,
    fun f fl hs hf hfl hl h1 h4 he hopen => ?closing, fun hs => ?rest,
    fun f fl w served hs hn ho ht he hun h1 h4 hlow hfl hfree hw hl hserved => ?applies⟩
  case missed =>
    obtain ⟨n, hn, hrun⟩ := runs_missed (r := (s.part.atMinute m).records) (k := k) (s.part.atMinute m) rfl hs hheld ho he
    exact leaves hrun hn rfl
  case noted =>
    have hrun := runs_timeEvents (b := b) (runs_occStart_rest (k := k) (m := m) (r := (s.part.atMinute m).records) (.inl (by rw [hs]; decide)))
      (runs_start_noted (.inl hs) ht) (runs_end_ahead (b := { b with startNoted := true }) he)
    exact leaves hrun (by decide) rfl
  case preparing =>
    have hrun := runs_timeEvents (b := b) (runs_occStart_rest (k := k) (m := m) (r := (s.part.atMinute m).records) (.inl (by rw [hs]; decide)))
      (runs_start_waiting (.inr hs)) (runs_end_preparing (b := { b with startNoted := b.startNoted || decide (b.startMinute ≤ m) }) hs)
    exact leaves hrun (by decide) rfl
  case live =>
    have hrun := runs_timeEvents (b := b) (runs_occStart_rest (k := k) (m := m) (r := (s.part.atMinute m).records) (.inl (by rw [hs]; decide)))
      (runs_start_live (s.part.atMinute m) f fl rfl rfl hcalm hs hf hfl ht) (runs_end_ahead (b := { b with state := .live }) he)
    exact leaves hrun (by decide) rfl
  case closing =>
    have hopen' : ∃ n ∈ fl.openSeats, 1 ≤ n ∧ n ≤ 96 := by
      obtain ⟨a, ha, hseat⟩ := hopen
      exact ⟨a.seat, List.mem_map_of_mem ha, hseat⟩
    obtain ⟨p, q, hp, hrec, hq⟩ := ends_minute hr hv hlast hsec hm ha hone
      (runs_end_closes (s := s.part.atMinute m) (m := m) hcalm hs hf hfl hl h1 h4 he hopen') (by decide) restsBut_closed
    have hclosed : Closed (s.part.atMinute m).records k m f b fl p := by
      obtain ⟨a, c, fl', work, hat, hc, hqc⟩ := hq
      exact ⟨a, c, fl', work, hat, hc, hrec.trans hqc⟩
    exact ⟨p, hp, hclosed.facts (s.part.atMinute m) rfl hfl hl h1 h4⟩
  case rest =>
    have hself : (s.part.atMinute m).records.put k b = (s.part.atMinute m).records :=
      Records.put_self _ _ _ (s.part.slotAt_some k b hone.2.1)
    have hocc := runs_occStart_rest (r := (s.part.atMinute m).records) (k := k) (m := m) (b := b)
      (.inl (by rcases hs with h | h | ⟨h, -⟩ <;> rw [h] <;> decide))
    have hstart := runs_start_rest (r := (s.part.atMinute m).records) (k := k) (m := m) (b := b)
      (by rcases hs with h | h | ⟨h, -⟩ <;> simp [h])
    have hend : Runs 1 [.endReached b.handle] (At (s.part.atMinute m).records k m b) (At (s.part.atMinute m).records k m b) := by
      rcases hs with h | h | ⟨-, h⟩
      · exact runs_end_rest (.inl h)
      · exact runs_end_rest (.inr h)
      · exact runs_end_ahead h
    have := leaves (runs_timeEvents hocc hstart hend) (by decide) rfl
    rwa [hself] at this
  case applies =>
    have hfree' := s.part.freeFloor_of f h1 h4 (by rw [s.part.floorAt_of_nth f fl hfl, hfree]) hlow
    obtain ⟨p, q, hp, hrec, hq⟩ := ends_minute hr hv hlast hsec hm ha hone
      (runs_occStart_begins (s := s.part.atMinute m) hcalm ha hun hfree' hfl hl h1 h4 hs hn ho ht he) (by decide)
      restsBut_applied
    obtain ⟨a, x, hat, hx, hto⟩ := hq
    have hto := hto.of_records hrec
    have hserved' : (s.part.atMinute m).servedSeats b.zones = served := by rw [hserved, Part.servedSeats_eq]; rfl
    dsimp only at hx hto
    rw [hserved'] at hx hto
    have hcontext := hto.contextAt hl h1 h4
    refine ⟨p, hp, hto.slotAt hone.2.1, hto.floorAt hfl, hto.queueAt hw, ?context, hto.seatAt, hto.others, hto.frame⟩
    case context =>
      rw [hcontext]
      rw [pushContext] at hx
      split
      · next hnone => rwa [if_pos hnone] at hx
      · next hsome =>
        rw [if_neg hsome] at hx
        obtain ⟨work, rfl, hwork⟩ := hx
        exact ⟨_, rfl, rfl, rfl, hwork⟩

/-! ### The room clock -/

theorem parseClock_bytes (minute second : Nat) (hm : minute ≤ 16777215) (hs : second < 256) :
    parseClock (bytes 3 minute ++ byte second) = some (minute, second) := by
  have h2 := readNat_byte second hs []
  rw [List.append_nil] at h2
  simp [parseClock, readNat_three minute (by omega), h2, whole]

/-- SET_CLOCK dispatched with the minute and the second of its body. -/
theorem exec_setClock (s : State) (minute second : Nat) (hm : minute ≤ 16777215) (hs : second < 256) :
    exec (.setClock (bytes 3 minute ++ byte second)) s = s.become (s.part.request 0x09 (some (minute, second)) clockOwner) := by
  rw [← parseClock_bytes minute second hm hs]; rfl

theorem clockOwner_of (p : Part) (minute second : Nat) (hm : minute ≤ 16777215) (hs : second ≤ 59) :
    clockOwner (minute, second) p =
      ({ p with clock := { valid := true, minute := minute, second := second } } : Part).evalTimes.dueTest.done := by
  have hok : clockOk minute second = true := by simp [clockOk, Config.lastMinute, hm, hs]
  simp [clockOwner, hok]

theorem clockOwner_beyond (p : Part) (minute second : Nat) (hs : 59 < second) :
    clockOwner (minute, second) p = p.refuse .badValue := by
  have hok : clockOk minute second = false := by simp [clockOk]; omega
  simp [clockOwner, hok]

/-- The time events, and the wake cause of a due booking, leave the base. -/
theorem Part.evalDue_base (p : Part) : p.evalTimes.dueTest.base = p.base := by simp

/-- Where every booking is ENDED, time events and the wake test do nothing (R24, R26, R172). -/
theorem Part.evalDue_ended (p : Part) (h : ∀ k b, p.slotAt k = some b → b.state = .ended) :
    p.evalTimes.dueTest.records = p.records := by
  have hrec := p.evalTimes_idle h
  have hslots : p.evalTimes.slots = p.slots := congrArg Records.slots hrec
  rw [Part.dueTest_idle, hrec]
  intro k b hb
  rw [p.evalTimes.slotAt_of_slots p hslots] at hb
  exact h k b hb

theorem Part.clockSecond_below (p : Part) (h : p.clock.second < 59) :
    (p.clockSecond).records = { p.records with clock := p.clockSecond.clock } := by
  rw [Part.clockSecond, if_pos h]
  split <;> rfl

theorem Clock.runs_iff (c : Clock) : c.runs = true ↔ ¬ (c.valid = false ∨ (c.minute = 16777215 ∧ c.second = 59)) := by
  cases hv : c.valid
  · simp [Clock.runs, hv]
  · simp [Clock.runs, hv, Config.lastMinute, imp_iff_not_or]

/-- The clock after a second (R23). -/
theorem Part.clockSecond_clock (p : Part) : p.clockSecond.clock =
    if p.clock.valid = false ∨ (p.clock.minute = 16777215 ∧ p.clock.second = 59) then p.clock
    else if p.clock.second < 59 then { p.clock with second := p.clock.second + 1 }
    else { p.clock with minute := p.clock.minute + 1, second := 0 } := by
  have hadv : p.clockSecond.clock = if p.clock.runs then p.clock.advance else p.clock := by
    rw [Part.clockSecond]
    split
    · split
      · rfl
      · exact (Part.clock_of_base _ _ (Part.evalDue_base _)).trans rfl
    · rfl
  rw [hadv]
  by_cases hr : p.clock.valid = false ∨ (p.clock.minute = 16777215 ∧ p.clock.second = 59)
  · rw [if_pos hr, if_neg (fun h => p.clock.runs_iff.1 h hr)]
  · rw [if_neg hr, if_pos (p.clock.runs_iff.2 hr)]; rfl

/-- A second of the clock leaves the base but for the clock. -/
theorem Part.clockSecond_base (p : Part) : p.clockSecond.base = { p.base with clock := p.clockSecond.clock } := by
  rw [Part.clockSecond]
  split
  · split
    · rfl
    · rw [Part.minuteBoundary, Part.clock_of_base _ _ (Part.evalDue_base _), Part.evalDue_base]; rfl
  · rfl

/-- The booking that reaches its occupation start on held zones waits, and nothing else changes (R27, R28). -/
theorem minuteBoundary_waits (s : State) (k : Nat) (b : Booking) (hr : s.runs) (hv : s.part.clock.valid = true)
    (hlast : s.part.clock.minute < 16777215) (hsec : s.part.clock.second = 59) (ha : s.part.control.tableState = .awake)
    (hone : s.part.onlyOneMoves k b (s.part.clock.minute + 1)) (hs : b.state = .pending)
    (ho : b.startMinute - b.lead ≤ s.part.clock.minute + 1) (hstart : s.part.clock.minute + 1 < b.startMinute)
    (hend : s.part.clock.minute + 1 < b.endMinute + b.grace) (hheld : s.part.unheld b.zones = false) :
    Leaves .minuteBoundary s { s.part.records with
      clock := { valid := true, minute := s.part.clock.minute + 1, second := 0 }
      slots := upd s.part.slots k (fun _ => some { b with state := .waiting }) } :=
  leaves_minute hr hv hlast hsec rfl ha hone
    (runs_timeEvents (runs_occStart_waits (s.part.atMinute (s.part.clock.minute + 1)) rfl hs ho hheld)
      (runs_start_ahead (b := { b with state := .waiting }) hstart) (runs_end_ahead (b := { b with state := .waiting }) hend))
    (by decide) rfl

/-- A command has one outcome. -/
theorem records_of_leaves (c : Instr) (s : State) (r : Records) (p : Part) (h : Leaves c s r)
    (hp : exec c s = .next { s with part := p }) : p.records = r := by
  obtain ⟨q, hq, -, hrec⟩ := h
  rw [hq] at hp
  injection hp with hp
  injection hp with hp
  rw [← hp, hrec]

/-- Settles O15: SET_CLOCK, a second and a minute boundary each write the clock and then evaluate the time events, which leave the
base of the part. -/
theorem theClockIsSetAndPasses : Obligations.TheClockIsSetAndPasses := by
  refine ⟨fun s minute second hr hm hs => ⟨fun h59 => ?set, fun h59 => ?beyond⟩, fun s minute second hr hm hs hended => ?ended,
    fun s hr => ?second, fun s hr hv hlast hsec => ?minute⟩
  case set =>
    have hx := exec_setClock s minute second hm hs
    have ho := clockOwner_of s.part minute second hm h59
    rw [s.part.request_taken _ _ _ hr (by rw [ho]; rfl), ho] at hx
    have hbase := Part.evalDue_base { s.part with clock := { valid := true, minute := minute, second := second } }
    generalize Part.dueTest _ = q at hx hbase
    refine ⟨_, hx, rfl, ?_⟩
    simp only [Part.setAnswer_clock, Part.setAnswer_now, Part.setAnswer_settings, Part.setAnswer_store, Part.setAnswer_partitions,
      Part.setAnswer_ambient, Part.setAnswer_notices, Part.setAnswer_power, Part.done, Part.settle_clock, Part.settle_now,
      Part.settle_settings, Part.settle_store, Part.settle_partitions, Part.settle_ambient, Part.settle_enables,
      Part.settle_signals, Part.settle_power]
    exact ⟨congrArg Base.clock hbase, congrArg Base.now hbase, congrArg Base.settings hbase, congrArg Base.store hbase,
      congrArg Base.partitions hbase, congrArg Base.ambient hbase, congrArg Base.enables hbase, congrArg Base.signals hbase,
      (congrArg Base.power hbase).trans hr⟩
  case beyond =>
    exact answers_of_refused _ s _ _ clockOwner .badValue (exec_setClock s minute second hm hs) hr
      (clockOwner_beyond s.part minute second h59) rfl
  case ended =>
    have hrec := Part.evalDue_ended { s.part with clock := { valid := true, minute := minute, second := second } } hended
    have h := answersWith_of_taken _ s _ _ clockOwner _ (exec_setClock s minute second hm (by omega)) hr
      (clockOwner_of s.part minute second hm hs) rfl
    rw [Part.done, hrec] at h
    exact h
  case second =>
    have hr' : s.part.power = .running := hr
    have hbase := s.part.clockSecond_base
    have hclock := s.part.clockSecond_clock
    have hbelow := s.part.clockSecond_below
    refine ⟨s.part.event Part.clockSecond, rfl, ?_⟩
    rw [Part.event, if_pos hr']
    generalize s.part.clockSecond = q at hbase hclock hbelow
    simp only [Part.settle_answer, Part.settle_clock, Part.settle_records, Part.settle_settings, Part.settle_partitions,
      Part.settle_ambient, Part.settle_now]
    exact ⟨congrArg Base.answer hbase, hclock, hbelow, congrArg Base.settings hbase, congrArg Base.partitions hbase,
      congrArg Base.ambient hbase, congrArg Base.now hbase⟩
  case minute =>
    have hr' : s.part.power = .running := hr
    have hbase : s.part.clockMinute.base =
        { s.part.base with clock := { valid := true, minute := s.part.clock.minute + 1, second := 0 } } := by
      rw [s.part.clockMinute_of hv hlast hsec, Part.evalDue_base]; rfl
    have hevent : s.part.event Part.clockMinute = s.part.settle s.part.clockMinute := by rw [Part.event, if_pos hr']
    have hclock : (s.part.event Part.clockMinute).clock = { valid := true, minute := s.part.clock.minute + 1, second := 0 } := by
      rw [hevent, Part.settle_clock]; exact congrArg Base.clock hbase
    refine ⟨s.part.event Part.clockMinute, rfl, ?_, hclock, ?_, ?_, ?_, fun k b hone hs ho hstart hend ha hheld => ?_⟩
    · rw [hevent, Part.settle_answer]; exact congrArg Base.answer hbase
    · rw [hevent, Part.settle_settings]; exact congrArg Base.settings hbase
    · rw [hevent, Part.settle_now]; exact congrArg Base.now hbase
    · rw [hevent, Part.settle_partitions]; exact congrArg Base.partitions hbase
    · rw [hclock]
      exact records_of_leaves .minuteBoundary s _ _
        (minuteBoundary_waits s k b hr hv hlast hsec ha hone hs ho hstart hend hheld) rfl

end Sys2Proof.Machine
end

section
/-! New bookings: their handles, CREATE_BOOKING and its refusals (O17). -/

namespace Sys2Proof.Machine

/-! ### The handle of a new booking -/

/-- The `i`-th handle after `h` (R22). -/
def handleAfter (h : Nat) : Nat → Nat
  | 0 => h
  | i + 1 => handleAfter (wrapNext h) i

theorem wrapNext_bounds (h : Nat) : 1 ≤ wrapNext h ∧ wrapNext h ≤ 65535 := by
  unfold wrapNext
  split <;> omega

theorem handleAfter_eq (i : Nat) : ∀ h, 1 ≤ h → h ≤ 65535 → handleAfter h i = (h - 1 + i) % 65535 + 1 := by
  induction i with
  | zero => intro h h1 hh; rw [handleAfter, Nat.mod_eq_of_lt (by omega)]; omega
  | succ i ih =>
    intro h h1 hh
    have hb := wrapNext_bounds h
    rw [handleAfter, ih (wrapNext h) hb.1 hb.2]
    unfold wrapNext
    split
    · have : h = 65535 := by omega
      subst this; omega
    · congr 2; omega

/-- Among 49 handles in a row no two are the same (R22). -/
theorem handleAfter_injective (h i j : Nat) (hi : i < 49) (hj : j < 49) (he : handleAfter (wrapNext h) i = handleAfter (wrapNext h) j) :
    i = j := by
  obtain ⟨h1, h2⟩ := wrapNext_bounds h
  rw [handleAfter_eq i _ h1 h2, handleAfter_eq j _ h1 h2] at he
  omega

/-- The search for a handle ends at one that no record holds, or goes on to its last. -/
theorem Part.nextHandleFrom_cases (p : Part) (n : Nat) : ∀ h,
    (p.slotOf (p.nextHandleFrom n h) = none) ∨
      (p.nextHandleFrom n h = handleAfter (wrapNext h) n ∧ ∀ i, i < n → (p.slotOf (handleAfter (wrapNext h) i)).isSome = true) := by
  induction n with
  | zero => exact fun h => .inr ⟨rfl, fun i hi => absurd hi (Nat.not_lt_zero i)⟩
  | succ n ih =>
    intro h
    rw [Part.nextHandleFrom]
    split
    · next hnone => exact .inl (Option.isNone_iff_eq_none.1 hnone)
    · next hsome =>
      rcases ih (wrapNext h) with hfree | ⟨hlast, hheld⟩
      · exact .inl hfree
      · refine .inr ⟨hlast, fun i hi => ?_⟩
        cases i with
        | zero => simpa [handleAfter, Option.isSome_iff_ne_none] using hsome
        | succ i => exact hheld i (by omega)

/-- 48 records hold at most 48 handles (R21, R22). -/
theorem Part.not_all_held (p : Part) (h : Nat) (hall : ∀ i, i < 49 → (p.slotOf (handleAfter (wrapNext h) i)).isSome = true) : False := by
  have hslot : ∀ i ∈ Finset.range 49, ((p.slotOf (handleAfter (wrapNext h) i)).getD 0) ∈ Finset.Icc 1 48 := by
    intro i hi
    obtain ⟨k, hk⟩ := Option.isSome_iff_exists.1 (hall i (Finset.mem_range.1 hi))
    obtain ⟨h1, h48, -⟩ := p.slotOf_some _ k hk
    rw [hk]
    exact Finset.mem_Icc.2 ⟨h1, h48⟩
  obtain ⟨i, hi, j, hj, hne, heq⟩ := Finset.exists_ne_map_eq_of_card_lt_of_maps_to (by simp) hslot
  rw [Finset.mem_range] at hi hj
  obtain ⟨k, hk⟩ := Option.isSome_iff_exists.1 (hall i hi)
  obtain ⟨k', hk'⟩ := Option.isSome_iff_exists.1 (hall j hj)
  have hkk : k = k' := by simpa [hk, hk'] using heq
  subst hkk
  obtain ⟨-, -, b, hb, hbi⟩ := p.slotOf_some _ k hk
  obtain ⟨-, -, c, hc, hcj⟩ := p.slotOf_some _ k hk'
  rw [hb] at hc
  cases hc
  exact hne (handleAfter_injective h i j hi hj (hbi.symm.trans hcj))

/-- The handle of the next new booking is free (R22). -/
theorem Part.slotOf_nextHandle (p : Part) : p.slotOf p.nextHandle = none := by
  rcases p.nextHandleFrom_cases 48 p.lastHandle with hfree | ⟨hlast, hheld⟩
  · exact hfree
  · by_contra hnot
    refine p.not_all_held p.lastHandle fun i hi => ?_
    by_cases h48 : i = 48
    · subst h48
      rw [← hlast]
      exact Option.isSome_iff_ne_none.2 hnot
    · exact hheld i (by omega)

theorem Part.nextHandle_bounds (p : Part) : 1 ≤ p.nextHandle ∧ p.nextHandle ≤ 65535 := by
  have hfrom : ∀ n h, 1 ≤ p.nextHandleFrom n h ∧ p.nextHandleFrom n h ≤ 65535 := by
    intro n
    induction n with
    | zero => exact wrapNext_bounds
    | succ n ih =>
      intro h
      rw [Part.nextHandleFrom]
      split
      · exact wrapNext_bounds h
      · exact ih _
  exact hfrom 48 p.lastHandle

/-- No record holds a handle that no slot is found for. -/
theorem Part.handle_ne_of_slotOf_none (p : Part) (h k : Nat) (b : Booking) (hnone : p.slotOf h = none) (h1 : 1 ≤ k) (h48 : k ≤ 48)
    (hb : p.slotAt k = some b) : b.handle ≠ h := by
  rw [Part.slotOf, List.find?_eq_none] at hnone
  have := hnone k (by rw [slotNumbers, List.mem_range'_1]; omega)
  simpa [hb, hasHandle] using this

/-! ### CREATE_BOOKING -/

theorem exec_createBooking (s : State) (body : List Byte) (r : CreateRequest) (hparse : parseCreate body = some r) :
    exec (.createBooking body) s = s.become (s.part.request 0x10 (some r) createOwner) := by
  rw [← hparse]; rfl

theorem createOwner_refused (p : Part) (r : CreateRequest) (st : Status) (h : p.createRefusal r = some st) :
    createOwner r p = p.refuse st := by
  simp [createOwner, h]

theorem createOwner_made (p : Part) (r : CreateRequest) (h : p.createRefusal r = none) :
    createOwner r p = (p.create (p.created r)).doneWith p.createdBody := by
  simp [createOwner, h]

/-- R29's tests, each passed (R29). -/
theorem Part.createRefusal_none (p : Part) (r : CreateRequest) (slot : Nat) (hv : p.clock.valid = true)
    (hin : p.createInRange r = true) (hslot : p.freeSlot = some slot) (hroster : r.roster.length ≤ p.rosterFree)
    (hover : p.overlapConflict 0 r.zones (p.created r).occStart (p.created r).occEnd = false) : p.createRefusal r = none := by
  have hz : (p.created r).zones = r.zones := rfl
  simp [Part.createRefusal, hv, hin, hslot, Nat.not_lt.2 hroster, hz, hover]

theorem Part.addBooking_eq (p : Part) (b : Booking) (k : Nat) (h : p.freeSlot = some k) :
    p.addBooking b =
      { p with slots := upd p.slots k (fun _ => some { b with handle := p.nextHandle }), lastHandle := p.nextHandle } := by
  simp [Part.addBooking, h]

/-- The records of a table after a booking has been added. -/
theorem Part.slotAt_addBooking (p : Part) (b c : Booking) (k j : Nat) (h : p.freeSlot = some k)
    (hc : (p.addBooking b).slotAt j = some c) : c = { b with handle := p.nextHandle } ∧ j = k ∨ p.slotAt j = some c ∧ j ≠ k := by
  rw [p.addBooking_eq b k h, Part.slotAt] at hc
  by_cases hj : j = k
  · subst hj
    left
    rw [nth_upd_same] at hc
    cases hn : nth p.slots j with
    | none => rw [hn] at hc; cases hc
    | some x =>
      rw [hn] at hc
      exact ⟨(Option.some.inj hc).symm, rfl⟩
  · rw [nth_upd_ne _ _ _ _ (Ne.symm hj)] at hc
    exact .inr ⟨hc, hj⟩

/-- A table without AD_HOC bookings stays so with a HOST booking more. -/
theorem Part.bumpAll_added (p : Part) (b : Booking) (k : Nat) (run : ZoneRun) (occ occEnd : Nat) (h : p.freeSlot = some k)
    (hb : b.origin = .host) (hhost : ∀ j c, p.slotAt j = some c → c.origin = .host) :
    (p.addBooking b).bumpAll run occ occEnd = p.addBooking b := by
  refine Part.bumpAll_none _ _ _ _ fun j c hc => ?_
  rcases p.slotAt_addBooking b c k j h hc with ⟨rfl, -⟩ | ⟨hold, -⟩
  · exact hb
  · exact hhost j c hold

/-- A new booking whose occupation start lies ahead is PENDING and stays so (R30). -/
theorem Part.newTimes_ahead (p : Part) (h : Nat) (hb : ∀ b, p.bookingOf h = some b → p.clock.minute < b.occStart) :
    p.newTimes h = p := by
  rw [Part.newTimes]
  cases hk : p.bookingOf h with
  | none => rfl
  | some b => simp [Nat.not_le.2 (hb b hk)]

/-- The record found by the new handle is the new one. -/
theorem Part.bookingOf_addBooking (p : Part) (b c : Booking) (k : Nat) (h : p.freeSlot = some k)
    (hc : (p.addBooking b).bookingOf p.nextHandle = some c) : c = { b with handle := p.nextHandle } := by
  obtain ⟨j, hj, hjc⟩ := (p.addBooking b).bookingOf_some _ c hc
  obtain ⟨h1, h48, -⟩ := (p.addBooking b).slotOf_some _ j hj
  rcases p.slotAt_addBooking b c k j h hjc with ⟨rfl, -⟩ | ⟨hold, -⟩
  · rfl
  · exact absurd ((p.addBooking b).bookingOf_handle _ c hc)
      (p.handle_ne_of_slotOf_none _ j c p.slotOf_nextHandle h1 h48 hold)

/-- A booking made ahead of its occupation start, on an AWAKE table without AD_HOC bookings: the record alone (R30). -/
theorem Part.create_ahead (p : Part) (b : Booking) (k : Nat) (h : p.freeSlot = some k) (ha : p.control.tableState = .awake)
    (hb : b.origin = .host) (hhandle : b.handle = p.nextHandle) (hhost : ∀ j c, p.slotAt j = some c → c.origin = .host)
    (hahead : p.clock.minute < b.occStart) : p.create b = p.addBooking b := by
  have hclock : (p.addBooking b).clock = p.clock := Part.clock_of_base _ _ (p.addBooking_base b)
  have hawake : (p.addBooking b).control.tableState = .awake := by rw [p.addBooking_eq b k h]; exact ha
  rw [Part.create, p.bumpAll_added b k _ _ _ h hb hhost, Part.newTimes_ahead, Part.dueTest_awake _ hawake]
  intro c hc
  rw [hhandle] at hc
  rw [p.bookingOf_addBooking b c k h hc, hclock]
  exact hahead

/-- The record that CREATE_BOOKING builds, field by field (R29, R30). -/
theorem Part.created_eq (p : Part) (r : CreateRequest) : p.created r =
    { handle := p.nextHandle, origin := .host, state := .pending, zones := r.zones,
      startMinute := r.startMinute, endMinute := r.endMinute,
      lead := (r.margins.getD (p.settings.booking.lead, p.settings.booking.grace)).1,
      grace := (r.margins.getD (p.settings.booking.lead, p.settings.booking.grace)).2,
      params := r.params.getD p.settings.booking.params,
      confidentiality := (r.admission.map (fun a => a.confidentiality)).getD p.settings.booking.confidentiality,
      guestCode := (r.admission.map (fun a => a.guestCode)).getD p.settings.booking.guestCode,
      guestMask := (r.admission.map (fun a => a.guestMask)).getD p.settings.booking.guestMask,
      roster := putEntries [] r.roster, floor := none, startNoted := false, closeNoted := false,
      pendingOutcome := none, retireOnCompletion := false, pendingSeat := none, outcome := none,
      flags := { rosterUnseated := false, wasSuspended := false, closeUnconfirmed := false, lateApply := false } } := by
  rw [Part.created]
  cases r.admission <;> rfl

theorem createBooking_refused (s : State) (body : List Byte) (r : CreateRequest) (st : Status) (hr : s.runs)
    (hparse : parseCreate body = some r) (h : s.part.createRefusal r = some st) (hst : st.taken = false) :
    Answers (.createBooking body) s 0x10 st [] :=
  answers_of_refused _ s _ r createOwner st (exec_createBooking s body r hparse) hr (createOwner_refused s.part r st h) hst

/-- Settles O17. -/
theorem createBookingMakesOrRefuses : Obligations.CreateBookingMakesOrRefuses := by
  refine ⟨fun p => ⟨p.nextHandle_bounds.1, p.nextHandle_bounds.2,
      fun k b h1 h48 hb => p.handle_ne_of_slotOf_none _ k b p.slotOf_nextHandle h1 h48 hb⟩,
    fun s body r slot hr hparse hv hin hslot hroster hover ha hhost hahead => ?made,
    fun s body r hr hparse => ⟨fun hv => ?clock, fun hv => ⟨fun hin => ?range, fun hin => ⟨fun hslot => ?full,
      fun hslot => ⟨fun hroster => ?pool, fun hroster hover => ?overlap⟩⟩⟩⟩⟩
  case made =>
    have hnone := s.part.createRefusal_none r slot hv hin hslot hroster hover
    have hmade := s.part.create_ahead (s.part.created r) slot hslot ha rfl rfl hhost hahead
    have h := answersWith_of_taken _ s _ r createOwner _ (exec_createBooking s body r hparse) hr
      (createOwner_made s.part r hnone) rfl
    have hbody : s.part.createdBody = bytes 2 s.part.nextHandle ++ byte slot := by rw [Part.createdBody, hslot]; rfl
    simp only [Part.doneWith, hmade, hbody] at h
    rw [s.part.addBooking_eq _ slot hslot, s.part.created_eq r] at h
    exact h
  case clock => exact createBooking_refused s body r .notAllowed hr hparse (by simp [Part.createRefusal, hv]) rfl
  case range => exact createBooking_refused s body r .badValue hr hparse (by simp [Part.createRefusal, hv, hin]) rfl
  case full => exact createBooking_refused s body r .tableFull hr hparse (by simp [Part.createRefusal, hv, hin, hslot]) rfl
  case pool =>
    exact createBooking_refused s body r .tableFull hr hparse (by simp [Part.createRefusal, hv, hin, hslot, hroster]) rfl
  case overlap =>
    have hz : (s.part.created r).zones = r.zones := rfl
    exact createBooking_refused s body r .conflict hr hparse
      (by simp [Part.createRefusal, hv, hin, hslot, Nat.not_lt.2 hroster, hz, hover]) rfl

end Sys2Proof.Machine
end

section
/-! CHANGE_BOOKING at a booking that holds no floor, and the refusals by state (O19); ROSTER_PUT and ROSTER_DROP at one (O25). -/

namespace Sys2Proof.Machine

/-! ### CHANGE_BOOKING -/

theorem exec_changeBooking (s : State) (body : List Byte) (r : ChangeRequest) (hparse : parseChange body = some r) :
    exec (.changeBooking body) s = s.become (s.part.request 0x11 (some r) changeOwner) := by
  rw [← hparse]; rfl

/-- The booking after the change, field by field (R32). -/
theorem Booking.changed_eq (b : Booking) (r : ChangeRequest) : b.changed r = { b with
    zones := (r.span.map (fun g => g.zones)).getD b.zones
    startMinute := (r.span.map (fun g => g.startMinute)).getD b.startMinute
    lead := (r.span.map (fun g => g.lead)).getD b.lead
    endMinute := (r.ending.map (fun g => g.endMinute)).getD b.endMinute
    grace := (r.ending.map (fun g => g.grace)).getD b.grace
    params := r.params.getD b.params
    confidentiality := (r.admission.map (fun a => a.confidentiality)).getD b.confidentiality
    guestCode := (r.admission.map (fun a => a.guestCode)).getD b.guestCode
    guestMask := (r.admission.map (fun a => a.guestMask)).getD b.guestMask } := by
  rw [Booking.changed]
  cases r.span <;> cases r.ending <;> cases r.admission <;> rfl

theorem changeOwner_made (p : Part) (r : ChangeRequest) (b : Booking) (hb : p.bookingOf r.handle = some b)
    (h : p.changeRefusal b r = none) : changeOwner r p = (p.change b r).done := by
  simp [changeOwner, hb, h]

theorem changeOwner_refused (p : Part) (r : ChangeRequest) (b : Booking) (st : Status) (hb : p.bookingOf r.handle = some b)
    (h : p.changeRefusal b r = some st) : changeOwner r p = p.refuse st := by
  simp [changeOwner, hb, h]

theorem changeOwner_unheld (p : Part) (r : ChangeRequest) (hb : p.bookingOf r.handle = none) :
    changeOwner r p = p.refuse .noRecord := by
  simp [changeOwner, hb]

/-- The time events of one booking that rests (R26, R27). -/
theorem Part.runTasks_rest (p : Part) (h : Nat) (b : Booking) (hb : p.bookingOf h = some b) (hrest : b.restsAt p.clock.minute) :
    (p.runTasks (timeEvents h)).records = p.records := by
  refine p.runTasks_idle _ fun q hq => q.timeEvents_rest h p.clock.minute ?_ fun c hc => ?_
  · exact congrArg (fun r : Records => r.clock.minute) hq
  · rw [q.bookingOf_of_slots p (congrArg Records.slots hq), hb] at hc
    cases hc
    exact hrest

theorem Part.dueTest_records_awake (p : Part) (h : p.control.tableState = .awake) : p.dueTest.records = p.records := by
  rw [p.dueTest_awake h]

/-- A record written by handle is found by it again. -/
theorem Part.bookingOf_updBooking (p : Part) (h k : Nat) (g : Booking → Booking) (b : Booking) (hk : p.slotOf h = some k)
    (hb : p.slotAt k = some b) (hg : (g b).handle = b.handle) : (p.updBooking h g).bookingOf h = some (g b) := by
  have hkeep : ∀ c, p.slotAt k = some c → (g c).handle = c.handle := by
    intro c hc
    rw [hb] at hc
    cases hc
    exact hg
  rw [p.updBooking_slot h k g hk, Part.bookingOf_slot _ h k ((p.slotOf_updSlot k h g hkeep).trans hk),
    p.slotAt_updSlot_same k g b hb]

/-- A booking in slot `k`, after a write of it, is of the origin that all had. -/
theorem Part.origin_updBooking (p : Part) (h k : Nat) (g : Booking → Booking) (b : Booking) (hk : p.slotOf h = some k)
    (hb : p.slotAt k = some b) (hg : (g b).origin = b.origin) (hhost : ∀ j x, p.slotAt j = some x → x.origin = .host) :
    ∀ j x, (p.updBooking h g).slotAt j = some x → x.origin = .host := by
  intro j x hx
  rw [p.updBooking_slot h k g hk] at hx
  by_cases hj : k = j
  · subst hj
    rw [p.slotAt_updSlot_same k g b hb] at hx
    cases hx
    rw [hg]; exact hhost k b hb
  · rw [p.slotAt_updSlot_ne k j g hj] at hx
    exact hhost j x hx

/-- A change of a PENDING booking whose occupation start lies ahead, on an AWAKE table without AD_HOC bookings: the record
alone (R33). -/
theorem Part.change_pending (p : Part) (k : Nat) (b : Booking) (r : ChangeRequest) (hk : p.slotOf b.handle = some k)
    (hb : p.slotAt k = some b) (hs : b.state = .pending) (hf : b.floor = none) (ha : p.control.tableState = .awake)
    (hhost : ∀ j x, p.slotAt j = some x → x.origin = .host) (hocc : p.clock.minute < (b.changed r).occStart)
    (hend : p.clock.minute < (b.changed r).occEnd) :
    (p.change b r).records = p.records.put k (b.changed r) := by
  have hwritten := p.updBooking_records b.handle k (fun _ => b.changed r) b hk hb
  have hbook := p.bookingOf_updBooking b.handle k (fun _ => b.changed r) b hk hb rfl
  have hbase := p.updBooking_base b.handle (fun _ => b.changed r)
  have hside := p.updBooking_side b.handle (fun _ => b.changed r)
  have hbump : ∀ run occ occEnd, (p.updBooking b.handle (fun _ => b.changed r)).bumpAll run occ occEnd =
      p.updBooking b.handle (fun _ => b.changed r) := fun run occ occEnd =>
    Part.bumpAll_none _ run occ occEnd (p.origin_updBooking b.handle k _ b hk hb rfl hhost)
  rw [Part.change]
  simp only [hf, hbump, ite_self]
  generalize p.updBooking b.handle (fun _ => b.changed r) = q at hwritten hbook hbase hside
  have hclock : q.clock = p.clock := Part.clock_of_base _ _ hbase
  have hrest : (b.changed r).restsAt q.clock.minute := by
    have hstate : (b.changed r).state = .pending := hs
    rw [hclock, Booking.restsAt, hstate]
    exact ⟨hocc, hend⟩
  have hawake : (q.runTasks (timeEvents b.handle)).control.tableState = .awake :=
    (Part.tableState_of_side _ _ ((q.runTasks_side _).trans hside)).trans ha
  rw [Part.touchBooking_records, Part.dueTest_records_awake _ hawake, q.runTasks_rest b.handle _ hbook hrest, hwritten]

theorem Part.changeRefusal_none (p : Part) (b : Booking) (r : ChangeRequest) (hs : b.state = .pending)
    (hin : p.changeInRange b r = true)
    (hover : p.overlapConflict b.handle (b.changed r).zones (b.changed r).occStart (b.changed r).occEnd = false) :
    p.changeRefusal b r = none := by
  have hstate : changeStateRefusal b r = none := by
    simp [changeStateRefusal, hs, spanRefusal, groupRefusal]
  simp [Part.changeRefusal, hstate, hin, hover]

/-- The refusals by state (R32). -/
theorem changeStateRefusal_preparing (b : Booking) (r : ChangeRequest) (hs : b.state = .preparing)
    (hnamed : r.span.isSome = true ∨ r.ending.isSome = true ∨ r.params.isSome = true ∨ r.admission.isSome = true) :
    changeStateRefusal b r = some .busy := by
  rcases hnamed with h | h | h | h <;> simp [changeStateRefusal, hs, spanRefusal, groupRefusal, h]

theorem changeStateRefusal_over (b : Booking) (r : ChangeRequest) (hs : b.state = .closing ∨ b.state = .ended)
    (hnamed : r.span.isSome = true ∨ r.ending.isSome = true ∨ r.params.isSome = true ∨ r.admission.isSome = true) :
    changeStateRefusal b r = some .notAllowed := by
  rcases hs with hs | hs <;> rcases hnamed with h | h | h | h <;>
    simp [changeStateRefusal, hs, spanRefusal, groupRefusal, h]

theorem changeStateRefusal_span (b : Booking) (r : ChangeRequest) (hs : b.state = .waiting ∨ b.state = .ready ∨ b.state = .live)
    (h : r.span.isSome = true) : changeStateRefusal b r = some .notAllowed := by
  rcases hs with hs | hs | hs <;> simp [changeStateRefusal, hs, spanRefusal, groupRefusal, h]

theorem Part.changeRefusal_state (p : Part) (b : Booking) (r : ChangeRequest) (st : Status)
    (h : changeStateRefusal b r = some st) : p.changeRefusal b r = some st := by
  simp [Part.changeRefusal, h]

/-! ### Rosters -/

theorem exec_rosterPut (s : State) (body : List Byte) (h : Nat) (entries : List RosterEntry)
    (hparse : parseRosterPut body = some (h, entries)) :
    exec (.rosterPut body) s = s.become (s.part.request 0x13 (some (h, entries)) putOwner) := by
  rw [← hparse]; rfl

theorem exec_rosterDrop (s : State) (body : List Byte) (h : Nat) (seats : List Nat)
    (hparse : parseRosterDrop body = some (h, seats)) :
    exec (.rosterDrop body) s = s.become (s.part.request 0x14 (some (h, seats)) dropOwner) := by
  rw [← hparse]; rfl

theorem putOwner_unheld (p : Part) (h : Nat) (entries : List RosterEntry) (hb : p.bookingOf h = none) :
    putOwner (h, entries) p = p.refuse .noRecord := by
  simp [putOwner, hb]

theorem dropOwner_unheld (p : Part) (h : Nat) (seats : List Nat) (hb : p.bookingOf h = none) :
    dropOwner (h, seats) p = p.refuse .noRecord := by
  simp [dropOwner, hb]

theorem putOwner_state (p : Part) (h : Nat) (entries : List RosterEntry) (b : Booking) (st : Status) (hb : p.bookingOf h = some b)
    (hst : groupRefusal b.state = some st) : putOwner (h, entries) p = p.refuse st := by
  simp [putOwner, hb, Part.putRefusal, hst]

theorem dropOwner_state (p : Part) (h : Nat) (seats : List Nat) (b : Booking) (st : Status) (hb : p.bookingOf h = some b)
    (hst : groupRefusal b.state = some st) : dropOwner (h, seats) p = p.refuse st := by
  simp [dropOwner, hb, dropRefusal, hst]

theorem groupRefusal_over (b : Booking) (h : b.state = .closing ∨ b.state = .ended) :
    groupRefusal b.state = some .notAllowed := by
  rcases h with h | h <;> rw [h] <;> rfl

theorem groupRefusal_open (b : Booking) (h : b.state = .pending ∨ b.state = .waiting ∨ b.state = .ready ∨ b.state = .live) :
    groupRefusal b.state = none := by
  rcases h with h | h | h | h <;> rw [h] <;> rfl

/-- Settles O19. -/
theorem changeBookingWritesOrRefuses : Obligations.ChangeBookingWritesOrRefuses := by
  refine ⟨fun s body r slot b c hr hparse hslot hb hs hf hc hin hover ha hhost hocc hend => ?changed,
    fun s body r hr hparse => ⟨fun hnone => ?unheld, fun b hb hnamed => ⟨fun hs => ?preparing, fun hs => ?closed,
      fun hspan hs => ?span⟩⟩,
    fun s body h entries seats hr => ⟨fun hparse => ⟨fun hnone => ?putUnheld, fun b hb => ⟨fun hs => ?putBusy, fun hs => ?putOver⟩⟩,
      fun hparse => ⟨fun hnone => ?dropUnheld, fun b hb => ⟨fun hs => ?dropBusy, fun hs => ?dropOver⟩⟩⟩⟩
  case changed =>
    have hc' : c = b.changed r := by rw [hc, b.changed_eq r]
    subst hc'
    have hbook : s.part.bookingOf r.handle = some b := by rw [s.part.bookingOf_slot _ slot hslot, hb]
    have hhandle := s.part.bookingOf_handle _ b hbook
    have h := answersWith_of_taken _ s _ r changeOwner _ (exec_changeBooking s body r hparse) hr
      (changeOwner_made s.part r b hbook (s.part.changeRefusal_none b r hs hin hover)) rfl
    simp only [Part.done, s.part.change_pending slot b r (hhandle ▸ hslot) hb hs hf ha hhost hocc hend] at h
    exact h
  case unheld =>
    exact answers_of_refused _ s _ r changeOwner .noRecord (exec_changeBooking s body r hparse) hr
      (changeOwner_unheld s.part r hnone) rfl
  case preparing =>
    exact answers_of_refused _ s _ r changeOwner .busy (exec_changeBooking s body r hparse) hr
      (changeOwner_refused s.part r b _ hb (s.part.changeRefusal_state b r _ (changeStateRefusal_preparing b r hs hnamed))) rfl
  case closed =>
    exact answers_of_refused _ s _ r changeOwner .notAllowed (exec_changeBooking s body r hparse) hr
      (changeOwner_refused s.part r b _ hb (s.part.changeRefusal_state b r _ (changeStateRefusal_over b r hs hnamed))) rfl
  case span =>
    exact answers_of_refused _ s _ r changeOwner .notAllowed (exec_changeBooking s body r hparse) hr
      (changeOwner_refused s.part r b _ hb (s.part.changeRefusal_state b r _ (changeStateRefusal_span b r hs hspan))) rfl
  case putUnheld =>
    exact answers_of_refused _ s _ _ putOwner .noRecord (exec_rosterPut s body h entries hparse) hr
      (putOwner_unheld s.part h entries hnone) rfl
  case putBusy =>
    exact answers_of_refused _ s _ _ putOwner .busy (exec_rosterPut s body h entries hparse) hr
      (putOwner_state s.part h entries b _ hb (by rw [hs]; rfl)) rfl
  case putOver =>
    exact answers_of_refused _ s _ _ putOwner .notAllowed (exec_rosterPut s body h entries hparse) hr
      (putOwner_state s.part h entries b _ hb (groupRefusal_over b hs)) rfl
  case dropUnheld =>
    exact answers_of_refused _ s _ _ dropOwner .noRecord (exec_rosterDrop s body h seats hparse) hr
      (dropOwner_unheld s.part h seats hnone) rfl
  case dropBusy =>
    exact answers_of_refused _ s _ _ dropOwner .busy (exec_rosterDrop s body h seats hparse) hr
      (dropOwner_state s.part h seats b _ hb (by rw [hs]; rfl)) rfl
  case dropOver =>
    exact answers_of_refused _ s _ _ dropOwner .notAllowed (exec_rosterDrop s body h seats hparse) hr
      (dropOwner_state s.part h seats b _ hb (groupRefusal_over b hs)) rfl

/-! ### A roster written to a booking that holds no floor -/

theorem Part.setRoster_idle (p : Part) (b : Booking) (roster : List RosterEntry) (seats : List Nat) (h : b.floor = none) :
    p.setRoster b roster seats = p.updBooking b.handle (fun b => { b with roster := roster }) := by
  simp [Part.setRoster, h]

theorem Part.putRefusal_none (p : Part) (b : Booking) (entries : List RosterEntry) (hs : groupRefusal b.state = none)
    (hrep : noRepeats (entries.map (fun e => e.seat)) = true) (hfit : entries.all (p.entryOk b.zones) = true)
    (hroster : rosterOk (putEntries b.roster entries) = true) (hpool : newSeats b entries ≤ p.rosterFree) :
    p.putRefusal b entries = none := by
  simp [Part.putRefusal, hs, hrep, hfit, hroster, Nat.not_lt.2 hpool]

theorem putOwner_made (p : Part) (h : Nat) (entries : List RosterEntry) (b : Booking) (hb : p.bookingOf h = some b)
    (hnone : p.putRefusal b entries = none) : putOwner (h, entries) p =
      ((p.setRoster b (putEntries b.roster entries) (entries.map (fun e => e.seat))).touchBooking b.handle).done := by
  simp [putOwner, hb, hnone]

theorem dropOwner_made (p : Part) (h : Nat) (seats : List Nat) (b : Booking) (hb : p.bookingOf h = some b)
    (hnone : dropRefusal b seats = none) : dropOwner (h, seats) p =
      (p.setRoster b (dropEntries b.roster seats) (seats.filter (fun n => (b.entryOf n).isSome))).done := by
  simp [dropOwner, hb, hnone]

theorem dropRefusal_none (b : Booking) (seats : List Nat) (hs : groupRefusal b.state = none) (hfit : ∀ n ∈ seats, 1 ≤ n ∧ n ≤ 96) :
    dropRefusal b seats = none := by
  have hall : seats.all seatFits = true := List.all_eq_true.2 fun n hn => (seatFits_iff n).2 (hfit n hn)
  simp [dropRefusal, hs, hall]

/-- Settles O25. -/
theorem rosterRequestsWriteTheRoster : Obligations.RosterRequestsWriteTheRoster := by
  refine ⟨fun s body h slot entries b hr hparse hslot hb hs hf hrep hfit hroster hpool => ?put,
    fun s body h slot seats b hr hparse hslot hb hs hf hfit => ?drop⟩
  all_goals
    have hbook : s.part.bookingOf h = some b := by rw [s.part.bookingOf_slot h slot hslot, hb]
    have hhandle := s.part.bookingOf_handle h b hbook
    have hopen : groupRefusal b.state = none := groupRefusal_open b (hs.imp_right .inl)
  case put =>
    have hx := answersWith_of_taken _ s _ _ putOwner _ (exec_rosterPut s body h entries hparse) hr
      (putOwner_made s.part h entries b hbook (s.part.putRefusal_none b entries hopen hrep hfit hroster hpool)) rfl
    rw [Part.done, Part.touchBooking_records, s.part.setRoster_idle b _ _ hf,
      s.part.updBooking_records _ slot _ b (hhandle ▸ hslot) hb] at hx
    exact hx
  case drop =>
    have hx := answersWith_of_taken _ s _ _ dropOwner _ (exec_rosterDrop s body h seats hparse) hr
      (dropOwner_made s.part h seats b hbook (dropRefusal_none b seats hopen hfit)) rfl
    rw [Part.done, s.part.setRoster_idle b _ _ hf, s.part.updBooking_records _ slot _ b (hhandle ▸ hslot) hb] at hx
    exact hx

end Sys2Proof.Machine
end

section
/-! CHANGE_BOOKING of a READY or LIVE booking: what new parameters and an admission do at the floor (O20). -/

namespace Sys2Proof.Machine

/-! ### A change that reaches the floor -/

/-- A change of a running booking's parameters or admission is what it does at the floor: no threshold is reached (R33, R34). -/
theorem Part.change_running (p : Part) (f k : Nat) (b : Booking) (r : ChangeRequest) (A : Part) (hf : b.floor = some f)
    (hspan : r.span = none) (hending : r.ending = none) (ha : p.control.tableState = .awake)
    (hA : ({ p with slots := upd p.slots k (fun _ => some (b.changed r)) } : Part).changeAtFloor f b.params (b.changed r).params r = A)
    (hk : p.slotOf b.handle = some k) (hb : p.slotAt k = some b)
    (hbook : A.bookingOf b.handle = some (b.changed r)) (hrest : (b.changed r).restsAt p.clock.minute)
    (hclock : A.clock = p.clock) (hcontrol : A.control.tableState = p.control.tableState) :
    (p.change b r).records = A.records := by
  have hmoved : b.moved (b.changed r) = false := by
    simp [Booking.moved, Booking.changed, hspan, hending, Booking.occStart, Booking.occEnd]
  have hwritten := p.updBooking_eq b.handle k (fun _ => b.changed r) b hk hb
  rw [Part.change, hwritten]
  simp only [hf, hmoved, Bool.false_eq_true, if_false, hA]
  have hawake : (A.runTasks (timeEvents b.handle)).control.tableState = .awake :=
    (Part.tableState_of_side _ _ (A.runTasks_side _)).trans (hcontrol.trans ha)
  rw [Part.touchBooking_records, Part.dueTest_records_awake _ hawake, A.runTasks_rest b.handle _ hbook (by rw [hclock]; exact hrest)]

/-- The record of the changed booking, in a part with the changed slots. -/
theorem Part.bookingOf_written (p A : Part) (k : Nat) (b c : Booking) (hk : p.slotOf b.handle = some k) (hb : p.slotAt k = some b)
    (hc : c.handle = b.handle) (hA : A.slots = upd p.slots k (fun _ => some c)) : A.bookingOf b.handle = some c := by
  have h := p.bookingOf_updBooking b.handle k (fun _ => c) b hk hb hc
  rwa [Part.bookingOf_of_slots A (p.updBooking b.handle (fun _ => c))
    (hA.trans (p.updBooking_slots b.handle k (fun _ => c) b hk hb).symm)]

/-! ### New parameters -/

theorem Floor.par_some (fl : Floor) (q : FloorParams) (h : fl.params = some q) : fl.par = q := by
  simp [Floor.par, h]

/-- A limit that is not passed closes nobody (R108). -/
theorem Part.enforceLimit_within (p : Part) (f : Nat) (h : (p.floorAt f).delegates ≤ (p.floorAt f).par.limit) :
    p.enforceLimit f = p := by
  rw [Part.enforceLimit]
  cases (p.floorAt f).delegates with
  | zero => rfl
  | succ k => rw [closeExcess, if_neg (Nat.not_lt.2 h)]

/-- Timers that stay as they are (R107). -/
theorem Part.timerChange_same (p : Part) (f : Nat) (old new : FloorParams) (hlead : new.warningLead = old.warningLead)
    (haction : new.expiryAction = old.expiryAction) : p.timerChange f old new false = p := by
  have hgone : ¬ (old.warningLead ≠ 0 ∧ new.warningLead = 0) := by rw [hlead]; exact fun h => h.1 h.2
  have hclose : ¬ (old.expiryAction ≠ .close ∧ new.expiryAction = .close) := by rw [haction]; exact fun h => h.1 h.2
  simp only [Part.timerChange, hlead, Bool.false_eq_true, if_false, ne_eq, not_true_eq_false, false_or]
  rw [if_neg]
  rintro (h | h)
  · rw [hlead] at hgone
    exact hgone (of_decide_eq_true h)
  · exact hclose h

theorem lifetimeLowered_same (old new : FloorParams) (h : new.lifetime = old.lifetime) : lifetimeLowered old new = false := by
  by_cases h0 : old.lifetime = 0 <;> simp [lifetimeLowered, h, h0]

/-- Parameters that keep the timers and the lifetime, and lower no capacity, are copied; a limit that is passed is enforced
(R34, R108). -/
theorem Part.copyParams_limit (p : Part) (f : Nat) (old new : FloorParams) (hlead : new.warningLead = old.warningLead)
    (haction : new.expiryAction = old.expiryAction) (hlife : new.lifetime = old.lifetime) (hcap : old.queueCap ≤ new.queueCap) :
    p.copyParams f old new false =
      ((p.updFloor f (fun fl => { fl with params := some new })).enforceLimit f).touchFloor f := by
  simp [Part.copyParams, Part.timerChange_same _ f old new hlead haction, lifetimeLowered_same old new hlife, Nat.not_lt.2 hcap]

@[simp] theorem Part.touchFloor_records (p : Part) (f : Nat) : (p.touchFloor f).records = p.records := rfl
@[simp] theorem Part.floorAt_touchFloor (p : Part) (f g : Nat) : (p.touchFloor f).floorAt g = p.floorAt g := rfl
@[simp] theorem Part.queueAt_touchFloor (p : Part) (f g : Nat) : (p.touchFloor f).queueAt g = p.queueAt g := rfl

/-- A change of parameters alone; the auto grant behind it finds nothing to do, or is not tested (R95). -/
theorem Part.changeAtFloor_params (p A : Part) (f : Nat) (old new : FloorParams) (r : ChangeRequest)
    (hparams : r.params.isSome = true) (hadm : r.admission = none) (hA : p.copyParams f old new r.now = A)
    (hgrant : A.grantReady f = false ∨ (p.floorAt f).delegates ≤ (A.floorAt f).delegates ∧ FloorParams.opensPlaces old new = false) :
    p.changeAtFloor f old new r = A := by
  simp only [Part.changeAtFloor, hparams, hadm, if_true, hA, Option.isSome_none, Bool.false_eq_true, if_false]
  rcases hgrant with h | ⟨hle, hno⟩
  · rw [A.autoGrant_idle f h, ite_self]
  · rw [if_neg]
    rw [hno]
    exact not_or.2 ⟨Nat.not_lt.2 hle, Bool.false_ne_true⟩

/-- A floor on which nothing is granted by itself (R95). -/
theorem Part.grantReady_of (p : Part) (f : Nat) (fl : Floor) (w : Queue) (q : FloorParams) (hfl : p.floorAt f = fl)
    (hw : p.queueAt f = w) (hq : fl.params = some q) (h : q.mode = .moderated ∨ w.entries = []) : p.grantReady f = false := by
  refine p.grantReady_false f ?_
  rw [hfl, hw, fl.par_some q hq]
  exact h

/-- The most recently opened delegate (R108). -/
theorem Floor.newestDelegate_of (fl : Floor) (front back : List OpenEntry) (e : OpenEntry) (hopen : fl.openList = front ++ e :: back)
    (he : e.cls = .delegate) (hback : ∀ a ∈ back, a.cls = .chair) : fl.newestDelegate = some e.seat := by
  have hnone : back.reverse.find? (fun e => decide (e.cls = .delegate)) = none :=
    List.find?_eq_none.2 fun a ha => by simp [hback a (List.mem_reverse.1 ha)]
  simp [Floor.newestDelegate, hopen, List.find?_append, hnone, he]

/-- The open list without one seat, each seat standing once. -/
theorem filter_seat_ne (front back : List OpenEntry) (e : OpenEntry)
    (hnodup : ((front ++ e :: back).map (fun a => a.seat)).Nodup) :
    (front ++ e :: back).filter (fun a => a.seat != e.seat) = front ++ back := by
  rw [List.map_append, List.map_cons, List.nodup_append, List.nodup_cons] at hnodup
  obtain ⟨-, ⟨hb, -⟩, hf⟩ := hnodup
  have keep : ∀ l : List OpenEntry, (∀ a ∈ l, a.seat ≠ e.seat) → l.filter (fun a => a.seat != e.seat) = l :=
    fun l hl => List.filter_eq_self.2 fun a ha => by simpa using hl a ha
  rw [List.filter_append, List.filter_cons_of_neg (by simp), keep front, keep back]
  · exact fun a ha h => hb (h ▸ List.mem_map_of_mem ha)
  · exact fun a ha h => hf a.seat (List.mem_map_of_mem ha) e.seat (by simp) h

/-- A limit passed by one closes the most recently opened delegate, as a forced close (R108). -/
theorem Part.enforceLimit_one (p : Part) (f n : Nat) (fl : Floor) (hfl : nth p.floors f = some fl) (hlast : fl.newestDelegate = some n)
    (hfree : (p.seatAt n).priorityHeld = false) (hover : fl.delegates = fl.par.limit + 1)
    (hafter : (fl.without n).delegates ≤ fl.par.limit) :
    p.enforceLimit f = (p.dropEntry f n).setGuard n := by
  have hfloor := p.floorAt_of_nth f fl hfl
  have hgone : ((p.dropEntry f n).setGuard n).floorAt f = fl.without n := p.floorAt_dropEntry f n fl hfl
  rw [Part.enforceLimit, hfloor, hover, closeExcess, hfloor, if_pos (by omega), hlast]
  simp only [p.forceClose_free f n hfree]
  rw [show fl.par.limit = (fl.without n).par.limit from rfl] at hafter ⊢
  cases (fl.without n).par.limit with
  | zero => rfl
  | succ l =>
    rw [closeExcess, hgone, if_neg (Nat.not_lt.2 ?_)]
    exact hafter

end Sys2Proof.Machine
end

section
/-! The effects of a change of a running booking, case by case, and their assembly (O20). -/

namespace Sys2Proof.Machine

/-! ### The request -/

/-- The part with booking `c` written in slot `k`. -/
def Part.written (p : Part) (k : Nat) (c : Booking) : Part := { p with slots := upd p.slots k (fun _ => some c) }

/-- A READY or LIVE booking before every threshold, at an AWAKE table, with its floor and queue (R34). -/
structure RunningAt (p : Part) (k f : Nat) (b : Booking) (fl : Floor) (w : Queue) : Prop where
  slot : p.slotOf b.handle = some k
  held : p.slotAt k = some b
  floor : b.floor = some f
  state : b.state = .live ∨ b.state = .ready ∧ p.clock.minute < b.startMinute
  ahead : p.clock.minute < b.endMinute + b.grace
  awake : p.control.tableState = .awake
  nthFloor : nth p.floors f = some fl
  nthQueue : nth p.queues f = some w

/-- A change that names no time group keeps the times (R32). -/
theorem Booking.changed_untimed (b : Booking) (r : ChangeRequest) (hspan : r.span = none) (hending : r.ending = none) :
    b.changed r = { b with
      params := (b.changed r).params, confidentiality := (b.changed r).confidentiality
      guestCode := (b.changed r).guestCode, guestMask := (b.changed r).guestMask } := by
  simp [Booking.changed, hspan, hending]

theorem RunningAt.rests {p : Part} (h : RunningAt p k f b fl w) (r : ChangeRequest) (hspan : r.span = none)
    (hending : r.ending = none) : (b.changed r).restsAt p.clock.minute := by
  rw [b.changed_untimed r hspan hending]
  rcases h.state with hs | ⟨hs, hstart⟩
  · simpa [Booking.restsAt, hs] using h.ahead
  · simpa [Booking.restsAt, hs] using ⟨hstart, h.ahead⟩

/-- A change of parameters or admission is allowed of a READY or LIVE booking (R32). -/
theorem RunningAt.allowed {p : Part} (h : RunningAt p k f b fl w) (r : ChangeRequest) (hspan : r.span = none)
    (hending : r.ending = none) (hin : p.changeInRange b r = true) : p.changeRefusal b r = none := by
  have hstate : changeStateRefusal b r = none := by
    rcases h.state with hs | ⟨hs, -⟩ <;> simp [changeStateRefusal, hspan, hs, groupRefusal]
  simp [Part.changeRefusal, hstate, hin, ChangeRequest.movesTimes, hspan, hending]

/-- The request is taken, and leaves the records that the change at the floor leaves; `A` is the part after it. -/
theorem RunningAt.answers {s : State} (h : RunningAt s.part k f b fl w) (body : List Byte) (r : ChangeRequest) (hr : s.runs)
    (hparse : parseChange body = some r) (hhandle : r.handle = b.handle) (hspan : r.span = none) (hending : r.ending = none)
    (hin : s.part.changeInRange b r = true) (A : Part)
    (hA : (s.part.written k (b.changed r)).changeAtFloor f b.params (b.changed r).params r = A)
    (hslots : A.slots = upd s.part.slots k (fun _ => some (b.changed r))) (hclock : A.clock = s.part.clock)
    (hcontrol : A.control = s.part.control) : AnswersWith (.changeBooking body) s 0x11 .done [] A.records := by
  have hbook : s.part.bookingOf r.handle = some b := by rw [hhandle, Part.bookingOf, h.slot]; exact h.held
  have htaken := answersWith_of_taken _ s _ r changeOwner _ (exec_changeBooking s body r hparse) hr
    (changeOwner_made s.part r b hbook (h.allowed r hspan hending hin)) rfl
  have hafter : A.bookingOf b.handle = some (b.changed r) := s.part.bookingOf_written A k b _ h.slot h.held rfl hslots
  have hrecords := s.part.change_running f k b r A h.floor hspan hending h.awake hA h.slot h.held hafter
    (h.rests r hspan hending) hclock (congrArg PowerControl.tableState hcontrol)
  rw [← hrecords]
  exact htaken

/-! ### New parameters -/

/-- The part with new parameters in the booking and its floor. -/
def Part.copied (p : Part) (k f : Nat) (c : Booking) (fl : Floor) (q : FloorParams) : Part :=
  { p.written k c with floors := upd p.floors f (fun _ => { fl with params := some q }) }

theorem Part.written_updFloor (p : Part) (k f : Nat) (c : Booking) (fl : Floor) (q : FloorParams) (hfl : nth p.floors f = some fl) :
    (p.written k c).updFloor f (fun fl => { fl with params := some q }) = p.copied k f c fl q :=
  Part.updFloor_eq (p.written k c) f _ fl hfl

theorem Part.nth_copied (p : Part) (k f : Nat) (c : Booking) (fl : Floor) (q : FloorParams) (hfl : nth p.floors f = some fl) :
    nth (p.copied k f c fl q).floors f = some { fl with params := some q } := by
  rw [Part.copied, nth_upd_same, hfl]; rfl

theorem Part.floorAt_copied (p : Part) (k f : Nat) (c : Booking) (fl : Floor) (q : FloorParams) (hfl : nth p.floors f = some fl) :
    (p.copied k f c fl q).floorAt f = { fl with params := some q } :=
  Part.floorAt_of_nth _ f _ (p.nth_copied k f c fl q hfl)

/-- A limit that holds the delegates closes nobody. -/
theorem Part.copied_within (p : Part) (k f : Nat) (c : Booking) (fl : Floor) (q : FloorParams) (hfl : nth p.floors f = some fl)
    (hlimit : fl.delegates ≤ q.limit) : (p.copied k f c fl q).enforceLimit f = p.copied k f c fl q := by
  refine Part.enforceLimit_within _ f ?_
  rw [p.floorAt_copied k f c fl q hfl]
  exact hlimit

/-- Parameters that only make room: nothing but their copies changes (R34). -/
theorem Part.copyParams_room (p : Part) (k f : Nat) (c : Booking) (fl : Floor) (old q : FloorParams) (hfl : nth p.floors f = some fl)
    (hlimit : fl.delegates ≤ q.limit) (hlead : q.warningLead = old.warningLead) (haction : q.expiryAction = old.expiryAction)
    (hcap : old.queueCap ≤ q.queueCap) (hlife : q.lifetime = old.lifetime) :
    (p.written k c).copyParams f old q false = (p.copied k f c fl q).touchFloor f := by
  rw [Part.copyParams_limit _ f old q hlead haction hlife hcap, p.written_updFloor k f c fl q hfl,
    p.copied_within k f c fl q hfl hlimit]

/-- The delegates after the most recently opened one has left (R91). -/
theorem Floor.delegates_without (fl : Floor) (front back : List OpenEntry) (e : OpenEntry) (hopen : fl.openList = front ++ e :: back)
    (he : e.cls = .delegate) (hnodup : (fl.openList.map (fun a => a.seat)).Nodup) :
    (fl.without e.seat).delegates + 1 = fl.delegates := by
  rw [hopen] at hnodup
  simp only [Floor.delegates, Floor.without, hopen, filter_seat_ne front back e hnodup, List.filter_append,
    List.filter_cons_of_pos (p := fun e : OpenEntry => decide (e.cls = .delegate)) (decide_eq_true he), List.length_append,
    List.length_cons]
  omega

/-- A limit lowered by one below the delegates closes the most recently opened one, as a forced close (R108). -/
theorem Part.copyParams_lowered (p : Part) (k f l : Nat) (c : Booking) (fl : Floor) (old q : FloorParams)
    (hq : q = { old with limit := l }) (front back : List OpenEntry)
    (e : OpenEntry) (hfl : nth p.floors f = some fl) (hopen : fl.openList = front ++ e :: back) (he : e.cls = .delegate)
    (hback : ∀ a ∈ back, a.cls = .chair) (hnodup : (fl.openList.map (fun a => a.seat)).Nodup) (hcount : fl.delegates = l + 1)
    (hfree : (p.seatAt e.seat).priorityHeld = false) :
    (p.written k c).copyParams f old q false = (((p.copied k f c fl q).dropEntry f e.seat).setGuard e.seat).touchFloor f := by
  subst hq
  have hfloor := p.nth_copied k f c fl { old with limit := l } hfl
  have hdrop : (fl.without e.seat).delegates + 1 = fl.delegates := fl.delegates_without front back e hopen he hnodup
  rw [Part.copyParams_limit _ f old { old with limit := l } rfl rfl rfl (Nat.le_refl _), p.written_updFloor k f c fl _ hfl,
    Part.enforceLimit_one _ f e.seat _ hfloor (Floor.newestDelegate_of _ front back e hopen he hback) hfree hcount]
  change (fl.without e.seat).delegates ≤ l
  omega

/-- A lowered capacity alone removes the entries beyond it from the tail (R125). -/
theorem Part.copyParams_trimmed (p : Part) (k f cap : Nat) (c : Booking) (fl : Floor) (w : Queue) (old q : FloorParams)
    (hq : q = { old with queueCap := cap }) (hfl : nth p.floors f = some fl) (hw : nth p.queues f = some w) (hcap : cap < old.queueCap) (hlimit : fl.delegates ≤ q.limit) :
    (p.written k c).copyParams f old q false =
      ({ p.copied k f c fl q with
        queues := upd p.queues f (fun _ => { w with entries := w.entries.take cap }) } : Part).touchFloor f := by
  subst hq
  have hlimit' : fl.delegates ≤ ({ old with queueCap := cap } : FloorParams).limit := hlimit
  have htimers := Part.timerChange_same (p.copied k f c fl { old with queueCap := cap }) f old { old with queueCap := cap } rfl rfl
  simp only [Part.copyParams, p.written_updFloor k f c fl _ hfl, htimers, p.copied_within k f c fl _ hfl hlimit',
    lifetimeLowered_same old { old with queueCap := cap } rfl, Bool.false_eq_true, if_false, if_pos hcap, Part.trimQueue,
    p.floorAt_copied k f c fl _ hfl]
  rw [Part.updQueue_eq (p.copied k f c fl { old with queueCap := cap }) f _ w hw]
  rfl

/-- An entry under a new allowance that applies at once, with expiries as WARN_ONLY (R107). -/
def OpenEntry.underAllowance (t lead : Nat) (e : OpenEntry) : OpenEntry :=
  if e.cls = .delegate then
    { e with allowanceUsed := t, warned := decide (t ≠ 0 ∧ t ≤ e.spokenS + lead), overtime := decide (t ≠ 0 ∧ t ≤ e.spokenS) }
  else e

/-- Re-arming, then the expiries (R107). -/
theorem OpenEntry.rearm_settled (t lead : Nat) (e : OpenEntry) :
    (if (e.rearm t lead).within 0 then { e.rearm t lead with overtime := true } else e.rearm t lead) =
      e.underAllowance t lead := by
  by_cases hc : e.cls = .delegate
  · by_cases hover : t ≠ 0 ∧ t ≤ e.spokenS
    · simp [OpenEntry.rearm, OpenEntry.underAllowance, OpenEntry.within, hc, hover]
    · have hleft : t ≠ 0 → e.spokenS < t := by omega
      simpa [OpenEntry.rearm, OpenEntry.underAllowance, OpenEntry.within, hc, hover] using fun _ => hleft
  · simp [OpenEntry.rearm, OpenEntry.underAllowance, OpenEntry.within, hc]

@[simp] theorem OpenEntry.underAllowance_cls (t lead : Nat) (e : OpenEntry) : (e.underAllowance t lead).cls = e.cls := by
  unfold OpenEntry.underAllowance; split <;> rfl

theorem Floor.delegates_underAllowance (fl : Floor) (t lead : Nat) (params : Option FloorParams) :
    ({ fl with params := params, openList := fl.openList.map (OpenEntry.underAllowance t lead) } : Floor).delegates = fl.delegates := by
  simp [Floor.delegates, List.filter_map, Function.comp_def]

/-- The timers of a floor under WARN_ONLY when another allowance applies now (R107). -/
theorem Part.timerChange_allowance (p : Part) (f : Nat) (fl : Floor) (old new : FloorParams) (hfl : nth p.floors f = some fl)
    (hpar : fl.par.expiryAction = .warnOnly) (hlead : new.warningLead = old.warningLead) :
    p.timerChange f old new true =
      { p with floors := upd p.floors f (fun _ =>
          { fl with openList := fl.openList.map (OpenEntry.underAllowance new.allowance new.warningLead) }) } := by
  have hrearmed := p.floorAt_updFloor_same f
    (fun fl => { fl with openList := fl.openList.map (OpenEntry.rearm new.allowance new.warningLead) }) fl hfl
  have haction := congrArg (fun fl => fl.par.expiryAction) hrearmed
  simp only [Part.timerChange, if_true, hlead, ne_eq, not_true_eq_false, if_false, true_or]
  rw [← hlead, Part.settleTimers, haction.trans hpar, Part.updFloor_eq p f _ fl hfl]
  simp [Part.updFloor, upd_upd, OpenEntry.rearm_settled, Function.comp_def]

/-- Another allowance that applies now, alone and under WARN_ONLY (R107). -/
theorem Part.copyParams_rearmed (p : Part) (k f t : Nat) (c : Booking) (fl : Floor) (old q : FloorParams)
    (hq : q = { old with allowance := t }) (hfl : nth p.floors f = some fl) (haction : q.expiryAction = .warnOnly) (hlimit : fl.delegates ≤ q.limit) :
    (p.written k c).copyParams f old q true =
      ({ p.written k c with
        floors := upd p.floors f (fun _ =>
          { fl with params := some q, openList := fl.openList.map (OpenEntry.underAllowance t q.warningLead) }) } :
        Part).touchFloor f := by
  subst hq
  have htimers := Part.timerChange_allowance (p.copied k f c fl { old with allowance := t }) f _ old { old with allowance := t }
    (p.nth_copied k f c fl { old with allowance := t } hfl) haction rfl
  simp only [Part.copyParams, p.written_updFloor k f c fl _ hfl, lifetimeLowered_same old { old with allowance := t } rfl,
    Nat.lt_irrefl, Bool.false_eq_true, if_false]
  rw [htimers]
  simp only [Part.copied, upd_upd]
  rw [Part.enforceLimit_within]
  rw [Part.floorAt, nth_upd_same, hfl]
  exact (fl.delegates_underAllowance t old.warningLead _).le.trans hlimit

/-- The same limit and the same way of granting open no place (R108, R109). -/
theorem FloorParams.opensPlaces_same (old new : FloorParams) (hlimit : new.limit = old.limit)
    (hgrants : new.grantsItself = old.grantsItself) : FloorParams.opensPlaces old new = false := by
  simp [FloorParams.opensPlaces, hlimit, hgrants]

/-! ### Admission put into force -/

/-- The floor with the entries whose seats are kept, in their order. -/
def Floor.keeps (fl : Floor) (keep : Nat → Bool) : Floor := { fl with openList := fl.openList.filter (fun e => keep e.seat) }

def Queue.keeps (w : Queue) (keep : Nat → Bool) : Queue := { w with entries := w.entries.filter (fun e => keep e.seat) }

/-- `q` is `p` after the seats that are not kept have left floor `f`, each one that stood open with the guard (R35, R111). -/
structure Part.Sheds (p q : Part) (f : Nat) (fl : Floor) (w : Queue) (keep : Nat → Bool) : Prop where
  rest : q = { p with floors := upd p.floors f (fun _ => fl.keeps keep), queues := upd p.queues f (fun _ => w.keeps keep)
                      seats := q.seats }
  seats : ∀ n, nth q.seats n = (nth p.seats n).map (fun x =>
    if !keep n && fl.openSeats.contains n then { x with guardUntil := some (p.now + Config.guard) } else x)

theorem Part.sheds_nobody (p : Part) (f : Nat) (fl : Floor) (w : Queue) (hfl : nth p.floors f = some fl) (hw : nth p.queues f = some w) :
    p.Sheds p f fl w (fun _ => true) where
  rest := by
    have hkeeps : fl.keeps (fun _ => true) = fl ∧ w.keeps (fun _ => true) = w := by simp [Floor.keeps, Queue.keeps]
    rw [hkeeps.1, hkeeps.2, upd_self p.floors f fl hfl, upd_self p.queues f w hw]
  seats n := by simp

theorem Floor.keeps_without (fl : Floor) (keep : Nat → Bool) (n : Nat) :
    (fl.keeps keep).without n = fl.keeps (fun a => keep a && a != n) := by
  simp only [Floor.keeps, Floor.without, List.filter_filter, Bool.and_comm]

theorem Queue.keeps_without (w : Queue) (keep : Nat → Bool) (n : Nat) :
    (w.keeps keep).without n = w.keeps (fun a => keep a && a != n) := by
  simp only [Queue.keeps, Queue.without, List.filter_filter, Bool.and_comm]

/-- A seat that does not stand in the open list is not missed there. -/
theorem Floor.without_absent (fl : Floor) (n : Nat) (h : fl.openList.find? (fun e => e.seat == n) = none) : fl.without n = fl := by
  have hne : ∀ e ∈ fl.openList, (e.seat != n) = true := fun e he => by simpa using List.find?_eq_none.1 h e he
  rw [Floor.without, List.filter_eq_self.2 hne]

theorem Part.removeUnadmitted_open (p : Part) (f n : Nat) (h : (p.openEntry f n).isSome = true)
    (hfree : (p.seatAt n).priorityHeld = false) :
    p.removeUnadmitted f n =
      { p with
        floors := upd p.floors f (fun fl => fl.without n), queues := upd p.queues f (fun w => w.without n)
        seats := upd p.seats n (fun x => { x with guardUntil := some (p.now + Config.guard) }) } := by
  rw [Part.removeUnadmitted, if_pos h, p.forceClose_free f n hfree]; rfl

theorem Part.removeUnadmitted_absent (p : Part) (f n : Nat) (h : p.openEntry f n = none) :
    p.removeUnadmitted f n = { p with queues := upd p.queues f (fun w => w.without n) } := by
  rw [Part.removeUnadmitted, h]; rfl

section
variable {p q : Part} {f : Nat} {fl : Floor} {w : Queue} {keep : Nat → Bool}

theorem Part.Sheds.floorAt (h : p.Sheds q f fl w keep) (hfl : nth p.floors f = some fl) : q.floorAt f = fl.keeps keep :=
  Part.floorAt_written (congrArg Part.floors h.rest) hfl

theorem Part.Sheds.queueAt (h : p.Sheds q f fl w keep) (hw : nth p.queues f = some w) : q.queueAt f = w.keeps keep :=
  Part.queueAt_written (congrArg Part.queues h.rest) hw

/-- A seat after others have left: its guard may have moved, nothing else. -/
theorem Part.Sheds.seatAt (h : p.Sheds q f fl w keep) (n : Nat) :
    ∃ g, q.seatAt n = { p.seatAt n with guardUntil := g } := by
  rw [Part.seatAt, Part.seatAt, h.seats n]
  cases nth p.seats n with
  | none => exact ⟨_, rfl⟩
  | some x =>
    by_cases hmark : (!keep n && fl.openSeats.contains n) = true
    · exact ⟨some (p.now + Config.guard), by simp only [Option.map_some, Option.getD_some, if_pos hmark]⟩
    · exact ⟨x.guardUntil, by simp only [Option.map_some, Option.getD_some, if_neg hmark]⟩

theorem Part.Sheds.openEntry_isSome (h : p.Sheds q f fl w keep) (hfl : nth p.floors f = some fl) (n : Nat) :
    (q.openEntry f n).isSome = (keep n && fl.openSeats.contains n) := by
  rw [Part.openEntry, h.floorAt hfl, Floor.keeps, Floor.openSeats, Bool.eq_iff_iff]
  simp only [List.find?_isSome, List.mem_filter, Bool.and_eq_true, List.contains_iff_mem, List.mem_map, beq_iff_eq]
  constructor
  · rintro ⟨e, ⟨he, hk⟩, rfl⟩
    exact ⟨hk, e, he, rfl⟩
  · rintro ⟨hk, e, he, rfl⟩
    exact ⟨e, ⟨he, hk⟩, rfl⟩

/-- One more seat leaves. -/
theorem Part.Sheds.removeUnadmitted (h : p.Sheds q f fl w keep) (hfl : nth p.floors f = some fl)
    (hfree : ∀ e ∈ fl.openList, (p.seatAt e.seat).priorityHeld = false) (n : Nat) :
    p.Sheds (q.removeUnadmitted f n) f fl w (fun a => keep a && a != n) := by
  have hopen := h.openEntry_isSome hfl n
  have hrest := h.rest
  have hfloors := congrArg Part.floors hrest
  have hqueues := congrArg Part.queues hrest
  dsimp only at hfloors hqueues
  cases hstands : keep n && fl.openSeats.contains n with
  | true =>
    obtain ⟨hk, hmem⟩ := Bool.and_eq_true_iff.1 hstands
    obtain ⟨e, he, hseat⟩ := List.mem_map.1 (List.contains_iff_mem.1 hmem)
    obtain ⟨g, hg⟩ := h.seatAt n
    rw [q.removeUnadmitted_open f n (hopen.trans hstands) (by rw [hg]; exact hseat ▸ hfree e he)]
    constructor
    · rw [hfloors, hqueues, upd_upd, upd_upd, fl.keeps_without, w.keeps_without]
      rw [hrest]
    · intro m
      by_cases hm : m = n
      · subst hm
        rw [nth_upd_same, h.seats m, hk]
        have hnow : q.now = p.now := (congrArg Part.now hrest).trans rfl
        simp [List.contains_iff_mem.1 hmem, hnow]
      · rw [nth_upd_ne _ _ _ _ (Ne.symm hm), h.seats m]
        simp [hm]
  | false =>
    have hnone : q.openEntry f n = none := by rw [← Option.isNone_iff_eq_none, ← Option.not_isSome, hopen, hstands]; rfl
    have hsame : fl.keeps (fun a => keep a && a != n) = fl.keeps keep := by
      rw [← fl.keeps_without keep n]
      rw [Part.openEntry, h.floorAt hfl] at hnone
      exact Floor.without_absent _ n hnone
    rw [q.removeUnadmitted_absent f n hnone]
    constructor
    · rw [hqueues, upd_upd, w.keeps_without, hsame]
      rw [hrest]
    · intro m
      by_cases hm : m = n
      · subst hm
        have hmark : (!keep m && fl.openSeats.contains m) = (!(keep m && m != m) && fl.openSeats.contains m) := by
          cases hk : keep m <;> simp [hk] at hstands ⊢ ; exact hstands
        rw [h.seats m, hmark]
      · rw [h.seats m]
        simp [hm]

/-- All of a list of seats leave. -/
theorem Part.Sheds.removeAll (hfl : nth p.floors f = some fl) (hfree : ∀ e ∈ fl.openList, (p.seatAt e.seat).priorityHeld = false)
    (seats : List Nat) : ∀ (q : Part) (keep : Nat → Bool), p.Sheds q f fl w keep →
      p.Sheds (seats.foldl (fun q n => q.removeUnadmitted f n) q) f fl w (fun a => keep a && !seats.contains a) := by
  induction seats with
  | nil => intro q keep h; simpa using h
  | cons n seats ih =>
    intro q keep h
    have hrest := ih _ _ (h.removeUnadmitted hfl hfree n)
    have hkeep : (fun a => keep a && a != n && !seats.contains a) = (fun a => keep a && !(n :: seats).contains a) := by
      funext a
      rw [List.contains_cons, Bool.not_or, Bool.and_assoc]; rfl
    rwa [hkeep] at hrest

end

/-- What `admitted` of a seat reads (R79): the unit and badge of the seat, the booking table, and of the floors nothing that an
opening or a close writes. -/
theorem Part.admitted_congr (p q : Part) (n : Nat) (hsettings : q.settings = p.settings) (hslots : q.slots = p.slots)
    (hshell : ∀ g, (q.floorAt g).shell = (p.floorAt g).shell) (hpresence : (q.seatAt n).health.presence = (p.seatAt n).health.presence)
    (hbadge : (q.seatAt n).badge = (p.seatAt n).badge) : q.admitted n = p.admitted n := by
  have hholds : ∀ g z, (q.floorAt g).holds z = (p.floorAt g).holds z := fun g z => congrArg (fun fl => fl.holds z) (hshell g)
  have hstate : ∀ g, (q.floorAt g).state = (p.floorAt g).state := fun g => congrArg (fun fl => fl.state) (hshell g)
  have hbooking : ∀ g, (q.floorAt g).booking = (p.floorAt g).booking := fun g => congrArg (fun fl => fl.booking) (hshell g)
  have hof : q.floorOf n = p.floorOf n := by
    rw [Part.floorOf, Part.floorOf, Part.zoneOf, Part.zoneOf, hsettings]
    refine congrArg _ (funext fun z => ?_)
    rw [Part.floorOfZone, Part.floorOfZone]
    exact congrArg (fun h => floorNumbers.find? h) (funext fun g => hholds g z)
  have hserved : ∀ g, q.served g = p.served g := fun g => by
    rw [Part.served, Part.served, hbooking g]
    exact congrArg _ (funext fun h => Part.bookingOf_of_slots q p hslots h)
  simp only [Part.admitted, Part.inService, hpresence, hbadge, hof, hstate, hserved]

theorem Part.Sheds.shell {p q : Part} (h : p.Sheds q f fl w keep) (hfl : nth p.floors f = some fl) (g : Nat) :
    (q.floorAt g).shell = (p.floorAt g).shell := by
  by_cases hg : g = f
  · subst hg
    rw [h.floorAt hfl, p.floorAt_of_nth g fl hfl]; rfl
  · exact congrArg Floor.shell (Part.floorAt_other (congrArg Part.floors h.rest) hg)

theorem Part.Sheds.admitted {p q : Part} (h : p.Sheds q f fl w keep) (hfl : nth p.floors f = some fl) (n : Nat) :
    q.admitted n = p.admitted n := by
  obtain ⟨g, hg⟩ := h.seatAt n
  exact p.admitted_congr q n ((congrArg Part.settings h.rest).trans rfl) ((congrArg Part.slots h.rest).trans rfl) (h.shell hfl)
    (by rw [hg]) (by rw [hg])

theorem Part.admitted_of_records {p q : Part} (h : q.records = p.records) (n : Nat) : q.admitted n = p.admitted n := by
  have hfloors : q.floors = p.floors := congrArg Records.floors h
  have hseat := Part.seatAt_quiet_of_records h n
  refine p.admitted_congr q n (congrArg Records.settings h) (congrArg Records.slots h) (fun g => ?_)
    ((congrArg (fun x => x.health.presence) hseat).trans rfl) ((congrArg Seat.badge hseat).trans rfl)
  rw [Part.floorAt, Part.floorAt, hfloors]

/-- Admission enforced at a LIVE floor of a PRIVATE booking: the unadmitted seats leave (R35, R80). -/
theorem Part.enforceAdmission_sheds (p : Part) (f : Nat) (fl : Floor) (w : Queue) (hfl : nth p.floors f = some fl)
    (hw : nth p.queues f = some w) (hlive : fl.state = .live) (hprivate : p.isPrivate f = true)
    (hfree : ∀ e ∈ fl.openList, (p.seatAt e.seat).priorityHeld = false) :
    p.Sheds (p.enforceAdmission f) f fl w (fun n => !(p.unadmittedAt f).contains n) := by
  have hif : (decide ((p.floorAt f).state = .live) && p.isPrivate f) = true := by
    rw [p.floorAt_of_nth f fl hfl, hlive, hprivate]; rfl
  rw [Part.enforceAdmission, if_pos hif]
  simpa using Part.Sheds.removeAll hfl hfree (p.unadmittedAt f) p _ (p.sheds_nobody f fl w hfl hw)

/-- A seat of the open list or the queue is kept when it is admitted. -/
theorem Part.kept_iff (p : Part) (f n : Nat) (fl : Floor) (w : Queue) (hfl : nth p.floors f = some fl) (hw : nth p.queues f = some w)
    (hn : n ∈ fl.openSeats ∨ n ∈ w.entries.map (fun e => e.seat)) : (!(p.unadmittedAt f).contains n) = p.admitted n := by
  have hmem : n ∈ (p.floorAt f).openSeats ++ (p.queueAt f).entries.map (fun e => e.seat) := by
    rw [p.floorAt_of_nth f fl hfl, p.queueAt_of_nth f w hw]
    exact List.mem_append.2 hn
  rw [Bool.eq_iff_iff, Bool.not_eq_true', ← Bool.not_eq_true, List.contains_iff_mem, Part.unadmittedAt, List.mem_filter]
  simp [hmem]

/-! ### The statement -/

section
variable {s : State} {k f : Nat} {b : Booking} {fl : Floor} {w : Queue} {r : ChangeRequest} {body : List Byte}

/-- A change of parameters alone: the records that copying them leaves. -/
theorem RunningAt.answersParams (h : RunningAt s.part k f b fl w) (hr : s.runs)
    (hparse : parseChange body = some r) (hhandle : r.handle = b.handle) (hspan : r.span = none) (hending : r.ending = none)
    (hin : s.part.changeInRange b r = true) (q : FloorParams) (hq : r.params = some q) (hadm : r.admission = none) (A : Part)
    (hA : (s.part.written k { b with params := q }).copyParams f b.params q r.now = A.touchFloor f)
    (hbase : A.slots = upd s.part.slots k (fun _ => some { b with params := q }) ∧ A.clock = s.part.clock ∧
      A.control = s.part.control)
    (hgrant : A.grantReady f = false ∨ fl.delegates ≤ (A.floorAt f).delegates ∧ FloorParams.opensPlaces b.params q = false) :
    AnswersWith (.changeBooking body) s 0x11 .done [] A.records := by
  have hchanged : b.changed r = { b with params := q } := by simp [Booking.changed, hq, hadm, hspan, hending]
  obtain ⟨hslots, hclock, hcontrol⟩ := hbase
  refine h.answers body r hr hparse hhandle hspan hending hin (A.touchFloor f) ?_ (hchanged ▸ hslots) hclock hcontrol
  rw [hchanged]
  refine Part.changeAtFloor_params _ _ f b.params q r (by rw [hq]; rfl) hadm hA ?_
  rcases hgrant with hgrant | ⟨hle, hno⟩
  · exact Or.inl hgrant
  · refine Or.inr ⟨?_, hno⟩
    rw [Part.floorAt_of_nth (s.part.written k { b with params := q }) f fl h.nthFloor]
    exact hle

/-- An admission of PRIVATE put into force at a LIVE floor in a mode that grants nothing by itself (R35). -/
theorem RunningAt.repliesPrivate (h : RunningAt s.part k f b fl w) (hr : s.runs)
    (hparse : parseChange body = some r) (hhandle : r.handle = b.handle) (hspan : r.span = none) (hending : r.ending = none)
    (hin : s.part.changeInRange b r = true) (a : Admission) (hparams : r.params = none) (hadm : r.admission = some a)
    (ha : a.confidentiality = .privateMeeting) (hlive : fl.state = .live) (hfp : fl.params = some b.params)
    (hbooking : fl.booking = some b.handle) (hmode : b.params.mode = .moderated)
    (hfree : ∀ e ∈ fl.openList, (s.part.seatAt e.seat).priorityHeld = false) :
    ∃ q A, Replies (.changeBooking body) s 0x11 .done [] q ∧ q.records = A.records ∧
      (s.part.written k (b.changed r)).Sheds A f fl w
        (fun n => !((s.part.written k (b.changed r)).unadmittedAt f).contains n) := by
  have hsame : (b.changed r).params = b.params := by simp [Booking.changed, hparams]
  have hconf : (b.changed r).confidentiality = .privateMeeting := by simp [Booking.changed, hadm, ha]
  generalize hc : b.changed r = c at hsame hconf
  have hhc : c.handle = b.handle := hc ▸ rfl
  generalize hP : s.part.written k c = P
  have hnth : nth P.floors f = some fl := by rw [← hP]; exact h.nthFloor
  have hbook : P.bookingOf b.handle = some c := s.part.bookingOf_written P k b c h.slot h.held hhc (by rw [← hP]; rfl)
  have hprivate : P.isPrivate f = true := by
    rw [Part.isPrivate, Part.served, P.floorAt_of_nth f fl hnth, hbooking]
    simp [hbook, hconf]
  have hsheds := P.enforceAdmission_sheds f fl w hnth (by rw [← hP]; exact h.nthQueue) hlive hprivate
    (fun e he => by rw [← hP]; exact hfree e he)
  have hidle : (P.enforceAdmission f).grantReady f = false :=
    Part.grantReady_of _ f _ _ b.params (hsheds.floorAt hnth) rfl hfp (Or.inl hmode)
  have hA : P.changeAtFloor f b.params c.params r = P.enforceAdmission f := by
    simp only [Part.changeAtFloor, hparams, hadm, Option.isSome_none, Option.isSome_some, Bool.false_eq_true, if_false, if_true,
      Part.autoGrant_idle _ f hidle, ite_self]
  subst hc hP
  obtain ⟨q, hexec, hanswer, hrecords⟩ := h.answers body r hr hparse hhandle hspan hending hin _ hA
    ((congrArg Part.slots hsheds.rest).trans rfl) ((congrArg Part.clock hsheds.rest).trans rfl)
    ((congrArg Part.control hsheds.rest).trans rfl)
  exact ⟨q, _, ⟨hexec, hanswer⟩, hrecords, hsheds⟩

end

theorem answersWith_congr {c : Instr} {s : State} {code : Byte} {st : Status} {body : List Byte} {x y : Records}
    (h : AnswersWith c s code st body x) (hxy : x = y) : AnswersWith c s code st body y := hxy ▸ h

/-- Settles O20: what the change at the floor does, case by case; the auto grant behind it is idle or not tested. -/
theorem runningBookingChangesAtTheFloor : Obligations.RunningBookingChangesAtTheFloor := by
  intro s body r k f b fl w hr hparse hslot hb hf hstate hahead hawake hfl hw hfp hfb hspan hending hin
  have hhandle : b.handle = r.handle := s.part.bookingOf_handle _ b (by rw [Part.bookingOf, hslot]; exact hb)
  have h : RunningAt s.part k f b fl w := ⟨hhandle ▸ hslot, hb, hf, hstate, hahead, hawake, hfl, hw⟩
  refine ⟨fun q hq hadm => ⟨?room, ?limit, ?capacity, ?allowance⟩, ?admission⟩
  case room =>
    intro hnow hlimit hlead haction hcap hlife hidle
    refine h.answersParams hr hparse hhandle.symm hspan hending hin q hq hadm (s.part.copied k f { b with params := q } fl q) ?_
      ⟨rfl, rfl, rfl⟩ (Or.inl ?_)
    · rw [hnow]
      exact s.part.copyParams_room k f _ fl b.params q hfl hlimit hlead haction hcap hlife
    · exact Part.grantReady_of _ f _ w q (s.part.floorAt_copied k f _ fl q hfl) (Part.queueAt_of_nth _ f w hw) rfl hidle
  case limit =>
    intro front back e l hnow hq' hopen he hback hnodup hcount hfree hidle
    let C := s.part.copied k f { b with params := q } fl q
    have hnth : nth C.floors f = some { fl with params := some q } := s.part.nth_copied k f _ fl q hfl
    have hfloor : ((C.dropEntry f e.seat).setGuard e.seat).floorAt f = _ := C.floorAt_dropEntry f e.seat _ hnth
    refine answersWith_congr (h.answersParams hr hparse hhandle.symm hspan hending hin q hq hadm
      ((C.dropEntry f e.seat).setGuard e.seat) ?_ ⟨rfl, rfl, rfl⟩ (Or.inl ?_)) ?_
    · rw [hnow]
      exact s.part.copyParams_lowered k f l _ fl b.params q hq' front back e hfl hopen he hback hnodup hcount hfree
    · exact Part.grantReady_of _ f _ w q hfloor (Part.queueAt_of_nth _ f w hw) rfl hidle
    · rw [Part.dropEntry, C.updFloor_eq f _ _ hnth]
      simp only [C, Part.copied, upd_upd, hopen, filter_seat_ne front back e (hopen ▸ hnodup)]
      rfl
  case capacity =>
    intro cap hnow hq' hcap hlimit
    refine h.answersParams hr hparse hhandle.symm hspan hending hin q hq hadm
      { s.part.copied k f { b with params := q } fl q with
        queues := upd s.part.queues f (fun _ => { w with entries := w.entries.take cap }) } ?_ ⟨rfl, rfl, rfl⟩ (Or.inr ⟨?_, ?_⟩)
    · rw [hnow]
      exact s.part.copyParams_trimmed k f cap _ fl w b.params q hq' hfl hw hcap hlimit
    · exact (congrArg Floor.delegates (s.part.floorAt_copied k f { b with params := q } fl q hfl)).ge
    · subst hq'
      exact FloorParams.opensPlaces_same _ _ rfl rfl
  case allowance =>
    intro t hnow ht hq' haction hlimit
    refine h.answersParams hr hparse hhandle.symm hspan hending hin q hq hadm
      { s.part.written k { b with params := q } with
        floors := upd s.part.floors f (fun _ =>
          { fl with params := some q, openList := fl.openList.map (OpenEntry.underAllowance t q.warningLead) }) }
      ?_ ⟨rfl, rfl, rfl⟩ (Or.inr ⟨?_, ?_⟩)
    · rw [hnow]
      exact s.part.copyParams_rearmed k f t _ fl b.params q hq' hfl haction hlimit
    · rw [Part.floorAt, nth_upd_same, hfl]
      exact (fl.delegates_underAllowance t q.warningLead _).ge
    · subst hq'
      exact FloorParams.opensPlaces_same _ _ rfl rfl
  case admission =>
    intro a hparams hadm ha hlive hflive hmode hfree
    obtain ⟨q, A, hreplies, hrecords, hsheds⟩ := h.repliesPrivate hr hparse hhandle.symm hspan hending hin a hparams hadm ha hflive hfp
      hfb hmode hfree
    have hadmitted : ∀ n, q.admitted n = (s.part.written k (b.changed r)).admitted n := fun n =>
      (Part.admitted_of_records hrecords n).trans (hsheds.admitted hfl n)
    have hkept := fun n => Part.kept_iff (s.part.written k (b.changed r)) f n fl w hfl hw
    have hfloors : q.floors = A.floors := congrArg Records.floors hrecords
    have hqueues : q.queues = A.queues := congrArg Records.queues hrecords
    have hslots : q.slots = A.slots := congrArg Records.slots hrecords
    refine ⟨q, hreplies, ?_, ?_, ?_, fun e x he hx hout => ?_, fun g hg => ⟨?_, ?_⟩⟩
    · have hnth := s.part.slotAt_some k b hb
      rw [Part.slotAt, hslots, hsheds.rest]
      simp [Part.written, nth_upd_same, hnth, Booking.changed, hparams, hadm, hspan, hending, ha]
    · rw [Part.floorAt, hfloors]
      refine (hsheds.floorAt hfl).trans ?_
      simp only [Floor.keeps, Floor.mk.injEq, true_and, hadmitted]
      exact List.filter_congr fun e he => hkept e.seat (Or.inl (List.mem_map_of_mem he))
    · rw [Part.queueAt, hqueues]
      refine (hsheds.queueAt hw).trans ?_
      simp only [Queue.keeps, Queue.mk.injEq, and_true, hadmitted]
      exact List.filter_congr fun e he => hkept e.seat (Or.inr (List.mem_map_of_mem he))
    · have hseat : (q.seatAt e.seat).guardUntil = (A.seatAt e.seat).guardUntil :=
        (congrArg Seat.guardUntil (Part.seatAt_quiet_of_records hrecords e.seat)).trans rfl
      have hmem : e.seat ∈ fl.openSeats := List.mem_map_of_mem he
      have hgone := (hkept e.seat (Or.inl hmem)).trans ((hadmitted e.seat).symm.trans hout)
      rw [hseat, Part.seatAt, hsheds.seats e.seat, show nth (s.part.written k (b.changed r)).seats e.seat = some x from hx, hgone]
      simp [hmem, Part.written]
    · rw [Part.floorAt, hfloors]
      exact Part.floorAt_other (p := s.part.written k (b.changed r)) (congrArg Part.floors hsheds.rest) hg
    · rw [Part.queueAt, hqueues]
      exact Part.queueAt_other (p := s.part.written k (b.changed r)) (congrArg Part.queues hsheds.rest) hg

end Sys2Proof.Machine
end

section
/-! How close-out goes on: the clear phase, the release of the floor, and what RETIRE_BOOKING does by state (O21). -/

namespace Sys2Proof.Machine

/-! ### Parts with equal records -/

/-- Part `p` has the records of `s`. -/
def Part.Like (s p : Part) : Prop := p.records = s.records

section
variable {s p : Part}

theorem Part.Like.rfl' (s : Part) : s.Like s := rfl
theorem Part.Like.follow (h : s.Like p) (old : Part) : s.Like (old.follow p) := (Part.follow_records old p).trans h
theorem Part.Like.slotAt (h : s.Like p) (k : Nat) : p.slotAt k = s.slotAt k :=
  Part.slotAt_of_slots p s (congrArg Records.slots h) k
theorem Part.Like.slotOf (h : s.Like p) (n : Nat) : p.slotOf n = s.slotOf n :=
  Part.slotOf_of_slots p s (congrArg Records.slots h) n
theorem Part.Like.bookingOf (h : s.Like p) (n : Nat) : p.bookingOf n = s.bookingOf n :=
  Part.bookingOf_of_slots p s (congrArg Records.slots h) n
theorem Part.Like.floors (h : s.Like p) : p.floors = s.floors := congrArg Records.floors h
theorem Part.Like.queues (h : s.Like p) : p.queues = s.queues := congrArg Records.queues h
theorem Part.Like.contexts (h : s.Like p) : p.contexts = s.contexts := congrArg Records.contexts h
theorem Part.Like.partitions (h : s.Like p) : p.partitions = s.partitions := congrArg Records.partitions h
theorem Part.Like.floorAt (h : s.Like p) (f : Nat) : p.floorAt f = s.floorAt f := by rw [Part.floorAt, Part.floorAt, h.floors]
theorem Part.Like.queueAt (h : s.Like p) (f : Nat) : p.queueAt f = s.queueAt f := by rw [Part.queueAt, Part.queueAt, h.queues]
theorem Part.Like.contextAt (h : s.Like p) (f : Nat) : p.contextAt f = s.contextAt f := by
  rw [Part.contextAt, Part.contextAt, h.contexts]
theorem Part.Like.seatAt (h : s.Like p) (n : Nat) : (p.seatAt n).quiet = (s.seatAt n).quiet := Part.seatAt_quiet_of_records h n
theorem Part.Like.calmBut (h : s.Like p) (hs : s.calmBut f) : p.calmBut f := s.calmBut_of_eq p f h.partitions h.floors hs

end

/-- A run from one of several states. -/
theorem Runs.ofExists {α : Type} {n : Nat} {ts : List Task} {P : α → Part → Prop} {Q : Part → Prop}
    (h : ∀ x, Runs n ts (P x) Q) : Runs n ts (fun p => ∃ x, P x p) Q := by
  rintro p ⟨x, hx⟩
  exact h x p hx

/-! ### The clear phase -/

/-- The part after the clear phase has begun: the seats of the zones cleared, and the operation's new work (R58). -/
def Part.inClear (s : Part) (f : Nat) (b : Booking) (work : List WorkEntry) : Part :=
  { s.writeSeats b.zones (fun _ => none) with
    contexts := upd s.contexts f (fun _ => some { booking := b.handle, phase := .clear, work := work }) }

/-- Writing the seats of a run does not look at `mic_confirmed`. -/
theorem Part.Like.writeSeats_seats {s p : Part} (h : s.Like p) (run : ZoneRun) (e : Nat → Option RosterEntry) :
    (p.writeSeats run e).seats.map Seat.quiet = (s.writeSeats run e).seats.map Seat.quiet := by
  have hin := Part.seatIn_of_records h run
  have hquiet : p.seats.map Seat.quiet = s.seats.map Seat.quiet := congrArg Records.seats h
  have hmap : ∀ (seats : List Seat) (i : Nat), (mapFrom (fun n x => if s.seatIn run n then x.take (e n) else x) i seats).map Seat.quiet =
      mapFrom (fun n x => if s.seatIn run n then x.take (e n) else x) i (seats.map Seat.quiet) := by
    intro seats
    induction seats with
    | nil => intro i; rfl
    | cons x seats ih =>
      intro i
      simp only [mapFrom, List.map_cons, ih]
      split <;> rfl
  simp only [Part.writeSeats, hin, hmap, hquiet]

theorem Part.beginClear_like {s p : Part} (h : s.Like p) (f : Nat) (b : Booking) :
    ∃ work, freshWork (s.servedSeats b.zones) work ∧ (s.inClear f b work).Like (p.beginClear f b) := by
  refine ⟨(p.servedSeats b.zones).map p.newWork, ?_, ?_⟩
  · rw [← Part.servedSeats_of_records h]
    exact freshWork_newWork _ _
  · rw [Part.Like, Part.beginClear, Part.requestSeats_records]
    have hseats := h.writeSeats_seats b.zones (fun _ => none)
    have hrec := congrArg (fun r : Records => { r with
      seats := (p.writeSeats b.zones (fun _ => none)).seats.map Seat.quiet
      contexts := upd r.contexts f (fun _ => some
        { booking := b.handle, phase := .clear, work := (p.servedSeats b.zones).map p.newWork }) }) h
    refine hrec.trans ?_
    rw [hseats]; rfl

/-- What a cleared seat holds (R58). -/
theorem Part.inClear_seat {s q : Part} {f : Nat} {b : Booking} {work : List WorkEntry} (h : (s.inClear f b work).Like q) (n : Nat)
    (x : Seat) (hx : nth s.seats n = some x) :
    (q.seatAt n).quiet = (if s.seatIn b.zones n then { x with occupant := none, role := .ordinary } else x).quiet := by
  rw [h.seatAt n, Part.seatAt]
  change ((nth (s.writeSeats b.zones (fun _ => none)).seats n).getD startSeat).quiet = _
  rw [s.writeSeats_seat, hx]
  rfl

/-- The close phase is complete: the clear phase begins (R58). -/
theorem runs_clear {s : Part} {f h m : Nat} {b : Booking} {work : List WorkEntry} {Q : Part → Prop}
    (hctx : s.contextAt f = some { booking := h, phase := .close, work := work }) (hdone : settledWork work = true)
    (hb : s.bookingOf h = some b)
    (hrun : ∀ w, freshWork (s.servedSeats b.zones) w → Runs m [.advance f] (s.inClear f b w).Like Q) :
    Runs (m + 1) [.advance f] s.Like Q := by
  refine Runs.task (ts := [.advance f]) (P' := fun q => ∃ w : { w // freshWork (s.servedSeats b.zones) w }, (s.inClear f b w.1).Like q)
    (fun p hp => ?_) (Runs.ofExists fun w => hrun w.1 w.2)
  obtain ⟨w, hw, hlike⟩ := Part.beginClear_like hp f b
  exact ⟨p.beginClear f b, by simp [Part.doTask, Part.takeAdvance, hp.contextAt, hctx, hp.bookingOf, hb, hdone], ⟨w, hw⟩,
    hlike.follow p⟩

/-- An operation with an AWAITING entry waits (R47). -/
theorem runs_advance_waits {s : Part} {f : Nat} {c : OpContext} {b : Booking} (hctx : s.contextAt f = some c)
    (hb : s.bookingOf c.booking = some b) (hwait : settledWork c.work = false) : Runs 1 [.advance f] s.Like s.Like :=
  Runs.single fun p hp => ⟨p, by simp [Part.doTask, Part.takeAdvance, hp.contextAt, hctx, hp.bookingOf, hb, hwait], hp.follow p⟩

/-! ### The release of the floor -/

/-- What becomes of the record of a booking closed out (R59). -/
def Booking.gone (b : Booking) : Option Booking :=
  if b.retireOnCompletion then none else some (b.finish (b.pendingOutcome.getD .completed))

/-- The part after a floor's release: its operation over, slot `k` as `c`, the floor FREE, its queue empty, and the table in use
(R12, R59). -/
def Part.released (s : Part) (f k : Nat) (c : Option Booking) : Part :=
  { s with
    contexts := upd s.contexts f (fun _ => none)
    slots := upd s.slots k (fun _ => c)
    floors := upd s.floors f Floor.freed
    queues := upd s.queues f (fun w => { w with entries := [] })
    control := { s.control with idleMark := s.now } }

theorem Part.freeBooking_eq (p : Part) (h k : Nat) (hk : p.slotOf h = some k) :
    p.freeBooking h = { p with slots := upd p.slots k (fun _ => none) } := by
  rw [Part.freeBooking, hk]

/-- The release of a floor in a room where every other floor is calm (R12, R14). -/
theorem Part.releaseFloor_eq (p : Part) (f : Nat) (h : p.calmBut f) :
    p.releaseFloor f = { p with
      floors := upd p.floors f Floor.freed
      queues := upd p.queues f (fun w => { w with entries := [] })
      control := { p.control with idleMark := p.now } } := by
  refine Part.evalSuspension_calm _ ⟨h.1, fun g => ?_⟩
  by_cases hg : g = f
  · subst hg
    change ((nth (upd p.floors g Floor.freed) g).getD startFloor).suspended = false
    rw [nth_upd_same]
    cases nth p.floors g <;> rfl
  · have hother := p.floorAt_updFloor_ne f g Floor.freed (Ne.symm hg)
    exact (congrArg Floor.suspended hother).trans (h.2 g hg)

theorem Part.completeCloseOut_like {s p : Part} (h : s.Like p) (f k : Nat) (b : Booking) (hk : s.slotOf b.handle = some k)
    (hb : s.slotAt k = some b) (hcalm : s.calmBut f) : (s.released f k b.gone).Like (p.completeCloseOut f b) := by
  have hended : (if b.retireOnCompletion then (p.setContext f none).freeBooking b.handle
      else (p.setContext f none).updBooking b.handle (fun b => b.finish (b.pendingOutcome.getD .completed))) =
      { p.setContext f none with slots := upd p.slots k (fun _ => b.gone) } := by
    have hkp : (p.setContext f none).slotOf b.handle = some k := (h.slotOf b.handle).trans hk
    have hbp : (p.setContext f none).slotAt k = some b := (h.slotAt k).trans hb
    rw [Booking.gone]
    split
    · exact Part.freeBooking_eq _ _ k hkp
    · exact Part.updBooking_eq _ _ k _ b hkp hbp
  rw [Part.Like, Part.completeCloseOut]
  simp only [hended]
  rw [Part.touchTable_records, Part.releaseFloor_eq]
  · exact congrArg (fun r : Records => { r with
      contexts := upd r.contexts f (fun _ => none)
      slots := upd r.slots k (fun _ => b.gone)
      floors := upd r.floors f Floor.freed
      queues := upd r.queues f (fun w => { w with entries := [] })
      control := { r.control with idleMark := r.now } }) h
  · exact h.calmBut hcalm

/-- With no booking WAITING, a release is followed by nothing (R62). -/
theorem runs_chain_idle {s : Part} (hno : ∀ j c, s.slotAt j = some c → c.state ≠ .waiting) (i : Nat) :
    Runs 1 [.chain i] s.Like s.Like := by
  refine Runs.single fun p hp => ⟨p, ?_, hp.follow p⟩
  have hnone : slotNumbers.find? (fun j => decide (i ≤ j) && ((p.slotAt j).map p.canBegin).getD false) = none := by
    refine List.find?_eq_none.2 fun j _ => ?_
    rw [hp.slotAt]
    cases hc : s.slotAt j with
    | none => simp
    | some c => simp [Part.canBegin, hno j c hc]
  simp [Part.doTask, Part.takeChain, hnone]

/-- The bookings after a release. -/
theorem Part.released_slotAt (s : Part) (f k : Nat) (c : Option Booking) (b : Booking) (hb : s.slotAt k = some b) :
    (s.released f k c).slotAt k = c := by
  rw [Part.slotAt, Part.released, nth_upd_same, s.slotAt_some k b hb]; rfl

theorem Part.released_slotAt_ne (s : Part) (f k j : Nat) (c : Option Booking) (hj : j ≠ k) :
    (s.released f k c).slotAt j = s.slotAt j := by
  rw [Part.slotAt, Part.released, nth_upd_ne _ _ _ _ (Ne.symm hj)]; rfl

theorem Booking.gone_ended (b c : Booking) (h : b.gone = some c) : c.state = .ended := by
  rw [Booking.gone] at h
  split at h
  · cases h
  · cases h; rfl

/-- The clear phase is complete, and no booking is WAITING: the floor is released (R59, R62). -/
theorem runs_complete {s : Part} {f h k : Nat} {b : Booking} {work : List WorkEntry}
    (hctx : s.contextAt f = some { booking := h, phase := .clear, work := work }) (hdone : settledWork work = true)
    (hh : b.handle = h) (hk : s.slotOf h = some k) (hb : s.slotAt k = some b) (hcalm : s.calmBut f)
    (hno : ∀ j c, j ≠ k → s.slotAt j = some c → c.state ≠ .waiting) :
    Runs 2 [.advance f] s.Like (s.released f k b.gone).Like := by
  subst hh
  have hbook : s.bookingOf b.handle = some b := by rw [Part.bookingOf, hk]; exact hb
  refine Runs.task (ts := [.chain 1]) (fun p hp => ⟨p.completeCloseOut f b, ?_,
    (Part.completeCloseOut_like hp f k b hk hb hcalm).follow p⟩) (runs_chain_idle (fun j c hc => ?_) 1)
  · simp [Part.doTask, Part.takeAdvance, hp.contextAt, hctx, hp.bookingOf, hbook, hdone]
  · by_cases hj : j = k
    · subst hj
      rw [s.released_slotAt f j _ b hb] at hc
      rw [b.gone_ended c hc]; decide
    · rw [s.released_slotAt_ne f k j _ hj] at hc
      exact hno j c hj hc

end Sys2Proof.Machine
end

section
/-! The begin of a close-out by RETIRE_BOOKING, and the statement about RETIRE_BOOKING (O21). -/

namespace Sys2Proof.Machine

/-- Where the handle of a rewritten record is found. -/
theorem Part.slotOf_written (p A : Part) (k : Nat) (b c : Booking) (hk : p.slotOf b.handle = some k) (hb : p.slotAt k = some b)
    (hc : c.handle = b.handle) (hA : A.slots = upd p.slots k (fun _ => some c)) : A.slotOf b.handle = some k := by
  have hslots := p.updBooking_slots b.handle k (fun _ => c) b hk hb
  rw [Part.slotOf_of_slots A _ (hA.trans hslots.symm), p.updBooking_slot b.handle k _ hk,
    p.slotOf_updSlot k b.handle _ fun b' hb' => ?_, hk]
  rw [hb] at hb'
  cases hb'; exact hc

/-! ### Close-out begins -/

/-- The begin of a close-out, seen from a part with the same records. -/
theorem ClosingAt.ofLike {s p c : Part} {f k h : Nat} {b : Booking} {fl fl' : Floor} {work : List WorkEntry} (hs : s.Like p)
    (hc : ClosingAt p c f k h b fl fl' work) : ClosingAt s c f k h b fl fl' work where
  records := hc.records.trans (congrArg (fun r : Records => { r with
    slots := upd r.slots k (fun _ => some { b with state := .closing })
    seats := c.records.seats
    floors := upd r.floors f (fun _ => fl')
    queues := upd r.queues f (fun x => { x with entries := [] })
    contexts := upd r.contexts f (fun _ => some { booking := h, phase := .close, work := work }) }) hs)
  shell := hc.shell
  openList := hc.openList
  work := hc.work
  guard n x hx := by
    obtain ⟨z, hz, hzx⟩ := Part.nth_seat_of_records hs n x hx
    obtain ⟨y, hy, hyg⟩ := hc.guard n z hz
    have hnow : p.now = s.now := congrArg Records.now hs
    have hguard : z.guardUntil = x.guardUntil := (congrArg Seat.guardUntil hzx).trans rfl
    exact ⟨y, hy, by rw [hyg, hnow, hguard]⟩
  seats ho := (hc.seats ho).trans (congrArg Records.seats hs)

/-- A close-out begins, and its close phase is tested (R56, R57). -/
theorem runs_closeOut_from {s : Part} {f k m : Nat} {b : Booking} {fl : Floor} {Q : Part → Prop} (hk : s.slotOf b.handle = some k)
    (hb : s.slotAt k = some b) (hf : b.floor = some f) (hfl : nth s.floors f = some fl) (hcalm : s.calmBut f)
    (hrun : ∀ c fl' work, ClosingAt s c f k b.handle b fl fl' work → Runs m [.advance f] c.Like Q) :
    Runs (m + 1) [.closeOut b.handle] s.Like Q := by
  refine Runs.task (ts := [.advance f])
    (P' := fun q => ∃ c : { c : Part // ∃ fl' work, ClosingAt s c f k b.handle b fl fl' work }, c.1.Like q)
    (fun p hp => ?_) (Runs.ofExists fun c => ?_)
  · obtain ⟨fl', work, hc⟩ := p.beginCloseOut_closingAt f k b.handle b fl ((hp.slotOf _).trans hk) ((hp.slotAt k).trans hb)
      (by rw [hp.floors, hfl]) (hp.calmBut hcalm)
    have hbook : p.bookingOf b.handle = some b := by rw [Part.bookingOf, hp.slotOf, hk]; exact (hp.slotAt k).trans hb
    exact ⟨p.beginCloseOut f b.handle, by simp [Part.doTask, Part.takeCloseOut, hbook, hf],
      ⟨_, fl', work, hc.ofLike hp⟩, Part.Like.follow rfl _⟩
  · obtain ⟨c, fl', work, hc⟩ := c
    exact hrun c fl' work hc

section
variable {s c : Part} {f k h : Nat} {b : Booking} {fl fl' : Floor} {work : List WorkEntry}

theorem ClosingAt.slots (hc : ClosingAt s c f k h b fl fl' work) :
    c.slots = upd s.slots k (fun _ => some { b with state := .closing }) := congrArg Records.slots hc.records

theorem ClosingAt.contextAt (hc : ClosingAt s c f k h b fl fl' work) (hl : s.contexts.length = 4) (h1 : 1 ≤ f) (h4 : f ≤ 4) :
    c.contextAt f = some { booking := h, phase := .close, work := work } :=
  Part.contextAt_written (congrArg Records.contexts hc.records) hl h1 h4

theorem ClosingAt.slotAt (hc : ClosingAt s c f k h b fl fl' work) (hb : s.slotAt k = some b) :
    c.slotAt k = some { b with state := .closing } := by
  rw [Part.slotAt, hc.slots, nth_upd_same, s.slotAt_some k b hb]; rfl

theorem ClosingAt.slotAt_ne (hc : ClosingAt s c f k h b fl fl' work) (j : Nat) (hj : j ≠ k) : c.slotAt j = s.slotAt j := by
  rw [Part.slotAt, hc.slots, nth_upd_ne _ _ _ _ (Ne.symm hj)]; rfl

theorem ClosingAt.slotOf (hc : ClosingAt s c f k b.handle b fl fl' work) (hk : s.slotOf b.handle = some k)
    (hb : s.slotAt k = some b) : c.slotOf b.handle = some k :=
  Part.slotOf_written s c k b { b with state := .closing } hk hb rfl hc.slots

theorem ClosingAt.bookingOf (hc : ClosingAt s c f k b.handle b fl fl' work) (hk : s.slotOf b.handle = some k)
    (hb : s.slotAt k = some b) : c.bookingOf b.handle = some { b with state := .closing } := by
  rw [Part.bookingOf, hc.slotOf hk hb]
  exact hc.slotAt hb

theorem ClosingAt.floorAt (hc : ClosingAt s c f k h b fl fl' work) (hfl : nth s.floors f = some fl) : c.floorAt f = fl' :=
  Part.floorAt_written (congrArg Records.floors hc.records) hfl

theorem ClosingAt.queueAt (hc : ClosingAt s c f k h b fl fl' work) : (c.queueAt f).entries = [] :=
  Part.queueAt_emptied (congrArg Records.queues hc.records)

theorem ClosingAt.others (hc : ClosingAt s c f k h b fl fl' work) (g : Nat) (hg : g ≠ f) :
    c.floorAt g = s.floorAt g ∧ c.queueAt g = s.queueAt g ∧ c.contextAt g = s.contextAt g :=
  ⟨Part.floorAt_other (congrArg Records.floors hc.records) hg, Part.queueAt_other (congrArg Records.queues hc.records) hg,
    Part.contextAt_other (congrArg Records.contexts hc.records) hg⟩

theorem ClosingAt.state (hc : ClosingAt s c f k h b fl fl' work) : fl'.state = .closing ∧ fl'.suspended = false :=
  ⟨congrArg (fun fl => fl.state) hc.shell, congrArg (fun fl => fl.suspended) hc.shell⟩

end

/-! ### The request -/

theorem parseRetire_bytes (h : Nat) (keep : Bool) (hh : h < 65536) : parseRetire (bytes 2 h ++ flagByte keep) = some (h, keep) := by
  have hk : byte (if keep then 1 else 0) ++ [] = flagByte keep := by cases keep <;> rfl
  rw [← hk]
  cases keep <;> simp only [parseRetire, Option.bind_eq_bind, readNat_two h hh, Option.bind_some] <;>
    rw [readCode_byte _ _ (by decide)] <;> rfl

theorem exec_retireBooking (s : State) (h : Nat) (keep : Bool) (hh : h < 65536) :
    exec (.retireBooking (bytes 2 h ++ flagByte keep)) s = s.become (s.part.request 0x12 (some (h, keep)) retireOwner) := by
  rw [← parseRetire_bytes h keep hh]; rfl

/-- A held booking is retired by its state (R40). -/
theorem retireOwner_held (p : Part) (h : Nat) (keep : Bool) (b : Booking) (hb : p.bookingOf h = some b) :
    retireOwner (h, keep) p = p.retire b keep := by
  simp [retireOwner, hb]

theorem answersWith_retire (s : State) (h : Nat) (keep : Bool) (b : Booking) (r : Reply) (hr : s.runs) (hh : h < 65536)
    (hb : s.part.bookingOf h = some b) (hretire : s.part.retire b keep = r) (hst : r.status.taken = true) :
    AnswersWith (.retireBooking (bytes 2 h ++ flagByte keep)) s 0x12 r.status r.body r.part.records :=
  answersWith_of_taken _ s _ _ retireOwner r (exec_retireBooking s h keep hh) hr
    ((retireOwner_held s.part h keep b hb).trans hretire) hst

/-! ### A booking that stands outside every operation -/

theorem Part.freeBooking_records (p : Part) (h k : Nat) (hk : p.slotOf h = some k) :
    (p.freeBooking h).records = { p.records with slots := upd p.slots k (fun _ => none) } := by
  rw [p.freeBooking_eq h k hk]; rfl

/-- A PENDING, WAITING or ENDED booking that is not kept is freed (R40). -/
theorem Part.retire_freed (p : Part) (b : Booking) (h : b.state = .pending ∨ b.state = .waiting ∨ b.state = .ended) :
    p.retire b false = (p.freeBooking b.handle).done := by
  rcases h with h | h | h <;> simp [Part.retire, Part.retireIdle, h]

/-- A PENDING or WAITING booking that is kept is ENDED as ENDED_EARLY (R40). -/
theorem Part.retire_kept (p : Part) (b : Booking) (h : b.state = .pending ∨ b.state = .waiting) :
    p.retire b true = (p.updBooking b.handle (fun b => b.finish .endedEarly)).done := by
  rcases h with h | h <;> simp [Part.retire, Part.retireIdle, h]

theorem Part.retire_closing (p : Part) (b : Booking) (h : b.state = .closing) :
    p.retire b false = (p.updBooking b.handle (fun b => { b with retireOnCompletion := true })).accepted := by
  simp [Part.retire, h]

theorem Part.retire_over (p : Part) (b : Booking) (h : b.state = .closing ∨ b.state = .ended) : p.retire b true = p.done := by
  rcases h with h | h <;> simp [Part.retire, h]

/-! ### A booking that runs -/

/-- The booking that RETIRE_BOOKING closes out (R40). -/
def Booking.retiring (b : Booking) (keep : Bool) : Booking :=
  { b with pendingOutcome := some .endedEarly, retireOnCompletion := !keep }

/-- A READY or LIVE booking retired: close-out begins (R40, R56). -/
theorem Part.retire_running (p : Part) (b : Booking) (keep : Bool) (k : Nat) (h : b.state = .ready ∨ b.state = .live)
    (hk : p.slotOf b.handle = some k) (hb : p.slotAt k = some b) :
    p.retire b keep = ((p.written k (b.retiring keep)).runTasks [.closeOut b.handle]).accepted := by
  have hwritten := p.updBooking_eq b.handle k (fun b => b.retiring keep) b hk hb
  have hrunning : p.retire b keep = p.retireRunning b keep := by rcases h with h | h <;> simp [Part.retire, h]
  rw [hrunning, Part.retireRunning]
  exact congrArg (fun q : Part => (q.runTasks [.closeOut b.handle]).accepted) hwritten

theorem Part.written_slotAt (p : Part) (k : Nat) (b c : Booking) (hb : p.slotAt k = some b) : (p.written k c).slotAt k = some c := by
  rw [Part.slotAt, Part.written, nth_upd_same, p.slotAt_some k b hb]; rfl

theorem Part.written_slotAt_ne (p : Part) (k j : Nat) (c : Booking) (hj : j ≠ k) : (p.written k c).slotAt j = p.slotAt j := by
  rw [Part.slotAt, Part.written, nth_upd_ne _ _ _ _ (Ne.symm hj)]; rfl

/-- A close-out of a booking with microphones open waits for the closed seats (R56, R57). -/
theorem runs_closeOut_waits {s : Part} {f k : Nat} {b : Booking} {fl : Floor} (hk : s.slotOf b.handle = some k)
    (hb : s.slotAt k = some b) (hf : b.floor = some f) (hfl : nth s.floors f = some fl) (hcalm : s.calmBut f)
    (hl : s.contexts.length = 4) (h1 : 1 ≤ f) (h4 : f ≤ 4) (hopen : ∃ n ∈ fl.openSeats, 1 ≤ n ∧ n ≤ 96) :
    Runs 2 [.closeOut b.handle] s.Like (fun q => ∃ c fl' work, ClosingAt s c f k b.handle b fl fl' work ∧ c.Like q) := by
  refine runs_closeOut_from hk hb hf hfl hcalm fun c fl' work hc => ?_
  have hwait : settledWork work = false := by
    rw [← Bool.not_eq_true, hc.work.settled]
    obtain ⟨n, hn, hn1, hn96⟩ := hopen
    exact List.ne_nil_of_mem (List.mem_filter.2 ⟨List.mem_range'_1.2 ⟨hn1, by omega⟩, by simpa using hn⟩)
  exact (runs_advance_waits (hc.contextAt hl h1 h4) (hc.bookingOf hk hb) hwait).mono (fun _ h => h)
    fun q hq => ⟨c, fl', work, hc, hq⟩

/-- Seats with equal records and the same zone map are served alike. -/
theorem Part.servedSeats_of_seats {s c : Part} (hseats : c.records.seats = s.records.seats) (hsettings : c.settings = s.settings)
    (run : ZoneRun) : c.servedSeats run = s.servedSeats run := by
  have hin : ∀ n, c.seatIn run n = s.seatIn run n := fun n => by
    rw [Part.seatIn, Part.seatIn, Part.zoneOf, Part.zoneOf, hsettings]
  have hserve : ∀ n, c.inService n = s.inService n := fun n => by
    have hquiet := getD_of_map Seat.quiet _ _ startSeat (nth_of_map Seat.quiet _ _ hseats n)
    exact (congrArg (fun x : Seat => x.health.presence.inService) hquiet : _)
  simp only [Part.servedSeats_eq, hin, hserve]

section
variable {s c : Part} {f k : Nat} {b : Booking} {fl fl' : Floor} {work w : List WorkEntry}

theorem ClosingAt.settings (hc : ClosingAt s c f k b.handle b fl fl' work) : c.settings = s.settings :=
  congrArg Records.settings hc.records

theorem ClosingAt.calmBut (hc : ClosingAt s c f k b.handle b fl fl' work) (hcalm : s.calmBut f) : c.calmBut f := by
  have hpart : c.partitions = s.partitions := congrArg Records.partitions hc.records
  refine ⟨fun j => ?_, fun g hg => ?_⟩
  · rw [Part.wallOpen, Part.partitionAt, hpart]
    exact hcalm.1 j
  · rw [(hc.others g hg).1]
    exact hcalm.2 g hg

theorem ClosingAt.contextsLength (hc : ClosingAt s c f k b.handle b fl fl' work) (hl : s.contexts.length = 4) :
    c.contexts.length = 4 := by
  rw [show c.contexts = _ from congrArg Records.contexts hc.records]
  exact (length_upd _ _ _).trans hl

/-- The clear phase of a close-out that found no microphone open. -/
theorem ClosingAt.cleared_served (hc : ClosingAt s c f k b.handle b fl fl' work) (ho : fl.openList = []) (run : ZoneRun) :
    c.servedSeats run = s.servedSeats run :=
  Part.servedSeats_of_seats (hc.seats ho) hc.settings run

theorem ClosingAt.settled (hc : ClosingAt s c f k b.handle b fl fl' work) (ho : fl.openList = []) : settledWork work = true := by
  rw [hc.work.settled, Floor.openSeats, ho]
  rfl

/-- A close-out that finds no microphone open goes on to its clear phase at once (R56, R58). -/
theorem runs_closeOut_cleared {m : Nat} {Q : Part → Prop} (hk : s.slotOf b.handle = some k) (hb : s.slotAt k = some b)
    (hf : b.floor = some f) (hfl : nth s.floors f = some fl) (hcalm : s.calmBut f) (hl : s.contexts.length = 4) (h1 : 1 ≤ f)
    (h4 : f ≤ 4) (ho : fl.openList = [])
    (hrun : ∀ c fl' work w, ClosingAt s c f k b.handle b fl fl' work → freshWork (s.servedSeats b.zones) w →
      (c.inClear f { b with state := .closing } w).contextAt f =
        some { booking := b.handle, phase := .clear, work := w } →
      Runs m [.advance f] (c.inClear f { b with state := .closing } w).Like Q) :
    Runs (m + 2) [.closeOut b.handle] s.Like Q := by
  refine runs_closeOut_from hk hb hf hfl hcalm fun c fl' work hc => ?_
  refine runs_clear (hc.contextAt hl h1 h4) (hc.settled ho) (hc.bookingOf hk hb) fun w hw => ?_
  exact hrun c fl' work w hc ((hc.cleared_served ho b.zones) ▸ hw)
    (Part.contextAt_written (p := c) rfl (hc.contextsLength hl) h1 h4)

/-- With seats to serve, the clear phase waits (R58). -/
theorem runs_closeOut_clears (hk : s.slotOf b.handle = some k)
    (hb : s.slotAt k = some b) (hf : b.floor = some f) (hfl : nth s.floors f = some fl) (hcalm : s.calmBut f)
    (hl : s.contexts.length = 4) (h1 : 1 ≤ f) (h4 : f ≤ 4) (ho : fl.openList = []) (hserved : s.servedSeats b.zones ≠ []) :
    Runs 3 [.closeOut b.handle] s.Like (fun q => ∃ c fl' work w, ClosingAt s c f k b.handle b fl fl' work ∧
      freshWork (s.servedSeats b.zones) w ∧ (c.inClear f { b with state := .closing } w).Like q) := by
  refine runs_closeOut_cleared hk hb hf hfl hcalm hl h1 h4 ho fun c fl' work w hc hw hctx => ?_
  have hwait : settledWork w = false := by rw [← Bool.not_eq_true, hw.settled]; exact hserved
  exact (runs_advance_waits hctx ((Part.bookingOf_of_slots _ c rfl _).trans (hc.bookingOf hk hb)) hwait).mono (fun _ h => h)
    fun q hq => ⟨c, fl', work, w, hc, hw, hq⟩

/-- With no seat to serve, close-out is complete at once, here with no booking WAITING (R58, R59). -/
theorem runs_closeOut_releases (hk : s.slotOf b.handle = some k)
    (hb : s.slotAt k = some b) (hf : b.floor = some f) (hfl : nth s.floors f = some fl) (hcalm : s.calmBut f)
    (hl : s.contexts.length = 4) (h1 : 1 ≤ f) (h4 : f ≤ 4) (ho : fl.openList = []) (hserved : s.servedSeats b.zones = [])
    (hno : ∀ j c, j ≠ k → s.slotAt j = some c → c.state ≠ .waiting) :
    Runs 4 [.closeOut b.handle] s.Like (fun q => ∃ c fl' work w, ClosingAt s c f k b.handle b fl fl' work ∧
      ((c.inClear f { b with state := .closing } w).released f k ({ b with state := .closing } : Booking).gone).Like q) := by
  refine runs_closeOut_cleared hk hb hf hfl hcalm hl h1 h4 ho fun c fl' work w hc hw hctx => ?_
  have hslots := Part.slotAt_of_slots (c.inClear f { b with state := .closing } w) c rfl
  refine (runs_complete (b := { b with state := .closing }) hctx (hw.settled.2 hserved) rfl ((Part.slotOf_of_slots _ c rfl _).trans (hc.slotOf hk hb))
    ((hslots k).trans (hc.slotAt hb)) (c.calmBut_of_eq _ f rfl rfl (hc.calmBut hcalm)) fun j d hj hd => ?_).mono (fun _ h => h)
    fun q hq => ⟨c, fl', work, w, hc, hq⟩
  rw [hslots j, hc.slotAt_ne j hj] at hd
  exact hno j d hj hd

end

/-! ### What close-out leaves -/

/-- The records that no operation of the booking controller writes. -/
def Records.outside (r : Records) : Records := { r with seats := [], slots := [], floors := [], queues := [], contexts := [] }

theorem Records.eq_of_outside (r r' : Records) (h : r.outside = r'.outside) :
    r = { r' with seats := r.seats, slots := r.slots, floors := r.floors, queues := r.queues, contexts := r.contexts } :=
  congrArg (fun x : Records => { x with
    seats := r.seats, slots := r.slots, floors := r.floors, queues := r.queues, contexts := r.contexts }) h

section
variable {s c : Part} {f k : Nat} {b : Booking} {fl fl' : Floor} {work w : List WorkEntry}

theorem Part.released_floorAt (s : Part) (f k : Nat) (c : Option Booking) (fl : Floor) (hfl : nth s.floors f = some fl) :
    (s.released f k c).floorAt f = fl.freed := by
  rw [Part.floorAt, Part.released, nth_upd_same, hfl]; rfl

theorem Part.released_queueAt (s : Part) (f k : Nat) (c : Option Booking) : ((s.released f k c).queueAt f).entries = [] :=
  Part.queueAt_emptied (p := s) rfl

theorem Part.released_contextAt (s : Part) (f k : Nat) (c : Option Booking) (hl : s.contexts.length = 4) (h1 : 1 ≤ f) (h4 : f ≤ 4) :
    (s.released f k c).contextAt f = none :=
  Part.contextAt_written (p := s) rfl hl h1 h4

theorem Part.released_others (s : Part) (f k : Nat) (c : Option Booking) (g : Nat) (hg : g ≠ f) :
    (s.released f k c).floorAt g = s.floorAt g ∧ (s.released f k c).queueAt g = s.queueAt g ∧
      (s.released f k c).contextAt g = s.contextAt g :=
  ⟨Part.floorAt_other (p := s) rfl hg, Part.queueAt_other (p := s) rfl hg, Part.contextAt_other (p := s) rfl hg⟩

theorem Part.inClear_others (s : Part) (f : Nat) (b : Booking) (w : List WorkEntry) (g : Nat) (hg : g ≠ f) :
    (s.inClear f b w).floorAt g = s.floorAt g ∧ (s.inClear f b w).queueAt g = s.queueAt g ∧
      (s.inClear f b w).contextAt g = s.contextAt g :=
  ⟨rfl, rfl, Part.contextAt_other (p := s) rfl hg⟩

theorem ClosingAt.nthFloor (hc : ClosingAt s c f k b.handle b fl fl' work) (hfl : nth s.floors f = some fl) :
    nth c.floors f = some fl' := by
  rw [show c.floors = _ from congrArg Records.floors hc.records, nth_upd_same]
  exact congrArg (Option.map fun _ => fl') hfl

theorem ClosingAt.outside (hc : ClosingAt s c f k b.handle b fl fl' work) : c.records.outside = s.records.outside :=
  (congrArg Records.outside hc.records).trans rfl

/-- The seats after a clear phase that followed a close phase without a microphone. -/
theorem ClosingAt.cleared_seat (hc : ClosingAt s c f k b.handle b fl fl' work) (ho : fl.openList = []) (b' : Booking) (n : Nat)
    (x : Seat) (hx : nth s.seats n = some x) :
    ((c.inClear f b' w).seatAt n).quiet =
      (if s.seatIn b'.zones n then { x with occupant := none, role := .ordinary } else x).quiet := by
  obtain ⟨y, hy, hyx⟩ := Part.nth_seat_of_quiet (hc.seats ho) n x hx
  have hin : c.seatIn b'.zones n = s.seatIn b'.zones n := by
    rw [Part.seatIn, Part.seatIn, Part.zoneOf, Part.zoneOf, hc.settings]
  rw [Part.inClear_seat (Part.Like.rfl' (c.inClear f b' w)) n y hy, hin]
  split
  · exact congrArg (fun z : Seat => { z with occupant := none, role := .ordinary }) hyx
  · exact hyx

/-- What a close-out that found no microphone open leaves, whether it waits in its clear phase or is complete (R56, R58, R59);
`mark` is the idle mark. -/
structure SilentlyClosed (s : Part) (f k : Nat) (run : ZoneRun) (mark : Nat) (p : Part) : Prop where
  openList : (p.floorAt f).openList = []
  queue : (p.queueAt f).entries = []
  seats : ∀ n x, nth s.seats n = some x →
    (p.seatAt n).quiet = (if s.seatIn run n then { x with occupant := none, role := .ordinary } else x).quiet
  others : ∀ g, g ≠ f → p.floorAt g = s.floorAt g ∧ p.queueAt g = s.queueAt g ∧ p.contextAt g = s.contextAt g
  slots : ∀ j, j ≠ k → p.slotAt j = s.slotAt j
  outside : p.records.outside = ({ s.records with control := { s.control with idleMark := mark } } : Records).outside

theorem SilentlyClosed.like {p q : Part} {run : ZoneRun} {mark : Nat} (h : SilentlyClosed s f k run mark p) (hq : p.Like q) :
    SilentlyClosed s f k run mark q where
  openList := by rw [hq.floorAt, h.openList]
  queue := by rw [hq.queueAt, h.queue]
  seats n x hx := (hq.seatAt n).trans (h.seats n x hx)
  others g hg := by rw [hq.floorAt, hq.queueAt, hq.contextAt]; exact h.others g hg
  slots j hj := (hq.slotAt j).trans (h.slots j hj)
  outside := (congrArg Records.outside hq).trans h.outside

theorem ClosingAt.silentlyClosed (hc : ClosingAt s c f k b.handle b fl fl' work) (hfl : nth s.floors f = some fl)
    (ho : fl.openList = []) (b' : Booking) (hz : b'.zones = b.zones) :
    SilentlyClosed s f k b.zones s.control.idleMark (c.inClear f b' w) where
  openList := (congrArg Floor.openList (hc.floorAt hfl)).trans hc.openList
  queue := hc.queueAt
  seats n x hx := hz ▸ hc.cleared_seat ho b' n x hx
  others g hg := by
    obtain ⟨hfloor, hqueue, hcontext⟩ := c.inClear_others f b' w g hg
    rw [hfloor, hqueue, hcontext]
    exact hc.others g hg
  slots j hj := hc.slotAt_ne j hj
  outside := hc.outside

theorem SilentlyClosed.released {p : Part} {run : ZoneRun} {mark : Nat} (h : SilentlyClosed s f k run mark p) {fl : Floor}
    (hfl : nth p.floors f = some fl) (x : Option Booking) : SilentlyClosed s f k run s.now (p.released f k x) where
  openList := by rw [p.released_floorAt f k x fl hfl]; rfl
  queue := p.released_queueAt f k x
  seats := h.seats
  others g hg := by
    obtain ⟨hfloor, hqueue, hcontext⟩ := p.released_others f k x g hg
    rw [hfloor, hqueue, hcontext]
    exact h.others g hg
  slots j hj := (p.released_slotAt_ne f k j x hj).trans (h.slots j hj)
  outside := by
    have hnow : p.now = s.now := congrArg Records.now h.outside
    have hrec := congrArg (fun r : Records => { r with control := { r.control with idleMark := s.now } }) h.outside
    rw [← hnow] at hrec ⊢
    exact hrec

/-- The same, seen from the part in which the booking has not been written yet. -/
theorem SilentlyClosed.ofWritten {p : Part} {run : ZoneRun} {mark : Nat} {a : Booking}
    (h : SilentlyClosed (s.written k a) f k run mark p) : SilentlyClosed s f k run mark p where
  openList := h.openList
  queue := h.queue
  seats := h.seats
  others := h.others
  slots j hj := (h.slots j hj).trans (s.written_slotAt_ne k j a hj)
  outside := h.outside

end

/-! ### The statement -/

theorem Answers.retire_unheld (s : State) (h : Nat) (keep : Bool) (hr : s.runs) (hh : h < 65536) (hk : s.part.slotOf h = none) :
    Answers (.retireBooking (bytes 2 h ++ flagByte keep)) s 0x12 .noRecord [] := by
  refine answers_of_refused _ s _ _ retireOwner .noRecord (exec_retireBooking s h keep hh) hr ?_ rfl
  simp [retireOwner, Part.bookingOf, hk]

section
variable {s : State} {h k f : Nat} {b : Booking} {fl : Floor} {keep : Bool}

/-- RETIRE_BOOKING of a booking outside every operation, or of one in close-out (R40). -/
theorem retire_resting (s : State) (h k : Nat) (b : Booking) (hr : s.runs) (hh : h < 65536) (hk : s.part.slotOf h = some k)
    (hb : s.part.slotAt k = some b) :
    (b.state = .pending ∨ b.state = .waiting ∨ b.state = .ended →
      AnswersWith (.retireBooking (bytes 2 h ++ [0])) s 0x12 .done []
        { s.part.records with slots := upd s.part.slots k (fun _ => none) }) ∧
    (b.state = .pending ∨ b.state = .waiting →
      AnswersWith (.retireBooking (bytes 2 h ++ [1])) s 0x12 .done []
        { s.part.records with slots := upd s.part.slots k (fun _ => some (b.finish .endedEarly)) }) ∧
    (b.state = .closing →
      AnswersWith (.retireBooking (bytes 2 h ++ [0])) s 0x12 .accepted []
        { s.part.records with slots := upd s.part.slots k (fun _ => some { b with retireOnCompletion := true }) }) ∧
    (b.state = .closing ∨ b.state = .ended →
      AnswersWith (.retireBooking (bytes 2 h ++ [1])) s 0x12 .done [] s.part.records) := by
  have hbook : s.part.bookingOf h = some b := by rw [Part.bookingOf, hk]; exact hb
  have hkb : s.part.slotOf b.handle = some k := by rw [s.part.bookingOf_handle h b hbook]; exact hk
  have hwrite := fun g => s.part.updBooking_records b.handle k g b hkb hb
  refine ⟨fun hs => ?_, fun hs => ?_, fun hs => ?_, fun hs => ?_⟩
  · exact answersWith_congr (answersWith_retire s h false b _ hr hh hbook (s.part.retire_freed b hs) rfl)
      (s.part.freeBooking_records b.handle k hkb)
  · exact answersWith_congr (answersWith_retire s h true b _ hr hh hbook (s.part.retire_kept b hs) rfl) (hwrite _)
  · exact answersWith_congr (answersWith_retire s h false b _ hr hh hbook (s.part.retire_closing b hs) rfl) (hwrite _)
  · exact answersWith_retire s h true b _ hr hh hbook (s.part.retire_over b hs) rfl

/-- RETIRE_BOOKING of a READY or LIVE booking: what the tasks that it starts leave. -/
theorem retire_running_replies {n : Nat} {Q : Part → Prop} (hr : s.runs) (hh : h < 65536) (hk : s.part.slotOf h = some k)
    (hb : s.part.slotAt k = some b) (hst : b.state = .ready ∨ b.state = .live)
    (hrun : Runs n [.closeOut b.handle] (s.part.written k (b.retiring keep)).Like Q) (hn : n ≤ taskFuel)
    (hQ : ∀ p q, Q p → p.Like q → Q q) :
    ∃ p, Replies (.retireBooking (bytes 2 h ++ flagByte keep)) s 0x12 .accepted [] p ∧ Q p := by
  have hbook : s.part.bookingOf h = some b := by rw [Part.bookingOf, hk]; exact hb
  have hkb : s.part.slotOf b.handle = some k := by rw [s.part.bookingOf_handle h b hbook]; exact hk
  obtain ⟨p, hexec, hanswer, hrecords⟩ :=
    answersWith_retire s h keep b _ hr hh hbook (s.part.retire_running b keep k hst hkb hb) rfl
  exact ⟨p, ⟨hexec, hanswer⟩, hQ _ p (hrun.runTasks hn _ rfl) hrecords⟩

end

/-- Settles O21: the bookings outside every operation are written at once; a close-out is followed task by task to where it
waits or completes. -/
theorem retireBookingByState : Obligations.RetireBookingByState := by
  refine ⟨fun s h hr hh => ⟨fun keep hk => Answers.retire_unheld s h keep hr hh hk, fun k b hk hb =>
    retire_resting s h k b hr hh hk hb⟩, ?microphones, ?silent⟩
  case microphones =>
    intro s h k f b fl keep hr hh hk hb hst hf hfl hl h1 h4 hwalls hothers hopen
    have hhandle : b.handle = h := s.part.bookingOf_handle h b (by rw [Part.bookingOf, hk]; exact hb)
    subst hhandle
    have hrun := runs_closeOut_waits (s := s.part.written k (b.retiring keep)) (b := b.retiring keep)
      (s.part.slotOf_written _ k b (b.retiring keep) hk hb rfl rfl) (s.part.written_slotAt k b _ hb) hf hfl ⟨hwalls, hothers⟩ hl h1 h4 hopen
    obtain ⟨p, ⟨hexec, hanswer⟩, c, fl', work, hc, hp⟩ := retire_running_replies (keep := keep) hr hh hk hb hst hrun (by decide)
      fun p q ⟨c, fl', work, hc, hp⟩ hq => ⟨c, fl', work, hc, hq.trans hp⟩
    have hrec := hp.trans hc.records
    have hctx := (hp.contextAt f).trans (hc.contextAt hl h1 h4)
    have hfloor := (hp.floorAt f).trans (hc.floorAt hfl)
    refine ⟨p, hexec, hanswer, by rw [hfloor, hc.state.1], by rw [hfloor, hc.state.2], by rw [hfloor, hc.openList],
      by rw [hp.queueAt, hc.queueAt], (hp.slotAt k).trans (hc.slotAt (s.part.written_slotAt k b _ hb)), fun x hx => ?_,
      by rw [hctx]; rfl, fun n x hx hn => ?_, fun g hg => ?_, fun j hj => ?_, congrArg Records.clock hrec,
      congrArg Records.settings hrec, congrArg Records.store hrec, congrArg Records.partitions hrec, congrArg Records.now hrec,
      congrArg Records.ambient hrec, congrArg Records.control hrec⟩
    · rw [hctx] at hx
      cases hx
      exact ⟨rfl, rfl, hc.work.seats⟩
    · obtain ⟨y, hy, hguard⟩ := hc.guard n x hx
      rw [if_pos hn] at hguard
      have hquiet := (hp.seatAt n).trans (congrArg Seat.quiet (c.seatAt_of_nth n y hy))
      exact (congrArg Seat.guardUntil hquiet).trans hguard
    · rw [hp.floorAt, hp.queueAt, hp.contextAt]
      exact hc.others g hg
    · exact (hp.slotAt j).trans ((hc.slotAt_ne j hj).trans (s.part.written_slotAt_ne k j _ hj))
  case silent =>
    intro s h k f b fl keep served hr hh hk hb hst hf hfl ho hl h1 h4 hcalm hserved hno
    have hhandle : b.handle = h := s.part.bookingOf_handle h b (by rw [Part.bookingOf, hk]; exact hb)
    subst hhandle
    have hk' := s.part.slotOf_written (s.part.written k (b.retiring keep)) k b (b.retiring keep) hk hb rfl rfl
    have hb' := s.part.written_slotAt k b (b.retiring keep) hb
    have hcalm' : (s.part.written k (b.retiring keep)).calmBut f := s.part.calmBut_of_calm f hcalm
    have hserved' : (s.part.written k (b.retiring keep)).servedSeats (b.retiring keep).zones = served := by
      rw [hserved, Part.servedSeats_eq]; rfl
    by_cases hempty : served = []
    · have hrun := runs_closeOut_releases (b := b.retiring keep) hk' hb' hf hfl hcalm' hl h1 h4 ho (hserved'.trans hempty)
        fun j c hj hc => hno hempty j c ((s.part.written_slotAt_ne k j _ hj).symm.trans hc)
      obtain ⟨p, hreplies, c, fl', work, w, hc, hp⟩ := retire_running_replies (keep := keep) hr hh hk hb hst hrun (by decide)
        fun p q ⟨c, fl', work, w, hc, hp⟩ hq => ⟨c, fl', work, w, hc, hq.trans hp⟩
      have hnth := hc.nthFloor hfl
      have hend := (((hc.silentlyClosed hfl ho _ rfl).released hnth _).like hp).ofWritten
      refine ⟨p, hreplies, hend.openList, hend.queue, hend.seats, hend.others, hend.slots, ?_, ?_⟩
      · rw [if_pos hempty]; exact Records.eq_of_outside _ _ hend.outside
      · rw [if_pos hempty]
        have hfloor := (hp.floorAt f).trans (Part.released_floorAt _ f k _ fl' hnth)
        refine ⟨?_, by rw [hfloor]; rfl, by rw [hfloor]; rfl, by rw [hfloor]; rfl, by rw [hfloor]; rfl, ?_⟩
        · refine (hp.slotAt k).trans ((Part.released_slotAt _ f k _ { b.retiring keep with state := .closing } ?_).trans ?_)
          · exact hc.slotAt hb'
          · cases keep <;> rfl
        · refine (hp.contextAt f).trans (Part.released_contextAt _ f k _ ?_ h1 h4)
          exact (length_upd _ _ _).trans (hc.contextsLength hl)
    · have hrun := runs_closeOut_clears (b := b.retiring keep) hk' hb' hf hfl hcalm' hl h1 h4 ho (fun h => hempty (hserved'.symm.trans h))
      obtain ⟨p, hreplies, c, fl', work, w, hc, hw, hp⟩ := retire_running_replies (keep := keep) hr hh hk hb hst hrun (by decide)
        fun p q ⟨c, fl', work, w, hc, hw, hp⟩ hq => ⟨c, fl', work, w, hc, hw, hq.trans hp⟩
      have hend := ((hc.silentlyClosed hfl ho _ rfl).like hp).ofWritten
      refine ⟨p, hreplies, hend.openList, hend.queue, hend.seats, hend.others, hend.slots, ?_, ?_⟩
      · rw [if_neg hempty]; exact Records.eq_of_outside _ _ hend.outside
      · rw [if_neg hempty]
        have hfloor := (hp.floorAt f).trans (hc.floorAt hfl)
        have hcontext := (hp.contextAt f).trans (Part.contextAt_written (p := c) rfl (hc.contextsLength hl) h1 h4)
        exact ⟨(hp.slotAt k).trans (hc.slotAt hb'), by rw [hfloor, hc.state.1], _, hcontext, rfl, rfl, hserved' ▸ hw⟩

end Sys2Proof.Machine
end

section
/-! A GOOD POLL of a PRESENT seat, step by step: score, operation, image, badge, presses and level (R86). -/

namespace Sys2Proof.Machine

/-! ### The records with one seat written -/

/-- The records in which seat `n` is `y`. -/
def Records.seat (r : Records) (n : Nat) (y : Seat) : Records := { r with seats := upd r.seats n (fun _ => y.quiet) }

theorem Records.seat_congr (r : Records) (n : Nat) {y z : Seat} (h : y.quiet = z.quiet) : r.seat n y = r.seat n z := by
  rw [Records.seat, h]; rfl

theorem upd_of_none {α : Type} (l : List α) (n : Nat) (g : α → α) (h : nth l n = none) : upd l n g = l := by
  cases n with
  | zero => rfl
  | succ k =>
    simp only [nth, List.getElem?_eq_none_iff] at h
    exact List.modify_eq_self h

theorem map_upd_const {α β : Type} (g : α → β) (l : List α) (n : Nat) (a : α) :
    (upd l n (fun _ => a)).map g = upd (l.map g) n (fun _ => g a) := by
  cases n with
  | zero => rfl
  | succ k =>
    apply List.ext_getElem?
    intro m
    by_cases hk : k = m
    · subst hk; simp [upd, Function.comp_def]
    · simp [upd, hk]

theorem State.withSeat_eq (s : State) (n : Nat) (y : Seat) : s.withSeat n y = s.part.records.seat n y := by
  rw [State.withSeat, map_upd_const]; rfl

theorem Part.updSeat_records (p : Part) (n : Nat) (g : Seat → Seat) (x : Seat) (hx : nth p.seats n = some x) :
    (p.updSeat n g).records = p.records.seat n (g x) := by
  rw [p.updSeat_eq n g x hx]
  exact congrArg (fun seats => ({ p.records with seats := seats } : Records)) (map_upd_const Seat.quiet p.seats n (g x))

section
variable {p : Part} {r : Records} {n : Nat} {y : Seat}

/-- The seat in a part whose records are `r` with that seat as `y`. -/
theorem Records.nth_seat (h : p.records = r.seat n y) (x : Seat) (hn : nth r.seats n = some x) :
    ∃ z, nth p.seats n = some z ∧ z.quiet = y.quiet := by
  have hmap : nth (p.seats.map Seat.quiet) n = some y.quiet := by
    rw [show p.seats.map Seat.quiet = _ from congrArg Records.seats h, Records.seat, nth_upd_same, hn]; rfl
  cases n with
  | zero => cases hmap
  | succ k =>
    rw [nth, List.getElem?_map] at hmap
    exact Option.map_eq_some_iff.1 hmap

theorem Records.seatAt_seat (h : p.records = r.seat n y) (x : Seat) (hn : nth r.seats n = some x) : (p.seatAt n).quiet = y.quiet := by
  obtain ⟨z, hz, hzy⟩ := Records.nth_seat h x hn
  rw [p.seatAt_of_nth n z hz, hzy]

theorem Records.seat_seat (r : Records) (n : Nat) (y z : Seat) : (r.seat n y).seat n z = r.seat n z := by
  simp [Records.seat, upd_upd]

/-- The seat written once more. -/
theorem Records.updSeat_seat (g : Seat → Seat) {y' : Seat} (h : p.records = r.seat n y) (x : Seat) (hn : nth r.seats n = some x)
    (hg : ∀ z : Seat, z.quiet = y.quiet → (g z).quiet = y'.quiet) : (p.updSeat n g).records = r.seat n y' := by
  obtain ⟨z, hz, hzy⟩ := Records.nth_seat h x hn
  rw [p.updSeat_records n g z hz, h, Records.seat_seat, Records.seat_congr r n (hg z hzy)]

end

/-- A reading of a seat that does not look at `mic_confirmed`. -/
theorem Seat.of_quiet {α : Type} (φ : Seat → α) (hφ : ∀ s, φ s.quiet = φ s) {a z : Seat} (h : a.quiet = z.quiet) : φ a = φ z := by
  rw [← hφ a, h, hφ z]

/-! ### The line's end -/

theorem exec_pollAnswer (seg : Segment) (rx : Reception) (up : Uplink) (s : State) :
    exec (.pollAnswer seg rx up) s = s.become (s.part.pollAnswered seg rx up) := rfl

/-- The part in which a GOOD POLL's owner begins. -/
def State.scored (s : State) (seg : Segment) (n : Nat) : Part := (s.part.lineEnds seg .good).scoreSeat n true

/-- The part after the operation has taken a GOOD POLL's outcome (R86 step 2). -/
def State.worked (s : State) (seg : Segment) (n : Nat) (up : Uplink) : Part :=
  (s.scored seg n).workOutcome n true (decide (up.echo = .closed))

/-- A PRESENT seat after the score step of a GOOD POLL (R69). -/
def Seat.scored (x : Seat) : Seat := { x with health := x.health.score true }

/-- What a GOOD POLL that brings no new badge writes at its seat after the score step (R68, R78). -/
def Seat.carriedOn (img : Image) (x : Seat) : Seat :=
  { x with flashDue := x.flashDue && decide (img.lamp ≠ .refusedFlash), badgeCandidate := none, badgeRepeat := 0 }

theorem Seat.afterPoll_eq (img : Image) (x : Seat) : x.afterPoll img = x.scored.carriedOn img := rfl

theorem State.scored_records (s : State) (seg : Segment) (n : Nat) (x : Seat) (hx : nth s.part.seats n = some x) :
    (s.scored seg n).records = s.part.records.seat n x.scored := by
  rw [State.scored, Part.scoreSeat, Part.updSeat_records _ n _ x (by rw [Part.lineEnds_seats]; exact hx), Part.lineEnds_records]
  rfl

/-- The presence of a PRESENT seat stays at a GOOD POLL (R71). -/
theorem Part.moveSeat_present (p : Part) (n : Nat) (z : Seat) (hz : nth p.seats n = some z) (hp : z.health.presence = .present) :
    p.moveSeat n true = p := by
  have hsame : p.updSeat n (fun s => { s with health := s.health.move true p.settings.presenceSettle }) = p := by
    rw [p.updSeat_eq n _ z hz]
    have hmove : z.health.move true p.settings.presenceSettle = z.health := by simp [Health.move, hp]
    rw [hmove, upd_self p.seats n z hz]
  rw [Part.moveSeat, hsame, Part.presenceMoved, p.seatAt_of_nth n z hz, hp]
  rfl

section
variable {s : State} {seg : Segment} {n : Nat} {img : Image} {rx : Reception} {up : Uplink} {x : Seat}

theorem State.goodPoll.present (h : s.goodPoll seg n img rx up) (hx : nth s.part.seats n = some x) : x.health.presence = .present := by
  obtain ⟨-, -, hp, -⟩ := h
  rwa [s.part.seatAt_of_nth n x hx] at hp

theorem State.goodPoll.runs (h : s.goodPoll seg n img rx up) : s.runs := h.1

/-- A GOOD POLL reaches its seat (R152, R153). -/
theorem State.goodPoll.answered (h : s.goodPoll seg n img rx up) (hx : nth s.part.seats n = some x) :
    s.part.pollAnswered seg rx up = s.part.pollGood (s.part.lineEnds seg .good) n img up := by
  have hp := h.present hx
  obtain ⟨hr, ⟨pos, hline, rfl, hpos⟩, -, hcomplete, hcheck, hkind, -⟩ := h
  have hgood : outcomeOf rx (decide (up.position = pos)) = .good :=
    (outcomeOf_good rx _).2 (by simp [hcomplete, hcheck, hkind, hpos])
  have hpolled : ((s.part.lineEnds seg .good).seatAt (seatOn seg pos)).health.presence.polled = true := by
    rw [Part.lineEnds_seatAt, s.part.seatAt_of_nth _ x hx, hp]; rfl
  rw [Part.pollAnswered, s.part.lineOf_of seg _ hr hline]
  simp only [Part.pollReport, Bool.false_eq_true, if_false, hgood, Part.pollEnd, hpolled, if_true]

/-- What is left of a GOOD POLL once the operation has taken its outcome: the part `moved` in which its steps 4 to 7 begin. -/
theorem State.goodPoll.ends (h : s.goodPoll seg n img rx up) (hx : nth s.part.seats n = some x) (z : Seat)
    (hz : nth (s.worked seg n up).seats n = some z) (hp : z.health.presence = .present) :
    ∃ q moved : Part, Ends (.pollAnswer seg rx up) s q ∧ moved.records = (s.worked seg n up).records ∧
      q.records = (moved.pollTakes n img up).records := by
  have hmoves : (s.part.lineEnds seg .good).pollMoves n true (decide (up.echo = .closed)) = s.worked seg n up := by
    rw [Part.pollMoves]
    exact Part.moveSeat_present _ n z hz hp
  have hend : s.part.pollAnswered seg rx up =
      s.part.noteChanges ((s.part.follow (s.worked seg n up)).settle ((s.part.follow (s.worked seg n up)).pollTakes n img up)) := by
    rw [h.answered hx, Part.pollGood, hmoves]
  have hanswer : (s.part.pollAnswered seg rx up).answer = s.part.answer := by
    have hpolled : ((s.part.lineEnds seg .good).seatAt n).health.presence.polled = true := by
      rw [Part.lineEnds_seatAt, s.part.seatAt_of_nth _ x hx, h.present hx]; rfl
    have hbase := congrArg Base.answer (s.part.pollEnd_base (s.part.lineEnds seg .good) n img .good up hpolled)
    rw [Part.pollEnd, if_pos hpolled, if_pos rfl, ← h.answered hx] at hbase
    exact hbase.trans (s.part.lineEnds_answer seg .good)
  refine ⟨_, s.part.follow (s.worked seg n up), ⟨exec_pollAnswer seg rx up s, hanswer⟩, Part.follow_records _ _, ?_⟩
  rw [hend, Part.noteChanges_records, Part.settle_records]

/-- Writing at a seat what `admitted` does not read. -/
theorem Part.admitted_updSeat (p : Part) (n : Nat) (g : Seat → Seat) (z : Seat) (hz : nth p.seats n = some z)
    (hhealth : (g z).health = z.health) (hbadge : (g z).badge = z.badge) : (p.updSeat n g).admitted n = p.admitted n := by
  have hat := p.seatAt_updSeat_same n g z hz
  have hat' := p.seatAt_of_nth n z hz
  exact p.admitted_congr _ n rfl rfl (fun _ => rfl) (by rw [hat, hat', hhealth]) (by rw [hat, hat', hbadge])

/-- The badge reading of a POLL is the one the record holds. -/
def Seat.reads (z : Seat) (reading : Tag) : Prop := z.badge = some reading ∧ reading ≠ 0 ∨ z.badge = none ∧ reading = 0

theorem Seat.readBadge_same (need : Nat) (reading : Tag) (z : Seat) (h : z.reads reading) :
    z.readBadge need reading = { z with badgeCandidate := none, badgeRepeat := 0 } := by
  rcases h with ⟨hb, h0⟩ | ⟨hb, h0⟩
  · rw [Seat.readBadge, if_neg h0, if_pos hb]
  · rw [Seat.readBadge, if_pos h0, ← hb]

theorem Part.takeBadge_same (p : Part) (n : Nat) (reading : Tag) (z : Seat) (hz : nth p.seats n = some z) (h : z.reads reading) :
    p.takeBadge n reading = p.updSeat n (fun z => { z with badgeCandidate := none, badgeRepeat := 0 }) := by
  have hread : p.updSeat n (Seat.readBadge p.settings.badgeSettle reading) =
      p.updSeat n (fun z => { z with badgeCandidate := none, badgeRepeat := 0 }) := by
    rw [p.updSeat_eq n _ z hz, p.updSeat_eq n _ z hz, z.readBadge_same _ reading h]
  rw [Part.takeBadge, hread, Part.reportAdmission,
    p.admitted_updSeat n (fun z => { z with badgeCandidate := none, badgeRepeat := 0 }) z hz rfl rfl]
  cases Part.floorOf _ n with
  | none => rfl
  | some f => cases p.admitted n <;> rfl

/-- The image and the badge of a GOOD POLL taken: steps 4 and 5 of R86. -/
def Part.pollRead (p : Part) (n : Nat) (img : Image) (up : Uplink) : Part :=
  (p.follow (p.updSeat n (Seat.carried img up.echo))).takeBadge n up.badge

theorem Part.pollTakes_eq (p : Part) (n : Nat) (img : Image) (up : Uplink) :
    p.pollTakes n img up = ((p.pollRead n img up).takeEvents n up).takeLevel n up.priorityUp := rfl

/-- A reading that brings no new badge. -/
theorem Part.pollRead_records (p : Part) (n : Nat) (img : Image) (up : Uplink) (r : Records) (z y : Seat)
    (hp : p.records = r.seat n z) (hn : nth r.seats n = some y) (h : z.reads up.badge) :
    (p.pollRead n img up).records = r.seat n (z.carriedOn img) := by
  have hcarried : (p.follow (p.updSeat n (Seat.carried img up.echo))).records =
      r.seat n { z with flashDue := z.flashDue && decide (img.lamp ≠ .refusedFlash) } := by
    rw [Part.follow_records]
    exact Records.updSeat_seat _ hp y hn fun a ha =>
      Seat.of_quiet (fun s => (s.carried img up.echo).quiet) (fun _ => rfl) ha
  obtain ⟨a, ha, haz⟩ := Records.nth_seat hcarried y hn
  have hbadge : a.badge = z.badge := (Seat.of_quiet Seat.badge (fun _ => rfl) haz).trans rfl
  have hreads : a.reads up.badge := by rw [Seat.reads, hbadge]; exact h
  rw [Part.pollRead, Part.takeBadge_same _ n up.badge a ha hreads]
  exact Records.updSeat_seat _ hcarried y hn fun b hb =>
    Seat.of_quiet (fun s => ({ s with badgeCandidate := none, badgeRepeat := 0 } : Seat).quiet) (fun _ => rfl) hb

theorem Part.takeEvent_old (p : Part) (n : Nat) (b : Button) (ev : Option PressEvent)
    (h : ∀ e, ev = some e → (p.seatAt n).takenTags.get b = some e.tag) : p.takeEvent n b ev = p := by
  cases ev with
  | none => rfl
  | some e => rw [Part.takeEvent, if_pos (h e rfl)]

theorem Part.takeLevel_same (p : Part) (n : Nat) (level : Bool) (h : (p.seatAt n).priorityUp = level) : p.takeLevel n level = p := by
  unfold Part.takeLevel
  rw [h]
  cases level <;> rfl

/-- An uplink without presses and edges takes nothing more (R81, R85). -/
theorem Part.takes_silent (p : Part) (n : Nat) (up : Uplink) (h : uplinkSilent up (p.seatAt n)) :
    (p.takeEvents n up).takeLevel n up.priorityUp = p := by
  obtain ⟨hspeak, hnext, hcancel, hlevel⟩ := h
  rw [Part.takeEvents, p.takeEvent_old n .speak _ hspeak, p.takeEvent_old n .next _ hnext, p.takeEvent_old n .cancelAll _ hcancel,
    p.takeLevel_same n _ hlevel]

/-- What a step of the operation leaves of the polled seat for the later steps of R86. -/
structure Seat.keepsPolled (x z : Seat) : Prop where
  present : z.health.presence = x.health.presence
  badge : z.badge = x.badge
  tags : z.takenTags = x.takenTags
  level : z.priorityUp = x.priorityUp

theorem uplinkSilent_congr {up : Uplink} {x z : Seat} (h : uplinkSilent up x) (htags : z.takenTags = x.takenTags)
    (hlevel : z.priorityUp = x.priorityUp) : uplinkSilent up z := by
  rw [uplinkSilent, htags, hlevel]; exact h

theorem State.goodPoll.reads (h : s.goodPoll seg n img rx up) (hx : nth s.part.seats n = some x) : x.reads up.badge := by
  obtain ⟨-, -, -, -, -, -, hbadge⟩ := h
  rw [s.part.seatAt_of_nth n x hx] at hbadge
  exact hbadge

/-- A GOOD POLL that brings nothing new: after the operation, the seat alone is written (R86). -/
theorem State.goodPoll.silent (h : s.goodPoll seg n img rx up) (hx : nth s.part.seats n = some x) (hup : uplinkSilent up x)
    (r : Records) (y z : Seat) (hn : nth r.seats n = some y) (hr : (s.worked seg n up).records = r.seat n z)
    (hz : x.keepsPolled z) : ∃ q : Part, Ends (.pollAnswer seg rx up) s q ∧ q.records = r.seat n (z.carriedOn img) := by
  obtain ⟨a, ha, haz⟩ := Records.nth_seat hr y hn
  have hpresent : a.health.presence = .present :=
    (Seat.of_quiet (fun s => s.health.presence) (fun _ => rfl) haz).trans (hz.present.trans (h.present hx))
  obtain ⟨q, moved, hends, hmoved, hq⟩ := h.ends hx a ha hpresent
  refine ⟨q, hends, ?_⟩
  have hreads : z.reads up.badge := by rw [Seat.reads, hz.badge]; exact h.reads hx
  have hread := moved.pollRead_records n img up r z y (hmoved.trans hr) hn hreads
  have hseat := Records.seatAt_seat hread y hn
  rw [hq, Part.pollTakes_eq, Part.takes_silent _ n up, hread]
  refine uplinkSilent_congr hup (Eq.trans ?_ hz.tags) (Eq.trans ?_ hz.level)
  · exact (Seat.of_quiet Seat.takenTags (fun _ => rfl) hseat).trans rfl
  · exact (Seat.of_quiet Seat.priorityUp (fun _ => rfl) hseat).trans rfl

end

end Sys2Proof.Machine
end

section
/-! One rule per floor operation: what an opening, a close, a join and a grant make of the floor and its queue. -/

namespace Sys2Proof.Machine

/-! ### What an opening reads besides the open lists -/

/-- The two parts agree on what decides whether a seat may open and how (R79, R90): units, badges, roles, bookings, zones, and the
floors but for their holds and open lists. -/
structure Part.SameDoors (p q : Part) : Prop where
  settings : q.settings = p.settings
  slots : q.slots = p.slots
  shell : ∀ g, (q.floorAt g).shell = (p.floorAt g).shell
  presence : ∀ n, (q.seatAt n).health.presence = (p.seatAt n).health.presence
  badge : ∀ n, (q.seatAt n).badge = (p.seatAt n).badge
  role : ∀ n, (q.seatAt n).role = (p.seatAt n).role

section
variable {p q r : Part}

theorem Part.SameDoors.rfl' (p : Part) : p.SameDoors p :=
  ⟨rfl, rfl, fun _ => rfl, fun _ => rfl, fun _ => rfl, fun _ => rfl⟩

theorem Part.SameDoors.trans (h : p.SameDoors q) (h' : q.SameDoors r) : p.SameDoors r :=
  ⟨h'.settings.trans h.settings, h'.slots.trans h.slots, fun g => (h'.shell g).trans (h.shell g),
    fun n => (h'.presence n).trans (h.presence n), fun n => (h'.badge n).trans (h.badge n), fun n => (h'.role n).trans (h.role n)⟩

theorem Part.SameDoors.inService (h : p.SameDoors q) (n : Nat) : q.inService n = p.inService n := by
  rw [Part.inService, Part.inService, h.presence]

theorem Part.SameDoors.admitted (h : p.SameDoors q) (n : Nat) : q.admitted n = p.admitted n :=
  p.admitted_congr q n h.settings h.slots h.shell (h.presence n) (h.badge n)

theorem Part.SameDoors.isPrivate (h : p.SameDoors q) (f : Nat) : q.isPrivate f = p.isPrivate f := by
  have hbooking : (q.floorAt f).booking = (p.floorAt f).booking := congrArg (fun fl => fl.booking) (h.shell f)
  rw [Part.isPrivate, Part.isPrivate, Part.served, Part.served, hbooking]
  exact congrArg (fun o : Option Booking => (o.map fun b => decide (b.confidentiality = .privateMeeting)).getD false)
    (congrArg _ (funext fun k => Part.bookingOf_of_slots q p h.slots k))

theorem Part.SameDoors.floorOf (h : p.SameDoors q) (n : Nat) : q.floorOf n = p.floorOf n := by
  rw [Part.floorOf, Part.floorOf, Part.zoneOf, Part.zoneOf, h.settings]
  refine congrArg _ (funext fun z => ?_)
  rw [Part.floorOfZone, Part.floorOfZone]
  exact congrArg (fun k => floorNumbers.find? k) (funext fun g => congrArg (fun fl => fl.holds z) (h.shell g))

theorem Part.SameDoors.mayOpen (h : p.SameDoors q) (f n : Nat) (hserve : p.inService n = true) (hclosed : ∀ g, q.openEntry g n = none)
    (hin : p.isPrivate f = false ∨ p.admitted n = true) : q.mayOpen f n = true :=
  Part.mayOpen_of q f n ((h.inService n).trans hserve) hclosed (by rw [h.isPrivate, h.admitted]; exact hin)

/-- A write at a floor that keeps all but its holds and open list. -/
theorem Part.SameDoors.updFloor (h : p.SameDoors q) (f : Nat) (g : Floor → Floor) (hg : ∀ fl, (g fl).shell = fl.shell) :
    p.SameDoors (q.updFloor f g) where
  settings := h.settings
  slots := h.slots
  shell k := by
    refine Eq.trans ?_ (h.shell k)
    by_cases hk : k = f
    · subst hk
      rw [Part.floorAt, Part.floorAt, Part.updFloor, nth_upd_same]
      cases nth q.floors k with
      | none => rfl
      | some fl => exact hg fl
    · rw [q.floorAt_updFloor_ne f k g (Ne.symm hk)]
  presence := h.presence
  badge := h.badge
  role := h.role

theorem Part.SameDoors.updQueue (h : p.SameDoors q) (f : Nat) (g : Queue → Queue) : p.SameDoors (q.updQueue f g) :=
  ⟨h.settings, h.slots, h.shell, h.presence, h.badge, h.role⟩

/-- A write at a seat that keeps its unit's presence, its badge and its role. -/
theorem Part.SameDoors.updSeat (h : p.SameDoors q) (n : Nat) (g : Seat → Seat)
    (hpresence : ∀ x, (g x).health.presence = x.health.presence) (hbadge : ∀ x, (g x).badge = x.badge)
    (hrole : ∀ x, (g x).role = x.role) : p.SameDoors (q.updSeat n g) := by
  have keep : ∀ {α : Type} (φ : Seat → α), (∀ x, φ (g x) = φ x) → ∀ m, φ ((q.updSeat n g).seatAt m) = φ (q.seatAt m) := by
    intro α φ hφ m
    by_cases hm : m = n
    · subst hm
      rw [Part.seatAt, Part.seatAt, Part.updSeat, nth_upd_same]
      cases nth q.seats m with
      | none => rfl
      | some x => exact hφ x
    · rw [q.seatAt_updSeat_ne n m g (Ne.symm hm)]
  exact ⟨h.settings, h.slots, h.shell, fun m => (keep (fun x => x.health.presence) hpresence m).trans (h.presence m),
    fun m => (keep Seat.badge hbadge m).trans (h.badge m), fun m => (keep Seat.role hrole m).trans (h.role m)⟩

theorem Part.SameDoors.dropEntry (h : p.SameDoors q) (f n : Nat) : p.SameDoors (q.dropEntry f n) := h.updFloor f _ fun _ => rfl
theorem Part.SameDoors.leaveQueue (h : p.SameDoors q) (f n : Nat) : p.SameDoors (q.leaveQueue f n) := h.updQueue f _
theorem Part.SameDoors.setGuard (h : p.SameDoors q) (n : Nat) : p.SameDoors (q.setGuard n) :=
  h.updSeat n _ (fun _ => rfl) (fun _ => rfl) fun _ => rfl

end

/-! ### Openings -/

theorem wrapNext_eq (k : Nat) : wrapNext k = nextNumber k := by
  unfold wrapNext nextNumber
  split <;> split <;> omega

theorem newEntry_delegate (fl : Floor) (q : FloorParams) (role : Role) (n : Nat) (hq : fl.params = some q) (hr : role ≠ .chair) :
    newEntry fl role n = fl.delegateEntry q n := by
  simp [newEntry, Floor.delegateEntry, hr, fl.par_some q hq, wrapNext_eq]

theorem newEntry_chair (fl : Floor) (n : Nat) : newEntry fl .chair n = fl.chairEntry n := by
  simp [newEntry, Floor.chairEntry, wrapNext_eq]

/-- A seat that no entry of the open list holds is not made to stand there by a close. -/
theorem Part.openEntry_dropEntry (p : Part) (f n g m : Nat) (h : p.openEntry g m = none) : (p.dropEntry f n).openEntry g m = none := by
  by_cases hg : g = f
  · subst hg
    rw [Part.openEntry, Part.floorAt, Part.dropEntry, Part.updFloor, nth_upd_same]
    rw [Part.openEntry, Part.floorAt] at h
    cases hfl : nth p.floors g with
    | none => rfl
    | some fl =>
      rw [hfl] at h
      exact List.find?_eq_none.2 fun e he => List.find?_eq_none.1 h e (List.mem_of_mem_filter he)
  · rw [Part.openEntry, Part.dropEntry, p.floorAt_updFloor_ne f g _ (Ne.symm hg)]
    exact h

section
variable {p : Part} {f n : Nat} {fl : Floor} {q : FloorParams}

/-- An opening, with the entry it adds (R90). -/
theorem Part.openSeat_opens (hfl : nth p.floors f = some fl) (hmay : p.mayOpen f n = true) (e : OpenEntry)
    (he : newEntry fl (p.seatAt n).role n = e) (horder : e.openedOrder = wrapNext fl.openOrder) :
    p.openSeat f n =
      { p with floors := upd p.floors f (fun _ => fl.opens e), queues := upd p.queues f (fun w => w.without n) } := by
  rw [p.openSeat_of f n hmay]
  have hfloors := upd_congr p.floors f
    (fun fl => { fl with openOrder := wrapNext fl.openOrder, openList := fl.openList ++ [newEntry fl (p.seatAt n).role n] })
    (fun _ => fl.opens e) fl hfl (by rw [he, Floor.opens, horder])
  rw [hfloors]
  rfl

theorem Part.openSeat_delegate (hfl : nth p.floors f = some fl) (hq : fl.params = some q) (hmay : p.mayOpen f n = true)
    (hr : (p.seatAt n).role ≠ .chair) :
    p.openSeat f n =
      { p with floors := upd p.floors f (fun _ => fl.opens (fl.delegateEntry q n)), queues := upd p.queues f (fun w => w.without n) } :=
  Part.openSeat_opens hfl hmay _ (newEntry_delegate fl q _ n hq hr) (wrapNext_eq _).symm

theorem Part.openSeat_chair (hfl : nth p.floors f = some fl) (hmay : p.mayOpen f n = true) (hr : (p.seatAt n).role = .chair) :
    p.openSeat f n =
      { p with floors := upd p.floors f (fun _ => fl.opens (fl.chairEntry n)), queues := upd p.queues f (fun w => w.without n) } :=
  Part.openSeat_opens hfl hmay _ (by rw [hr]; exact newEntry_chair fl n) (wrapNext_eq _).symm

end

/-! ### Queues -/

theorem Queue.without_absent (w : Queue) (n : Nat) (h : w.entries.any (fun e => e.seat == n) = false) : w.without n = w := by
  have hne : ∀ e ∈ w.entries, (e.seat != n) = true := fun e he => by
    have hnot := List.any_eq_false.1 h e he
    simpa using hnot
  rw [Queue.without, List.filter_eq_self.2 hne]

/-- A seat that does not stand in a queue does not leave it. -/
theorem Part.queues_without (p : Part) (f n : Nat) (h : p.isQueued f n = false) : upd p.queues f (fun w => w.without n) = p.queues := by
  cases hw : nth p.queues f with
  | none => exact upd_of_none _ _ _ hw
  | some w =>
    rw [Part.isQueued, p.queueAt_of_nth f w hw] at h
    rw [upd_congr p.queues f (fun w => w.without n) (fun _ => w) w hw (w.without_absent n h), upd_self p.queues f w hw]

theorem placeEntry_joins (x : Queue) (n : Nat) (cls : QueueClass) :
    ({ entries := placeEntry { seat := n, cls := cls, arrival := wrapNext x.lastArrival, waitedS := 0 } x.entries
       lastArrival := wrapNext x.lastArrival } : Queue) = x.joins n cls := by
  rw [wrapNext_eq]
  cases cls <;> rfl

theorem Part.joinQueue_eq (p : Part) (f n : Nat) (cls : QueueClass) (w : Queue) (hw : nth p.queues f = some w) :
    p.joinQueue f n cls = { p with queues := upd p.queues f (fun _ => w.joins n cls) } := by
  rw [Part.joinQueue, p.updQueue_eq f _ w hw, placeEntry_joins]

/-! ### Auto grant -/

theorem Floor.delegates_opens (fl : Floor) (q : FloorParams) (n : Nat) :
    (fl.opens (fl.delegateEntry q n)).delegates = fl.delegates + 1 := by
  simp [Floor.delegates, Floor.opens, Floor.delegateEntry]

/-- The head of the queue, a delegate that may open, is granted (R122). -/
theorem Part.grantHead_delegate {p : Part} {f m : Nat} {fl : Floor} {q : FloorParams} {w : Queue} {a : QueueEntry}
    {rest : List QueueEntry} (hfl : nth p.floors f = some fl) (hw : nth p.queues f = some w) (hq : fl.params = some q)
    (hentries : w.entries = a :: rest) (ha : a.seat = m) (hrest : ∀ b ∈ rest, b.seat ≠ m) (hserve : p.inService m = true)
    (hr : (p.seatAt m).role ≠ .chair) (hclosed : ∀ g, p.openEntry g m = none) (hin : p.isPrivate f = false ∨ p.admitted m = true) :
    p.grantHead f =
      { p with
        floors := upd p.floors f (fun _ => fl.opens (fl.delegateEntry q m))
        queues := upd p.queues f (fun _ => { w with entries := rest }) } := by
  have hgone : w.without m = { w with entries := rest } := by
    have hkeep : rest.filter (fun e => e.seat != m) = rest := List.filter_eq_self.2 fun b hb => by simpa using hrest b hb
    simp [Queue.without, hentries, ha, hkeep]
  have hout : ({ w with entries := rest } : Queue).without m = { w with entries := rest } :=
    Queue.without_absent _ m (List.any_eq_false.2 fun b hb => by simpa using hrest b hb)
  have hmay : (p.leaveQueue f m).mayOpen f m = true :=
    ((Part.SameDoors.rfl' p).leaveQueue f m).mayOpen f m hserve hclosed hin
  rw [Part.grantHead, p.queueAt_of_nth f w hw, hentries]
  simp only [ha]
  rw [Part.openSeat_delegate (p := p.leaveQueue f m) hfl hq hmay hr]
  simp only [Part.leaveQueue, Part.updQueue, upd_upd]
  rw [upd_congr p.queues f _ (fun _ => { w with entries := rest }) w hw]
  change (w.without m).without m = _
  rw [hgone, hout]

/-- An auto grant of one place: the head of the queue opens, and the floor stands at its limit (R95). -/
theorem Part.autoGrant_one {p : Part} {f m : Nat} {fl : Floor} {q : FloorParams} {w : Queue} {a : QueueEntry}
    {rest : List QueueEntry} (hfl : nth p.floors f = some fl) (hw : nth p.queues f = some w) (hq : fl.params = some q)
    (hlive : fl.state = .live) (hgo : fl.suspended = false) (hmode : q.grantsItself = true) (hplace : fl.delegates + 1 = q.limit)
    (hentries : w.entries = a :: rest) (ha : a.seat = m) (hrest : ∀ b ∈ rest, b.seat ≠ m) (hserve : p.inService m = true)
    (hr : (p.seatAt m).role ≠ .chair) (hclosed : ∀ g, p.openEntry g m = none) (hin : p.isPrivate f = false ∨ p.admitted m = true) :
    p.autoGrant f =
      { p with
        floors := upd p.floors f (fun _ => fl.opens (fl.delegateEntry q m))
        queues := upd p.queues f (fun _ => { w with entries := rest }) } := by
  have hready : p.grantReady f = true := by
    rw [Part.grantReady, p.floorAt_of_nth f fl hfl, p.queueAt_of_nth f w hw, fl.par_some q hq, hlive, hgo, hmode, hentries]
    simp only [decide_true, Bool.not_false, Bool.true_and, List.isEmpty_cons, Bool.and_true, decide_eq_true_eq]
    omega
  have hgrant := Part.grantHead_delegate hfl hw hq hentries ha hrest hserve hr hclosed hin
  rw [Part.autoGrant, p.queueAt_of_nth f w hw, hentries, List.length_cons, grantLoop, if_pos hready, hgrant]
  generalize hG : ({ p with
        floors := upd p.floors f (fun _ => fl.opens (fl.delegateEntry q m))
        queues := upd p.queues f (fun _ => { w with entries := rest }) } : Part) = G
  have hG' : G.floorAt f = fl.opens (fl.delegateEntry q m) := by rw [← hG]; exact Part.floorAt_written (p := p) rfl hfl
  have hidle : G.grantReady f = false := by
    have hpar : (fl.opens (fl.delegateEntry q m)).par = q := Floor.par_some _ q hq
    rw [Part.grantReady, hG', hpar, fl.delegates_opens q m, hplace]
    simp
  cases rest.length with
  | zero => rfl
  | succ k => rw [grantLoop, if_neg (by rw [hidle]; decide)]

end Sys2Proof.Machine
end

section
/-! The host's requests GRANT and CLOSE_MIC, case by case (O27, O28). -/

namespace Sys2Proof.Machine

/-! ### Bodies -/

theorem parseGrant_bytes (n : Nat) (replace : Bool) (h : n < 256) : parseGrant (byte n ++ flagByte replace) = some (n, replace) := by
  have hflag : flagByte replace = byte (if replace then 1 else 0) ++ [] := by cases replace <;> rfl
  rw [hflag]
  simp only [parseGrant, Option.bind_eq_bind, readNat_byte n h, Option.bind_some]
  cases replace <;> rw [readCode_byte _ _ (by decide)] <;> rfl

theorem exec_grant (s : State) (n : Nat) (replace : Bool) (h : n < 256) :
    exec (.grant (byte n ++ flagByte replace)) s = s.become (s.part.request 0x20 (some (n, replace)) grantOwner) := by
  rw [← parseGrant_bytes n replace h]; rfl

theorem exec_closeMic (s : State) (n : Nat) (h : n < 256) :
    exec (.closeMic (byte n)) s = s.become (s.part.request 0x21 (some n) closeOwner) := by
  rw [← parseByte_byte n h]; rfl

/-! ### GRANT's owner -/

theorem seatFits_not (n : Nat) (h : ¬ (1 ≤ n ∧ n ≤ 96)) : seatFits n = false := by
  rwa [← Bool.not_eq_true, seatFits_iff]

theorem Part.shutOut_false (p : Part) (f n : Nat) (h : p.isPrivate f = false ∨ p.admitted n = true) : p.shutOut f n = false := by
  rcases h with h | h <;> simp [Part.shutOut, h]

theorem Part.shutOut_true (p : Part) (f n : Nat) (h : p.isPrivate f = true) (ha : p.admitted n = false) : p.shutOut f n = true := by
  simp [Part.shutOut, h, ha]

section
variable (p : Part) (n f : Nat) (replace : Bool)

theorem grantOwner_of_range (h : ¬ (1 ≤ n ∧ n ≤ 96)) : grantOwner (n, replace) p = p.refuse .badValue := by
  simp [grantOwner, seatFits_not n h]

theorem grantOwner_of_untaken (h : 1 ≤ n ∧ n ≤ 96) (ht : p.takingFloor n false = none) :
    grantOwner (n, replace) p = p.refuse .notAllowed := by
  simp [grantOwner, (seatFits_iff n).2 h, ht]

theorem grantOwner_of_away (h : 1 ≤ n ∧ n ≤ 96) (ht : p.takingFloor n false = some f) (hs : p.inService n = false) :
    grantOwner (n, replace) p = p.refuse .notAllowed := by
  simp [grantOwner, (seatFits_iff n).2 h, ht, hs]

theorem grantOwner_of_shutOut (h : 1 ≤ n ∧ n ≤ 96) (ht : p.takingFloor n false = some f) (hs : p.inService n = true)
    (hout : p.shutOut f n = true) : grantOwner (n, replace) p = p.refuse .notAdmitted := by
  simp [grantOwner, (seatFits_iff n).2 h, ht, hs, hout]

/-- A GRANT that reaches its floor (R101, tests 1 to 4 passed). -/
theorem grantOwner_at (h : 1 ≤ n ∧ n ≤ 96) (ht : p.takingFloor n false = some f) (hs : p.inService n = true)
    (hin : p.isPrivate f = false ∨ p.admitted n = true) : grantOwner (n, replace) p = p.grantAt f n replace := by
  simp [grantOwner, (seatFits_iff n).2 h, ht, hs, p.shutOut_false f n hin]

theorem Part.grantAt_open (h : (p.openEntry f n).isSome = true) : p.grantAt f n replace = p.done := by
  simp [Part.grantAt, h]

/-- A CHAIR opens outside the limit, a delegate below it (R101). -/
theorem Part.grantAt_opens (h : p.openEntry f n = none)
    (hroom : (p.seatAt n).role = .chair ∨ (p.floorAt f).delegates < (p.floorAt f).par.limit) :
    p.grantAt f n replace = (p.openSeat f n).done := by
  rcases hroom with hr | hd
  · simp [Part.grantAt, h, hr]
  · simp [Part.grantAt, h, hd]

theorem Part.grantAt_full (h : p.openEntry f n = none) (hr : (p.seatAt n).role ≠ .chair)
    (hfull : (p.floorAt f).par.limit ≤ (p.floorAt f).delegates) : p.grantAt f n false = p.refuse .floorFull := by
  simp [Part.grantAt, h, hr, Nat.not_lt.2 hfull]

theorem Part.grantAt_replaces (m : Nat) (h : p.openEntry f n = none) (hr : (p.seatAt n).role ≠ .chair)
    (hfull : (p.floorAt f).par.limit ≤ (p.floorAt f).delegates) (hm : (p.floorAt f).oldestDelegate = some m) :
    p.grantAt f n true = ((p.forceClose f m).openSeat f n).done := by
  simp [Part.grantAt, h, hr, Nat.not_lt.2 hfull, hm]

end

/-- A forced close of a seat without a hold, and an opening in its place (R91, R93, R101). -/
theorem Part.forceClose_openSeat {p : Part} {f n m : Nat} {fl : Floor} {q : FloorParams} (hfl : nth p.floors f = some fl)
    (hq : fl.params = some q) (hfree : (p.seatAt m).priorityHeld = false) (hserve : p.inService n = true)
    (hclosed : ∀ g, p.openEntry g n = none) (hin : p.isPrivate f = false ∨ p.admitted n = true) (hr : (p.seatAt n).role ≠ .chair) :
    (p.forceClose f m).openSeat f n =
      { p with
        seats := upd p.seats m (fun x => { x with guardUntil := some (p.now + Config.guard) })
        floors := upd p.floors f (fun _ => (fl.without m).opens (fl.delegateEntry q n))
        queues := upd p.queues f (fun w => w.without n) } := by
  have hdoors := ((Part.SameDoors.rfl' p).dropEntry f m).setGuard m
  have hnth : nth ((p.dropEntry f m).setGuard m).floors f = some (fl.without m) := by
    change nth (p.dropEntry f m).floors f = _
    rw [Part.dropEntry, Part.updFloor, nth_upd_same, hfl]; rfl
  have hopen := Part.openSeat_delegate (q := q) hnth hq
    (hdoors.mayOpen f n hserve (fun g => p.openEntry_dropEntry f m g n (hclosed g)) hin) (by rw [hdoors.role n]; exact hr)
  rw [p.forceClose_free f m hfree, hopen]
  simp only [Part.setGuard, Part.updSeat, Part.dropEntry, Part.updFloor, upd_upd]
  rfl

section
variable {s : State} {n f : Nat} {replace : Bool}

/-- GRANT's refusals before the floor's own tests (R101, tests 1 to 4). -/
theorem grant_refusals (hr : s.runs) (hawake : s.part.control.tableState = .awake) (hn : n < 256) :
    (¬ (1 ≤ n ∧ n ≤ 96) → Answers (.grant (byte n ++ flagByte replace)) s 0x20 .badValue []) ∧
    (1 ≤ n → n ≤ 96 →
      (s.part.floorOf n = none → Answers (.grant (byte n ++ flagByte replace)) s 0x20 .notAllowed []) ∧
      (∀ f, s.part.floorOf n = some f →
        ((s.part.floorAt f).state ≠ .live ∨ (s.part.floorAt f).suspended = true →
          Answers (.grant (byte n ++ flagByte replace)) s 0x20 .notAllowed []) ∧
        ((s.part.floorAt f).state = .live → (s.part.floorAt f).suspended = false →
          (s.part.inService n = false → Answers (.grant (byte n ++ flagByte replace)) s 0x20 .notAllowed []) ∧
          (s.part.inService n = true →
            (s.part.isPrivate f = true → s.part.admitted n = false →
              Answers (.grant (byte n ++ flagByte replace)) s 0x20 .notAdmitted []) ∧
            (s.part.isPrivate f = false ∨ s.part.admitted n = true → (s.part.openEntry f n).isSome = true →
              AnswersWith (.grant (byte n ++ flagByte replace)) s 0x20 .done [] s.part.records))))) := by
  have hx := exec_grant s n replace hn
  have refuse := fun st => answers_of_refused _ s _ (n, replace) grantOwner st hx hr
  refine ⟨fun hout => refuse _ (grantOwner_of_range s.part n replace hout) rfl, fun h1 h96 => ⟨fun hfree =>
    refuse _ (grantOwner_of_untaken s.part n replace ⟨h1, h96⟩ (s.part.takingFloor_none n false hfree)) rfl, fun f hf =>
    ⟨fun hstate => ?_, fun hlive hgo => ?_⟩⟩⟩
  · refine refuse _ (grantOwner_of_untaken s.part n replace ⟨h1, h96⟩ (s.part.takingFloor_not n f false hf ?_)) rfl
    exact hstate.imp_right fun h => ⟨rfl, h⟩
  · have htakes := s.part.takingFloor_live n f false hawake hf hlive (.inr hgo)
    refine ⟨fun hs => refuse _ (grantOwner_of_away s.part n f replace ⟨h1, h96⟩ htakes hs) rfl, fun hs => ⟨fun hp ha =>
      refuse _ (grantOwner_of_shutOut s.part n f replace ⟨h1, h96⟩ htakes hs (s.part.shutOut_true f n hp ha)) rfl,
      fun hin hopen => ?_⟩⟩
    exact answersWith_of_taken _ s _ (n, replace) grantOwner s.part.done hx hr
      ((grantOwner_at s.part n f replace ⟨h1, h96⟩ htakes hs hin).trans (s.part.grantAt_open n f replace hopen)) rfl

end

/-- Settles O27: the tests of the seat and its floor refuse in turn; at the floor the limit decides whether the seat opens, is
refused, or takes the oldest delegate's place. -/
theorem grantOpensOrRefuses : Obligations.GrantOpensOrRefuses := by
  refine ⟨fun s n replace hr hawake hn => grant_refusals hr hawake hn, ?full, ?room⟩
  case full =>
    intro s n m f fl q hr hawake h1 h96 hf hfl hlive hgo hq hs hin hclosed hrole hfull
    have hat := s.part.floorAt_of_nth f fl hfl
    have htakes := s.part.takingFloor_live n f false hawake hf (by rw [hat]; exact hlive) (.inr (by rw [hat]; exact hgo))
    have hlimit : (s.part.floorAt f).par.limit ≤ (s.part.floorAt f).delegates := by rw [hat, fl.par_some q hq]; exact hfull
    have howner := fun replace => grantOwner_at s.part n f replace ⟨h1, h96⟩ htakes hs hin
    refine ⟨?_, fun hm hfree => ?_⟩
    · exact answers_of_refused _ s _ (n, false) grantOwner .floorFull (exec_grant s n false (by omega)) hr
        ((howner false).trans (s.part.grantAt_full n f (hclosed f) hrole hlimit)) rfl
    · have hreplaces := s.part.grantAt_replaces n f m (hclosed f) hrole hlimit (by rw [hat]; exact hm)
      rw [Part.forceClose_openSeat hfl hq hfree hs hclosed hin hrole] at hreplaces
      exact answersWith_of_taken _ s _ (n, true) grantOwner _ (exec_grant s n true (by omega)) hr
        ((howner true).trans hreplaces) rfl
  case room =>
    intro s n f fl q replace hr hawake h1 h96 hf hfl hlive hgo hq hs hin hclosed hroom
    have hat := s.part.floorAt_of_nth f fl hfl
    have htakes := s.part.takingFloor_live n f false hawake hf (by rw [hat]; exact hlive) (.inr (by rw [hat]; exact hgo))
    have hmay := (Part.SameDoors.rfl' s.part).mayOpen f n hs hclosed hin
    have hopens := s.part.grantAt_opens n f replace (hclosed f) (by rw [hat, fl.par_some q hq]; exact hroom)
    have hans := answersWith_of_taken _ s _ (n, replace) grantOwner _ (exec_grant s n replace (by omega)) hr
      ((grantOwner_at s.part n f replace ⟨h1, h96⟩ htakes hs hin).trans hopens) rfl
    refine answersWith_congr hans ?_
    by_cases hrole : (s.part.seatAt n).role = .chair
    · rw [if_pos hrole]
      exact congrArg Part.records (Part.openSeat_chair hfl hmay hrole)
    · rw [if_neg hrole]
      exact congrArg Part.records (Part.openSeat_delegate hfl hq hmay hrole)

/-! ### CLOSE_MIC -/

section
variable (p : Part) (n f : Nat)

theorem closeOwner_of_range (h : ¬ (1 ≤ n ∧ n ≤ 96)) : closeOwner n p = p.refuse .badValue := by
  simp [closeOwner, seatFits_not n h]

theorem closeOwner_of_untaken (h : 1 ≤ n ∧ n ≤ 96) (ht : p.takingFloor n true = none) : closeOwner n p = p.refuse .notAllowed := by
  simp [closeOwner, (seatFits_iff n).2 h, ht]

theorem closeOwner_of_closed (h : 1 ≤ n ∧ n ≤ 96) (ht : p.takingFloor n true = some f) (ho : p.openEntry f n = none) :
    closeOwner n p = p.done := by
  simp [closeOwner, (seatFits_iff n).2 h, ht, ho]

theorem closeOwner_of_open (h : 1 ≤ n ∧ n ≤ 96) (ht : p.takingFloor n true = some f) (ho : (p.openEntry f n).isSome = true) :
    closeOwner n p = (p.closeThenGrant f n false).done := by
  simp [closeOwner, (seatFits_iff n).2 h, ht, ho]

/-- An ordinary close of a seat without a hold, on a floor that grants nothing after it (R91, R95). -/
theorem Part.closeThenGrant_idle (hfree : (p.seatAt n).priorityHeld = false)
    (hidle : (p.floorAt f).par.mode = .moderated ∨ (p.queueAt f).entries = []) :
    p.closeThenGrant f n false = p.dropEntry f n := by
  have hpar : ((p.dropEntry f n).floorAt f).par = (p.floorAt f).par := by
    have hdoors := (Part.SameDoors.rfl' p).dropEntry f n
    exact congrArg (fun fl => fl.par) (hdoors.shell f)
  have hgrant : (p.dropEntry f n).autoGrant f = p.dropEntry f n :=
    Part.autoGrant_idle _ f (Part.grantReady_false _ f (by rw [hpar]; exact hidle))
  simp only [Part.closeThenGrant, Bool.false_eq_true, if_false, p.closeEntry_free f n hfree, hgrant, ite_self]

end

/-- An ordinary close of a delegate that makes the one place in which the head of the queue opens (R91, R95). -/
theorem Part.closeThenGrant_one {p : Part} {f n m : Nat} {fl : Floor} {q : FloorParams} {w : Queue} {a : QueueEntry}
    {rest : List QueueEntry} (hfl : nth p.floors f = some fl) (hw : nth p.queues f = some w) (hq : fl.params = some q)
    (hlive : fl.state = .live) (hgo : fl.suspended = false) (hmode : q.mode = .autoQueue)
    (hplace : (fl.without n).delegates + 1 = q.limit) (hdel : p.isDelegate f n = true) (hfree : (p.seatAt n).priorityHeld = false)
    (hentries : w.entries = a :: rest) (ha : a.seat = m) (hrest : ∀ b ∈ rest, b.seat ≠ m) (hserve : p.inService m = true)
    (hr : (p.seatAt m).role ≠ .chair) (hclosed : ∀ g, p.openEntry g m = none) (hin : p.isPrivate f = false) :
    p.closeThenGrant f n false =
      { p with
        floors := upd p.floors f (fun _ => (fl.without n).opens (fl.delegateEntry q m))
        queues := upd p.queues f (fun _ => { w with entries := rest }) } := by
  have hdoors := (Part.SameDoors.rfl' p).dropEntry f n
  have hnth : nth (p.dropEntry f n).floors f = some (fl.without n) := by
    rw [Part.dropEntry, Part.updFloor, nth_upd_same, hfl]; rfl
  have hgrant := Part.autoGrant_one (p := p.dropEntry f n) (q := q) hnth hw hq hlive hgo (by simp [FloorParams.grantsItself, hmode])
    hplace hentries ha hrest ((hdoors.inService m).trans hserve) (by rw [hdoors.role]; exact hr)
    (fun g => p.openEntry_dropEntry f n g m (hclosed g)) (.inl ((hdoors.isPrivate f).trans hin))
  simp only [Part.closeThenGrant, Bool.false_eq_true, if_false, p.closeEntry_free f n hfree, hdel, if_true, hgrant]
  simp only [Part.dropEntry, Part.updFloor, upd_upd]
  rfl

/-- Settles O28: a close where no grant can follow, and the one grant that takes the closed delegate's place. -/
theorem closeMicClosesTheEntry : Obligations.CloseMicClosesTheEntry := by
  refine ⟨fun s n hr hawake hn => ?alone, ?granted⟩
  case alone =>
    have hx := exec_closeMic s n hn
    have refuse := fun st => answers_of_refused _ s _ n closeOwner st hx hr
    refine ⟨fun hout => refuse _ (closeOwner_of_range s.part n hout) rfl, fun h1 h96 => ⟨fun hfree =>
      refuse _ (closeOwner_of_untaken s.part n ⟨h1, h96⟩ (s.part.takingFloor_none n true hfree)) rfl, fun f hf =>
      ⟨fun hstate => refuse _ (closeOwner_of_untaken s.part n ⟨h1, h96⟩ (s.part.takingFloor_not n f true hf (.inl hstate))) rfl,
        fun hlive => ?_⟩⟩⟩
    have htakes := s.part.takingFloor_live n f true hawake hf hlive (.inl rfl)
    refine ⟨fun hclosed => ?_, fun hopen hfree hidle => ?_⟩
    · exact answersWith_of_taken _ s _ n closeOwner s.part.done hx hr (closeOwner_of_closed s.part n f ⟨h1, h96⟩ htakes hclosed) rfl
    · have hclose := closeOwner_of_open s.part n f ⟨h1, h96⟩ htakes hopen
      rw [s.part.closeThenGrant_idle n f hfree hidle] at hclose
      exact answersWith_of_taken _ s _ n closeOwner _ hx hr hclose rfl
  case granted =>
    intro s n m f fl q x e rest hr hawake h1 h96 hf hfl hw hlive hgo hq hmode hfull hplace hdel hfree hentries hm _ hrest hserve hrole
      hclosed hin
    have htakes := s.part.takingFloor_live n f true hawake hf (by rw [s.part.floorAt_of_nth f fl hfl]; exact hlive) (.inl rfl)
    have hopen : (s.part.openEntry f n).isSome = true := by
      rw [Part.isDelegate] at hdel
      cases ho : s.part.openEntry f n with
      | none => rw [ho] at hdel; cases hdel
      | some a => rfl
    have hclose := closeOwner_of_open s.part n f ⟨h1, h96⟩ htakes hopen
    rw [Part.closeThenGrant_one hfl hw hq hlive hgo hmode (hplace.trans hfull) hdel hfree hentries hm hrest hserve hrole hclosed
      hin] at hclose
    exact answersWith_of_taken _ s _ n closeOwner _ (exec_closeMic s n (by omega)) hr hclose rfl

end Sys2Proof.Machine
end

section
/-! The host's requests ENQUEUE, MOVE_ENTRY and CANCEL_FLOOR, case by case (O29, O31, O32). -/

namespace Sys2Proof.Machine

/-! ### ENQUEUE -/

theorem parseEnqueue_bytes (n c : Nat) (cls : Option QueueClass) (h : n < 256) (hc : c < 256) (hcls : statedClassOf c = some cls) :
    parseEnqueue (byte n ++ byte c) = some (n, cls) := by
  rw [← List.append_nil (byte c)]
  simp only [parseEnqueue, Option.bind_eq_bind, readNat_byte n h, Option.bind_some, readCode_byte _ c hc, hcls]
  rfl

theorem exec_enqueue (s : State) (n c : Nat) (cls : Option QueueClass) (h : n < 256) (hc : c < 256)
    (hcls : statedClassOf c = some cls) :
    exec (.enqueue (byte n ++ byte c)) s = s.become (s.part.request 0x22 (some (n, cls)) enqueueOwner) := by
  rw [← parseEnqueue_bytes n c cls h hc hcls]; rfl

section
variable (p : Part) (n f : Nat) (stated : Option QueueClass)

theorem enqueueOwner_of_range (h : ¬ (1 ≤ n ∧ n ≤ 96)) : enqueueOwner (n, stated) p = p.refuse .badValue := by
  simp [enqueueOwner, seatFits_not n h]

theorem enqueueOwner_of_untaken (h : 1 ≤ n ∧ n ≤ 96) (ht : p.takingFloor n false = none) :
    enqueueOwner (n, stated) p = p.refuse .notAllowed := by
  simp [enqueueOwner, (seatFits_iff n).2 h, ht]

theorem enqueueOwner_of_away (h : 1 ≤ n ∧ n ≤ 96) (ht : p.takingFloor n false = some f)
    (hs : p.inService n = false ∨ (p.seatAt n).role = .chair) : enqueueOwner (n, stated) p = p.refuse .notAllowed := by
  simp [enqueueOwner, (seatFits_iff n).2 h, ht, hs]

theorem enqueueOwner_of_shutOut (h : 1 ≤ n ∧ n ≤ 96) (ht : p.takingFloor n false = some f) (hs : p.inService n = true)
    (hr : (p.seatAt n).role ≠ .chair) (hout : p.shutOut f n = true) : enqueueOwner (n, stated) p = p.refuse .notAdmitted := by
  simp [enqueueOwner, (seatFits_iff n).2 h, ht, hs, hr, hout]

/-- An ENQUEUE that reaches its floor and queue (R118, tests 1 to 4 passed). -/
theorem enqueueOwner_at (h : 1 ≤ n ∧ n ≤ 96) (ht : p.takingFloor n false = some f) (hs : p.inService n = true)
    (hr : (p.seatAt n).role ≠ .chair) (hin : p.isPrivate f = false ∨ p.admitted n = true) :
    enqueueOwner (n, stated) p = p.enqueueAt f n (stated.getD (p.seatAt n).role.queueClass) := by
  simp [enqueueOwner, (seatFits_iff n).2 h, ht, hs, hr, p.shutOut_false f n hin]

theorem Part.enqueueAt_open (cls : QueueClass) (h : (p.openEntry f n).isSome = true) : p.enqueueAt f n cls = p.refuse .notAllowed := by
  simp [Part.enqueueAt, h]

theorem Part.enqueueAt_queued (cls : QueueClass) (h : p.openEntry f n = none) (hq : p.isQueued f n = true) :
    p.enqueueAt f n cls = p.doneWith (byte (p.queuePosition f n)) := by
  simp [Part.enqueueAt, h, hq]

theorem Part.enqueueAt_full (cls : QueueClass) (h : p.openEntry f n = none) (hq : p.isQueued f n = false)
    (hfull : (p.floorAt f).par.queueCap ≤ (p.queueAt f).entries.length ∨ p.queueFree = 0) :
    p.enqueueAt f n cls = p.refuse .queueFull := by
  simp [Part.enqueueAt, h, hq, p.enqueueSeat_full f n cls hfull]

theorem Part.enqueueAt_joins (cls : QueueClass) (h : p.openEntry f n = none) (hq : p.isQueued f n = false)
    (hlength : (p.queueAt f).entries.length < (p.floorAt f).par.queueCap) (hpool : 0 < p.queueFree) :
    p.enqueueAt f n cls = (p.joinQueue f n cls).doneWith (byte ((p.joinQueue f n cls).queuePosition f n)) := by
  simp [Part.enqueueAt, h, hq, p.enqueueSeat_of f n cls hlength hpool]

end

/-- The position of a seat behind entries of other seats (R115). -/
theorem Part.queuePosition_of (p : Part) (f n : Nat) (front back : List QueueEntry) (e : QueueEntry)
    (h : (p.queueAt f).entries = front ++ e :: back) (he : e.seat = n) (hfront : ∀ a ∈ front, a.seat ≠ n) :
    p.queuePosition f n = front.length + 1 := by
  have hnone : front.findIdx? (fun a => a.seat == n) = none :=
    List.findIdx?_eq_none_iff.2 fun a ha => by simpa using hfront a ha
  rw [Part.queuePosition, h, List.findIdx?_append, hnone]
  simp [List.findIdx?_cons, he]

theorem Part.notQueued_seat (p : Part) (f n : Nat) (w : Queue) (hw : nth p.queues f = some w) (h : p.isQueued f n = false) :
    ∀ a ∈ w.entries, a.seat ≠ n := by
  rw [Part.isQueued, p.queueAt_of_nth f w hw] at h
  exact fun a ha => by simpa using List.any_eq_false.1 h a ha

theorem Role.queueClass_eq (role : Role) :
    role.queueClass = if role = .priority then .priority else .ordinary := by
  cases role <;> rfl

/-- The code of a stated class (R118). -/
theorem statedClassOf_code (stated : Option QueueClass) :
    statedClassOf (match stated with | none => 0 | some .priority => 2 | some .ordinary => 3) = some stated ∧
      (match stated with | none => 0 | some QueueClass.priority => 2 | some QueueClass.ordinary => 3) < 256 := by
  cases stated with
  | none => exact ⟨rfl, by decide⟩
  | some cls => cases cls <;> exact ⟨rfl, by decide⟩

/-- Settles O29: the tests refuse in turn; a place in the queue is the one that the class gives. -/
theorem enqueuePlacesTheSeat : Obligations.EnqueuePlacesTheSeat := by
  refine ⟨fun s n hr hawake hn => ?refusals, ?joins⟩
  case refusals =>
    have hx : exec (.enqueue (byte n ++ [0])) s = s.become (s.part.request 0x22 (some (n, none)) enqueueOwner) :=
      exec_enqueue s n 0 none hn (by decide) rfl
    have refuse := fun st => answers_of_refused _ s _ (n, none) enqueueOwner st hx hr
    refine ⟨fun hout => refuse _ (enqueueOwner_of_range s.part n none hout) rfl, fun h1 h96 => ⟨fun hfree =>
      refuse _ (enqueueOwner_of_untaken s.part n none ⟨h1, h96⟩ (s.part.takingFloor_none n false hfree)) rfl, fun f hf =>
      ⟨fun hstate => ?_, fun hlive hgo => ?_⟩⟩⟩
    · refine refuse _ (enqueueOwner_of_untaken s.part n none ⟨h1, h96⟩ (s.part.takingFloor_not n f false hf ?_)) rfl
      exact hstate.imp_right fun h => ⟨rfl, h⟩
    · have htakes := s.part.takingFloor_live n f false hawake hf hlive (.inr hgo)
      refine ⟨fun hs => refuse _ (enqueueOwner_of_away s.part n f none ⟨h1, h96⟩ htakes hs) rfl, fun hs hrole =>
        ⟨fun hp ha => refuse _ (enqueueOwner_of_shutOut s.part n f none ⟨h1, h96⟩ htakes hs hrole
          (s.part.shutOut_true f n hp ha)) rfl, fun hin => ?_⟩⟩
      have howner := enqueueOwner_at s.part n f none ⟨h1, h96⟩ htakes hs hrole hin
      refine ⟨fun hopen => refuse _ (howner.trans (s.part.enqueueAt_open n f _ hopen)) rfl, fun hclosed hqueued => ?_,
        fun hclosed hqueued hfull => refuse _ (howner.trans (s.part.enqueueAt_full n f _ hclosed hqueued hfull)) rfl⟩
      exact answersWith_of_taken _ s _ (n, none) enqueueOwner _ hx hr
        (howner.trans (s.part.enqueueAt_queued n f _ hclosed hqueued)) rfl
  case joins =>
    intro s n f x stated hr hawake h1 h96 hf hlive hgo hs hrole hin hclosed hqueued hw hlength hpool
    obtain ⟨hcode, hcode256⟩ := statedClassOf_code stated
    have hx := exec_enqueue s n _ stated (by omega) hcode256 hcode
    have htakes := s.part.takingFloor_live n f false hawake hf hlive (.inr hgo)
    have howner := enqueueOwner_at s.part n f stated ⟨h1, h96⟩ htakes hs hrole hin
    rw [s.part.enqueueAt_joins n f _ hclosed hqueued (by rw [s.part.queueAt_of_nth f x hw]; exact hlength) hpool,
      Role.queueClass_eq] at howner
    have hout := s.part.notQueued_seat f n x hw hqueued
    have hjoined := fun cls => s.part.joinQueue_eq f n cls x hw
    have hat := fun cls => (congrArg (fun p : Part => p.queueAt f) (hjoined cls)).trans
      (Part.queueAt_written (p := s.part) rfl hw)
    refine ⟨fun hcls => ?_, fun hcls => ?_⟩ <;> rw [hcls] at howner
    · rw [(s.part.joinQueue f n .ordinary).queuePosition_of f n x.entries [] _ (by rw [hat]; rfl) rfl hout, hjoined] at howner
      exact answersWith_of_taken _ s _ (n, stated) enqueueOwner _ hx hr howner rfl
    · rw [(s.part.joinQueue f n .priority).queuePosition_of f n _ _ _ (by rw [hat]; rfl) rfl
        (fun a ha => hout a (List.takeWhile_subset _ ha)), hjoined] at howner
      exact answersWith_of_taken _ s _ (n, stated) enqueueOwner _ hx hr howner rfl

/-! ### MOVE_ENTRY -/

theorem parseMove_bytes (n pos : Nat) (h : n < 256) (hp : pos < 256) : parseMove (byte n ++ byte pos) = some (n, pos) := by
  rw [← List.append_nil (byte pos)]
  simp only [parseMove, Option.bind_eq_bind, readNat_byte n h, Option.bind_some, readNat_byte pos hp]
  rfl

theorem exec_moveEntry (s : State) (n pos : Nat) (h : n < 256) (hp : pos < 256) :
    exec (.moveEntry (byte n ++ byte pos)) s = s.become (s.part.request 0x24 (some (n, pos)) moveOwner) := by
  rw [← parseMove_bytes n pos h hp]; rfl

section
variable (p : Part) (n pos f : Nat)

theorem moveFits_iff : (seatFits n && decide (1 ≤ pos ∧ pos ≤ 32)) = true ↔ 1 ≤ n ∧ n ≤ 96 ∧ 1 ≤ pos ∧ pos ≤ 32 := by
  rw [Bool.and_eq_true, seatFits_iff, decide_eq_true_eq, and_assoc]

theorem moveOwner_of_range (h : ¬ (1 ≤ n ∧ n ≤ 96 ∧ 1 ≤ pos ∧ pos ≤ 32)) : moveOwner (n, pos) p = p.refuse .badValue := by
  have hfit : (seatFits n && decide (1 ≤ pos ∧ pos ≤ 32)) = false := by rwa [← Bool.not_eq_true, moveFits_iff]
  rw [moveOwner, if_pos hfit]

theorem moveOwner_of_untaken (h : 1 ≤ n ∧ n ≤ 96 ∧ 1 ≤ pos ∧ pos ≤ 32) (ht : p.takingFloor n true = none) :
    moveOwner (n, pos) p = p.refuse .notAllowed := by
  rw [moveOwner, if_neg (by rw [(moveFits_iff n pos).2 h]; decide)]
  simp [ht]

theorem moveOwner_of_absent (h : 1 ≤ n ∧ n ≤ 96 ∧ 1 ≤ pos ∧ pos ≤ 32) (ht : p.takingFloor n true = some f)
    (hq : p.isQueued f n = false) : moveOwner (n, pos) p = p.refuse .notAllowed := by
  rw [moveOwner, if_neg (by rw [(moveFits_iff n pos).2 h]; decide)]
  simp [ht, hq]

theorem moveOwner_of_queued (h : 1 ≤ n ∧ n ≤ 96 ∧ 1 ≤ pos ∧ pos ≤ 32) (ht : p.takingFloor n true = some f)
    (hq : p.isQueued f n = true) :
    moveOwner (n, pos) p = (p.moveQueued f n pos).doneWith (byte ((p.moveQueued f n pos).queuePosition f n)) := by
  rw [moveOwner, if_neg (by rw [(moveFits_iff n pos).2 h]; decide)]
  simp [ht, hq]

end

/-- The one entry of a seat in a queue. -/
theorem find_seat_eq (l : List QueueEntry) (e : QueueEntry) (he : e ∈ l) (hnodup : (l.map (fun y => y.seat)).Nodup) :
    l.find? (fun y => y.seat == e.seat) = some e := by
  induction l with
  | nil => cases he
  | cons a l ih =>
    rw [List.map_cons, List.nodup_cons] at hnodup
    obtain ⟨hout, hnodup⟩ := hnodup
    rcases List.mem_cons.1 he with rfl | he
    · simp
    · have hne : a.seat ≠ e.seat := fun h => hout (h ▸ List.mem_map_of_mem he)
      rw [List.find?_cons_of_neg (by simpa using hne)]
      exact ih he hnodup

/-- The other entries of a list in which a seat stands once. -/
theorem length_filter_ne (l : List QueueEntry) (e : QueueEntry) (he : e ∈ l) (hnodup : (l.map (fun y => y.seat)).Nodup) :
    (l.filter (fun y => y.seat != e.seat)).length = l.length - 1 := by
  obtain ⟨front, back, rfl⟩ := List.append_of_mem he
  rw [List.map_append, List.map_cons, List.nodup_append, List.nodup_cons] at hnodup
  obtain ⟨-, ⟨hb, -⟩, hf⟩ := hnodup
  have keep : ∀ l : List QueueEntry, (∀ a ∈ l, a.seat ≠ e.seat) → l.filter (fun a => a.seat != e.seat) = l :=
    fun l hl => List.filter_eq_self.2 fun a ha => by simpa using hl a ha
  rw [List.filter_append, List.filter_cons_of_neg (by simp), keep front, keep back]
  · simp only [List.length_append, List.length_cons]
    omega
  · exact fun a ha h => hb (h ▸ List.mem_map_of_mem ha)
  · exact fun a ha h => hf a.seat (List.mem_map_of_mem ha) e.seat (by simp) h

/-- The entries of one class, with one of them moved to a place (R121). -/
def moveTo (e : QueueEntry) (pos : Nat) (l : List QueueEntry) : List QueueEntry :=
  (l.filter (fun y => y.seat != e.seat)).insertIdx (min (pos - 1) (l.length - 1)) e

/-- A move within the class, as the two classes are taken apart (R121). -/
theorem moveInClass_eq (e : QueueEntry) (pos : Nat) (l : List QueueEntry) (he : e ∈ l) (hnodup : (l.map (fun y => y.seat)).Nodup) :
    moveInClass e pos l =
      if e.cls = .priority then
        moveTo e pos (l.filter (fun y => decide (y.cls = .priority))) ++ l.filter (fun y => decide (y.cls = .ordinary))
      else l.filter (fun y => decide (y.cls = .priority)) ++ moveTo e pos (l.filter (fun y => decide (y.cls = .ordinary))) := by
  have hothers : ∀ cls, e.cls = cls → ((l.filter (fun y => decide (y.cls = cls))).filter (fun y => y.seat != e.seat)).length =
      (l.filter (fun y => decide (y.cls = cls))).length - 1 := fun cls hcls =>
    length_filter_ne _ e (List.mem_filter.2 ⟨he, by simpa using hcls⟩)
      (hnodup.sublist ((List.filter_sublist).map _))
  cases hcls : e.cls with
  | priority => simp only [moveInClass, hcls, moveTo, hothers .priority hcls, if_true]
  | ordinary => simp only [moveInClass, hcls, moveTo, hothers .ordinary hcls, reduceCtorEq, if_false]

theorem mem_moveTo (e : QueueEntry) (pos : Nat) (l : List QueueEntry) (he : e ∈ l) (hnodup : (l.map (fun y => y.seat)).Nodup) :
    e ∈ moveTo e pos l := by
  rw [moveTo]
  refine (List.mem_insertIdx ?_).2 (.inl rfl)
  rw [length_filter_ne l e he hnodup]
  exact Nat.min_le_right _ _

/-- The place of a seat that stands in a queue (R115). -/
theorem Part.queuePosition_spec (p : Part) (f n : Nat) (e : QueueEntry) (he : e ∈ (p.queueAt f).entries) (hn : e.seat = n) :
    ∃ i, ((p.queueAt f).entries[i]?).map (fun y => y.seat) = some n ∧ p.queuePosition f n = i + 1 := by
  rw [Part.queuePosition]
  cases h : (p.queueAt f).entries.findIdx? (fun y => y.seat == n) with
  | none =>
    have hnot := List.findIdx?_eq_none_iff.1 h e he
    simp [hn] at hnot
  | some i =>
    obtain ⟨hi, hseat, -⟩ := List.findIdx?_eq_some_iff_getElem.1 h
    refine ⟨i, ?_, rfl⟩
    rw [List.getElem?_eq_getElem hi]
    simpa using hseat

/-- Settles O31: a queued seat's entry is taken out of its class and put back at the named place. -/
theorem moveEntryMovesWithinTheClass : Obligations.MoveEntryMovesWithinTheClass := by
  intro s n pos hr hawake hn hpos
  have hx := exec_moveEntry s n pos hn hpos
  have refuse := fun st => answers_of_refused _ s _ (n, pos) moveOwner st hx hr
  refine ⟨fun hout => refuse _ (moveOwner_of_range s.part n pos hout) rfl, fun h1 h96 hp1 hp32 => ⟨fun hfree => ?_, fun f hf =>
    ⟨fun hstate => ?_, fun hlive hq => ?_, fun x e hlive hw he hen hnodup => ?_⟩⟩⟩
  · exact refuse _ (moveOwner_of_untaken s.part n pos ⟨h1, h96, hp1, hp32⟩ (s.part.takingFloor_none n true hfree)) rfl
  · exact refuse _ (moveOwner_of_untaken s.part n pos ⟨h1, h96, hp1, hp32⟩ (s.part.takingFloor_not n f true hf (.inl hstate))) rfl
  · have htakes := s.part.takingFloor_live n f true hawake hf hlive (.inl rfl)
    exact refuse _ (moveOwner_of_absent s.part n pos f ⟨h1, h96, hp1, hp32⟩ htakes hq) rfl
  · subst hen
    have htakes := s.part.takingFloor_live e.seat f true hawake hf hlive (.inl rfl)
    have hqueued : s.part.isQueued f e.seat = true := by
      rw [Part.isQueued, s.part.queueAt_of_nth f x hw]
      exact List.any_eq_true.2 ⟨e, he, by simp⟩
    have hmoved : s.part.moveQueued f e.seat pos =
        { s.part with queues := upd s.part.queues f (fun _ => { x with entries := moveInClass e pos x.entries }) } := by
      rw [Part.moveQueued, s.part.updQueue_eq f _ x hw]
      simp only [find_seat_eq x.entries e he hnodup]
    obtain ⟨p, hexec, hanswer, hrecords⟩ := answersWith_of_taken _ s _ (e.seat, pos) moveOwner _ hx hr
      (moveOwner_of_queued s.part e.seat pos f ⟨h1, h96, hp1, hp32⟩ htakes hqueued) rfl
    have hlike : (s.part.moveQueued f e.seat pos).Like p := hrecords
    have hat : (s.part.moveQueued f e.seat pos).queueAt f = { x with entries := moveInClass e pos x.entries } := by
      rw [hmoved, Part.queueAt, nth_upd_same, hw]; rfl
    have hmem : e ∈ moveInClass e pos x.entries := by
      have hclass : ∀ cls, e.cls = cls → e ∈ moveTo e pos (x.entries.filter (fun y => decide (y.cls = cls))) := fun cls hcls =>
        mem_moveTo e pos _ (List.mem_filter.2 ⟨he, by simpa using hcls⟩) (hnodup.sublist ((List.filter_sublist).map _))
      rw [moveInClass_eq e pos _ he hnodup]
      cases hcls : e.cls with
      | priority => rw [if_pos rfl]; exact List.mem_append_left _ (hclass _ hcls)
      | ordinary => rw [if_neg (by decide)]; exact List.mem_append_right _ (hclass _ hcls)
    have hposition := (s.part.moveQueued f e.seat pos).queuePosition_spec f e.seat e (by rw [hat]; exact hmem) rfl
    obtain ⟨i, hi, hplace⟩ := hposition
    refine ⟨p, hexec, ?_, ⟨i, by rw [hlike.queueAt]; exact hi, ?_⟩, fun g hg => ?_, ?_⟩
    · rw [hlike.queueAt, hat, moveInClass_eq e pos _ he hnodup]
      rfl
    · rw [hanswer]
      simp only [Part.doneWith, hplace]
    · rw [hlike.queueAt, hmoved]
      exact Part.queueAt_other (p := s.part) rfl hg
    · rw [hrecords, hlike.queues, hmoved]
      rfl

/-! ### Every delegate closed -/

/-- `q` is `p` after the seats of a list have been closed on floor `f` as forced closes, none of them with a hold (R91, R111). -/
structure Part.ForceClosed (p q : Part) (f : Nat) (fl : Floor) (gone : Nat → Bool) : Prop where
  rest : q = { p with floors := upd p.floors f (fun _ => fl.keeps (fun a => !gone a)), seats := q.seats }
  seats : ∀ n, nth q.seats n = (nth p.seats n).map (fun x =>
    if gone n then { x with guardUntil := some (p.now + Config.guard) } else x)

section
variable {p q : Part} {f : Nat} {fl : Floor} {gone : Nat → Bool}

theorem Part.ForceClosed.nobody (hfl : nth p.floors f = some fl) : p.ForceClosed p f fl (fun _ => false) where
  rest := by
    have hkeeps : fl.keeps (fun _ => true) = fl := by simp [Floor.keeps]
    rw [show (fun _ : Nat => !false) = fun _ => true from rfl, hkeeps, upd_self p.floors f fl hfl]
  seats n := by simp

theorem Part.ForceClosed.priorityHeld (h : p.ForceClosed q f fl gone) (n : Nat) :
    (q.seatAt n).priorityHeld = (p.seatAt n).priorityHeld := by
  rw [Part.seatAt, Part.seatAt, h.seats n]
  cases nth p.seats n with
  | none => rfl
  | some x => by_cases hg : gone n = true <;> simp [hg]

theorem Part.ForceClosed.forceClose (h : p.ForceClosed q f fl gone) (n : Nat) (hfree : (p.seatAt n).priorityHeld = false) :
    p.ForceClosed (q.forceClose f n) f fl (fun a => gone a || a == n) := by
  have hrest := h.rest
  have hfloors := congrArg Part.floors hrest
  have hnow : q.now = p.now := (congrArg Part.now hrest).trans rfl
  dsimp only at hfloors
  rw [q.forceClose_free f n ((h.priorityHeld n).trans hfree)]
  constructor
  · have hkeeps : (fl.keeps (fun a => !gone a)).without n = fl.keeps (fun a => !(gone a || a == n)) := by
      rw [fl.keeps_without]
      simp only [Bool.not_or]
      rfl
    have hwritten : upd q.floors f (fun fl => fl.without n) = upd p.floors f (fun _ => fl.keeps (fun a => !(gone a || a == n))) := by
      rw [hfloors, upd_upd, hkeeps]
    generalize hX : ((q.dropEntry f n).setGuard n).seats = X
    have hclosed : (q.dropEntry f n).setGuard n = { q with floors := upd q.floors f (fun fl => fl.without n), seats := X } := by
      rw [← hX]; rfl
    rw [hclosed, hwritten]
    exact congrArg (fun r : Part =>
      { r with floors := upd p.floors f (fun _ => fl.keeps (fun a => !(gone a || a == n))), seats := X }) hrest
  · intro m
    change nth (upd q.seats n (fun x => { x with guardUntil := some (q.now + Config.guard) })) m = _
    by_cases hm : m = n
    · subst hm
      rw [nth_upd_same, h.seats m, hnow]
      cases nth p.seats m with
      | none => rfl
      | some x => cases gone m <;> simp
    · rw [nth_upd_ne _ _ _ _ (Ne.symm hm), h.seats m]
      simp [hm]

theorem Part.ForceClosed.forceCloseAll (seats : List Nat) (hfree : ∀ n ∈ seats, (p.seatAt n).priorityHeld = false) :
    ∀ (q : Part) (gone : Nat → Bool), p.ForceClosed q f fl gone →
      p.ForceClosed (q.forceCloseAll f seats) f fl (fun a => gone a || seats.contains a) := by
  induction seats with
  | nil => intro q gone h; simpa [Part.forceCloseAll] using h
  | cons n seats ih =>
    intro q gone h
    have hrest := ih (fun m hm => hfree m (List.mem_cons_of_mem _ hm)) _ _ (h.forceClose n (hfree n (by simp)))
    have hgone : (fun a => (gone a || a == n) || seats.contains a) = (fun a => gone a || (n :: seats).contains a) := by
      funext a
      rw [List.contains_cons, Bool.or_assoc]
    rw [hgone] at hrest
    exact hrest

end

/-- Where each seat stands once, the delegates' seats are those that no chair's entry names. -/
theorem Floor.delegateSeats_contains (fl : Floor) (hnodup : (fl.openList.map (fun e => e.seat)).Nodup) (e : OpenEntry)
    (he : e ∈ fl.openList) : fl.delegateSeats.contains e.seat = decide (e.cls = .delegate) := by
  rw [Bool.eq_iff_iff, List.contains_iff_mem, Floor.delegateSeats, List.mem_map, decide_eq_true_eq]
  constructor
  · rintro ⟨a, ha, hseat⟩
    obtain ⟨ha, hcls⟩ := List.mem_filter.1 ha
    have hsame : a = e := List.inj_on_of_nodup_map hnodup ha he hseat
    rw [← hsame]
    simpa using hcls
  · exact fun hcls => ⟨e, List.mem_filter.2 ⟨he, by simpa using hcls⟩, rfl⟩

/-- What CANCEL_ALL and CANCEL_FLOOR leave of a floor whose delegates hold no priority (R98, R103, R128). -/
structure Part.Cancelled (p q : Part) (f : Nat) (fl : Floor) : Prop where
  rest : q = { p with
    floors := upd p.floors f (fun _ => { fl with openList := fl.openList.filter (fun e => decide (e.cls = .chair)) })
    queues := upd p.queues f (fun w => { w with entries := [] })
    seats := q.seats }
  seats : ∀ n, nth q.seats n = (nth p.seats n).map (fun x =>
    if n ∈ fl.delegateSeats then { x with guardUntil := some (p.now + Config.guard) } else x)

theorem Part.cancelAll_cancelled (p : Part) (f : Nat) (fl : Floor) (hfl : nth p.floors f = some fl)
    (hfree : ∀ e ∈ fl.openList, e.cls = .delegate → (p.seatAt e.seat).priorityHeld = false)
    (hnodup : (fl.openList.map (fun e => e.seat)).Nodup) : p.Cancelled (p.cancelAll f) f fl := by
  have hfree' : ∀ n ∈ fl.delegateSeats, (p.seatAt n).priorityHeld = false := by
    intro n hn
    obtain ⟨e, he, rfl⟩ := List.mem_map.1 hn
    obtain ⟨he, hcls⟩ := List.mem_filter.1 he
    exact hfree e he (by simpa using hcls)
  have h := Part.ForceClosed.forceCloseAll fl.delegateSeats hfree' p _ (Part.ForceClosed.nobody hfl)
  simp only [Bool.false_or] at h
  have hkeeps : fl.keeps (fun a => !fl.delegateSeats.contains a) =
      { fl with openList := fl.openList.filter (fun e => decide (e.cls = .chair)) } := by
    have hchair : ∀ e ∈ fl.openList, (!fl.delegateSeats.contains e.seat) = decide (e.cls = .chair) := fun e he => by
      rw [fl.delegateSeats_contains hnodup e he]
      cases e.cls <;> rfl
    rw [Floor.keeps, List.filter_congr hchair]
  have hrest := h.rest
  rw [hkeeps] at hrest
  rw [Part.cancelAll, p.floorAt_of_nth f fl hfl]
  generalize p.forceCloseAll f fl.delegateSeats = c at h hrest
  refine ⟨?_, fun n => ?_⟩
  · have hqueues := (congrArg Part.queues hrest).trans rfl
    rw [Part.emptyQueue, Part.updQueue, hqueues]
    rw [hrest]
  · exact (h.seats n).trans (congrArg (fun g : Seat → Seat => (nth p.seats n).map g) (funext fun x => by
      simp only [List.contains_iff_mem]))

theorem Part.Cancelled.outside {p q : Part} {f : Nat} {fl : Floor} (h : p.Cancelled q f fl) :
    q.records = { p.records with seats := q.records.seats, floors := q.floors, queues := q.queues } := by
  have hfloors := congrArg Part.floors h.rest
  have hqueues := congrArg Part.queues h.rest
  refine (congrArg Part.records h.rest).trans ?_
  rw [hfloors, hqueues]
  rfl

/-! ### CANCEL_FLOOR -/

theorem exec_cancelFloor (s : State) (f : Nat) (h : f < 256) :
    exec (.cancelFloor (byte f)) s = s.become (s.part.request 0x25 (some f) cancelOwner) := by
  rw [← parseByte_byte f h]; rfl

theorem floorFits_iff (f : Nat) : floorFits f = true ↔ 1 ≤ f ∧ f ≤ 4 := by
  simp [floorFits, Config.floors]

theorem cancelOwner_of_range (p : Part) (f : Nat) (h : ¬ (1 ≤ f ∧ f ≤ 4)) : cancelOwner f p = p.refuse .badValue := by
  have hfit : floorFits f = false := by rwa [← Bool.not_eq_true, floorFits_iff]
  simp [cancelOwner, hfit]

theorem cancelOwner_of_notLive (p : Part) (f : Nat) (h : 1 ≤ f ∧ f ≤ 4) (hs : (p.floorAt f).state ≠ .live) :
    cancelOwner f p = p.refuse .notAllowed := by
  simp [cancelOwner, (floorFits_iff f).2 h, Part.floorTakes, hs]

theorem cancelOwner_of_live (p : Part) (f : Nat) (h : 1 ≤ f ∧ f ≤ 4) (ha : p.control.tableState = .awake)
    (hs : (p.floorAt f).state = .live) : cancelOwner f p = (p.cancelAll f).done := by
  simp [cancelOwner, (floorFits_iff f).2 h, Part.floorTakes, hs, ha]

/-- Settles O32: the delegates of the floor closed one after the other, and its queue emptied. -/
theorem cancelFloorClearsTheFloor : Obligations.CancelFloorClearsTheFloor := by
  intro s f hr hawake hf
  have hx := exec_cancelFloor s f hf
  have refuse := fun st => answers_of_refused _ s _ f cancelOwner st hx hr
  refine ⟨fun hout => refuse _ (cancelOwner_of_range s.part f hout) rfl, fun h1 h4 => ⟨fun hs =>
    refuse _ (cancelOwner_of_notLive s.part f ⟨h1, h4⟩ hs) rfl, fun fl hfl hlive hfree hnodup => ?_⟩⟩
  have hlive' : (s.part.floorAt f).state = .live := by rw [s.part.floorAt_of_nth f fl hfl]; exact hlive
  obtain ⟨p, hexec, hanswer, hrecords⟩ := answersWith_of_taken _ s _ f cancelOwner _ hx hr
    (cancelOwner_of_live s.part f ⟨h1, h4⟩ hawake hlive') rfl
  have hlike : (s.part.cancelAll f).Like p := hrecords
  have hc := s.part.cancelAll_cancelled f fl hfl hfree hnodup
  have hfloors := congrArg Part.floors hc.rest
  have hqueues := congrArg Part.queues hc.rest
  have hqueue : p.queueAt f = { s.part.queueAt f with entries := [] } := by
    rw [hlike.queueAt, Part.queueAt, hqueues, nth_upd_same, Part.queueAt]
    cases nth s.part.queues f <;> rfl
  refine ⟨p, hexec, hanswer, (hlike.floorAt f).trans (Part.floorAt_written hfloors hfl), by rw [hqueue], by rw [hqueue],
    fun n x hx => ?_, fun g hg => ⟨(hlike.floorAt g).trans (Part.floorAt_other hfloors hg),
      (hlike.queueAt g).trans (Part.queueAt_other hqueues hg)⟩, ?_⟩
  · rw [hlike.seatAt n, Part.seatAt, hc.seats n, hx]
    rfl
  · rw [hlike.floors, hlike.queues]
    exact hlike.trans (hc.outside.trans (by rw [hlike]))

end Sys2Proof.Machine
end

section
/-! Timed events at a floor (O33). -/

namespace Sys2Proof.Machine

/-! ### Events at a floor -/

theorem exec_speakingWarning (s : State) (f n : Nat) :
    exec (.speakingWarning f n) s = s.become (s.part.event (fun p => if p.isLive f then p.takeWarning f n else p)) := rfl

theorem exec_allowanceExpiry (s : State) (f n : Nat) :
    exec (.allowanceExpiry f n) s = s.become (s.part.event (fun p => if p.isLive f then p.expireEntry f n else p)) := rfl

theorem exec_lifetimeExpiry (s : State) (f : Nat) :
    exec (.lifetimeExpiry f) s = s.become (s.part.event (fun p => p.expireQueue f)) := rfl

theorem exec_guardEnd (s : State) (n : Nat) : exec (.guardEnd n) s = s.become (s.part.event (fun p => p.reachGuard n)) := rfl

/-! ### The timers of one entry -/

/-- An entry's time left is at the lead, or below it (R105). -/
theorem OpenEntry.within_of (e : OpenEntry) (lead : Nat) (hc : e.cls = .delegate) (h0 : e.allowanceUsed ≠ 0)
    (h : e.allowanceUsed ≤ e.spokenS + lead) : e.within lead = true := by
  simp [OpenEntry.within, hc, h0, h]

theorem OpenEntry.within_not (e : OpenEntry) (lead : Nat)
    (h : e.cls = .chair ∨ e.allowanceUsed = 0 ∨ e.spokenS + lead < e.allowanceUsed) : e.within lead = false := by
  rcases h with h | h | h
  · simp [OpenEntry.within, h]
  · simp [OpenEntry.within, h]
  · simp [OpenEntry.within, Nat.not_le.2 h]

/-- The floor with the entry of one seat written. -/
def Floor.withEntry (fl : Floor) (n : Nat) (g : OpenEntry → OpenEntry) : Floor :=
  { fl with openList := fl.openList.map (fun e => if e.seat = n then g e else e) }

section
variable {p : Part} {f n : Nat} {fl : Floor} {q : FloorParams} {e : OpenEntry}

theorem Part.updEntry_eq (hfl : nth p.floors f = some fl) (g : OpenEntry → OpenEntry) :
    p.updEntry f n g = { p with floors := upd p.floors f (fun _ => fl.withEntry n g) } :=
  p.updFloor_eq f _ fl hfl

theorem Part.openEntry_of (hfl : nth p.floors f = some fl) (he : fl.openList.find? (fun x => x.seat == n) = some e) :
    p.openEntry f n = some e := by
  rw [Part.openEntry, p.floorAt_of_nth f fl hfl, he]

theorem Part.lead_of (hfl : nth p.floors f = some fl) (hq : fl.params = some q) : (p.floorAt f).par = q := by
  rw [p.floorAt_of_nth f fl hfl, fl.par_some q hq]

/-- A warning that falls (R105). -/
theorem Part.warnEntry_falls (hfl : nth p.floors f = some fl) (hq : fl.params = some q)
    (he : fl.openList.find? (fun x => x.seat == n) = some e) (hin : e.within q.warningLead = true) (hw : e.warned = false) :
    p.warnEntry f n = p.updEntry f n (fun e => { e with warned := true }) := by
  simp [Part.warnEntry, Part.openEntry_of hfl he, Part.lead_of hfl hq, hin, hw]

theorem Part.warnEntry_not (hfl : nth p.floors f = some fl) (hq : fl.params = some q)
    (he : fl.openList.find? (fun x => x.seat == n) = some e) (h : e.within q.warningLead = false ∨ e.warned = true) :
    p.warnEntry f n = p := by
  rcases h with h | h <;> simp [Part.warnEntry, Part.openEntry_of hfl he, Part.lead_of hfl hq, h]

theorem Part.expireEntry_not (hfl : nth p.floors f = some fl) (he : fl.openList.find? (fun x => x.seat == n) = some e)
    (h : e.within 0 = false ∨ e.overtime = true) : p.expireEntry f n = p := by
  rcases h with h | h <;> simp [Part.expireEntry, Part.openEntry_of hfl he, h]

theorem Part.expireEntry_warnOnly (hfl : nth p.floors f = some fl) (hq : fl.params = some q)
    (he : fl.openList.find? (fun x => x.seat == n) = some e) (hin : e.within 0 = true) (ho : e.overtime = false)
    (ha : q.expiryAction = .warnOnly) :
    p.expireEntry f n = (p.warnEntry f n).updEntry f n (fun e => { e with overtime := true }) := by
  simp [Part.expireEntry, Part.openEntry_of hfl he, Part.lead_of hfl hq, hin, ho, ha]

theorem Part.expireEntry_close (hfl : nth p.floors f = some fl) (hq : fl.params = some q)
    (he : fl.openList.find? (fun x => x.seat == n) = some e) (hin : e.within 0 = true) (ho : e.overtime = false)
    (ha : q.expiryAction = .close) : p.expireEntry f n = p.closeThenGrant f n true := by
  simp [Part.expireEntry, Part.openEntry_of hfl he, Part.lead_of hfl hq, hin, ho, ha]

/-- At a lead that is not 0, or with the warning given, the warning alone is taken (R105). -/
theorem Part.takeWarning_alone (hfl : nth p.floors f = some fl) (hq : fl.params = some q)
    (he : fl.openList.find? (fun x => x.seat == n) = some e) (h : q.warningLead ≠ 0 ∨ e.warned = true) :
    p.takeWarning f n = p.warnEntry f n := by
  rcases h with h | h <;> simp [Part.takeWarning, Part.openEntry_of hfl he, Part.lead_of hfl hq, h]

/-- At a lead of 0 the warning and the expiry fall together (R105). -/
theorem Part.takeWarning_expires (hfl : nth p.floors f = some fl) (hq : fl.params = some q)
    (he : fl.openList.find? (fun x => x.seat == n) = some e) (hlead : q.warningLead = 0) (hw : e.warned = false) :
    p.takeWarning f n = (p.warnEntry f n).expireEntry f n := by
  simp [Part.takeWarning, Part.openEntry_of hfl he, Part.lead_of hfl hq, hlead, hw]

/-- The entry of a seat after it has been written. -/
theorem Floor.find_withEntry (g : OpenEntry → OpenEntry) (hg : ∀ x, (g x).seat = x.seat)
    (he : fl.openList.find? (fun x => x.seat == n) = some e) :
    (fl.withEntry n g).openList.find? (fun x => x.seat == n) = some (g e) := by
  have hseat : e.seat = n := by simpa using List.find?_some he
  have hkeep : ((fun x : OpenEntry => x.seat == n) ∘ fun x => if x.seat = n then g x else x) = fun x => x.seat == n := by
    funext x
    by_cases hx : x.seat = n <;> simp [hx, hg]
  rw [Floor.withEntry, List.find?_map, hkeep, he]
  simp [hseat]

theorem Floor.withEntry_withEntry (fl : Floor) (n : Nat) (g h : OpenEntry → OpenEntry) (hg : ∀ x, (g x).seat = x.seat) :
    (fl.withEntry n g).withEntry n h = fl.withEntry n (fun x => h (g x)) := by
  have hcomp : ((fun x => if x.seat = n then h x else x) ∘ fun x => if x.seat = n then g x else x) =
      fun x : OpenEntry => if x.seat = n then h (g x) else x := by
    funext x
    by_cases hx : x.seat = n <;> simp [hx, hg]
  simp only [Floor.withEntry, List.map_map, hcomp]

/-- Where each seat stands once, the entry of a seat that is written as it is stays. -/
theorem Floor.withEntry_congr (g h : OpenEntry → OpenEntry) (hnodup : (fl.openList.map (fun x => x.seat)).Nodup)
    (he : fl.openList.find? (fun x => x.seat == n) = some e) (hgh : g e = h e) : fl.withEntry n g = fl.withEntry n h := by
  have hseat : e.seat = n := by simpa using List.find?_some he
  have hsame : ∀ x ∈ fl.openList, (if x.seat = n then g x else x) = if x.seat = n then h x else x := by
    intro x hx
    by_cases hxn : x.seat = n
    · have : x = e := List.inj_on_of_nodup_map hnodup hx (List.mem_of_find?_eq_some he) (hxn.trans hseat.symm)
      subst this
      rw [if_pos hxn, if_pos hxn, hgh]
    · rw [if_neg hxn, if_neg hxn]
  rw [Floor.withEntry, List.map_congr_left hsame]
  rfl

/-- An entry written twice. -/
theorem Part.updEntry_written (hfl : nth p.floors f = some fl) (g h : OpenEntry → OpenEntry) (hg : ∀ x, (g x).seat = x.seat) :
    ({ p with floors := upd p.floors f (fun _ => fl.withEntry n g) } : Part).updEntry f n h =
      { p with floors := upd p.floors f (fun _ => fl.withEntry n (fun x => h (g x))) } := by
  have hnth : nth (upd p.floors f (fun _ => fl.withEntry n g)) f = some (fl.withEntry n g) := by
    rw [nth_upd_same, hfl]; rfl
  refine (Part.updEntry_eq (p := { p with floors := upd p.floors f (fun _ => fl.withEntry n g) }) hnth h).trans ?_
  simp only [upd_upd, fl.withEntry_withEntry n g h hg]

/-- A forced close with no grant behind it (R91, R95). -/
theorem Part.closeThenGrant_forced_idle (p : Part) (f n : Nat) (hfree : (p.seatAt n).priorityHeld = false)
    (hidle : (p.floorAt f).par.mode = .moderated ∨ (p.queueAt f).entries = []) :
    p.closeThenGrant f n true = (p.dropEntry f n).setGuard n := by
  have hdoors := ((Part.SameDoors.rfl' p).dropEntry f n).setGuard n
  have hpar : (((p.dropEntry f n).setGuard n).floorAt f).par = (p.floorAt f).par := congrArg (fun fl => fl.par) (hdoors.shell f)
  have hgrant := Part.autoGrant_idle _ f (Part.grantReady_false ((p.dropEntry f n).setGuard n) f (by rw [hpar]; exact hidle))
  simp only [Part.closeThenGrant, if_true, p.forceClose_free f n hfree, hgrant, ite_self]

/-- An expiry under WARN_ONLY: warned, and overtime (R106). -/
theorem Part.expireEntry_overtime (hfl : nth p.floors f = some fl) (hq : fl.params = some q)
    (he : fl.openList.find? (fun x => x.seat == n) = some e) (hnodup : (fl.openList.map (fun x => x.seat)).Nodup)
    (hc : e.cls = .delegate) (h0 : e.allowanceUsed ≠ 0) (hin : e.allowanceUsed ≤ e.spokenS) (ho : e.overtime = false)
    (ha : q.expiryAction = .warnOnly) :
    p.expireEntry f n =
      { p with floors := upd p.floors f (fun _ => fl.withEntry n (fun x => { x with warned := true, overtime := true })) } := by
  rw [Part.expireEntry_warnOnly hfl hq he (e.within_of 0 hc h0 hin) ho ha]
  cases hw : e.warned with
  | true =>
    rw [Part.warnEntry_not hfl hq he (.inr hw), Part.updEntry_eq hfl]
    rw [fl.withEntry_congr (fun x => { x with overtime := true }) (fun x => { x with warned := true, overtime := true }) hnodup he
      (by rw [← hw])]
  | false =>
    rw [Part.warnEntry_falls hfl hq he (e.within_of _ hc h0 (by omega)) hw, Part.updEntry_eq hfl]
    exact Part.updEntry_written hfl _ _ fun _ => rfl

/-- An expiry under CLOSE, with no grant behind it: a forced close (R106). -/
theorem Part.expireEntry_closes (hfl : nth p.floors f = some fl) (hq : fl.params = some q)
    (he : fl.openList.find? (fun x => x.seat == n) = some e) (hc : e.cls = .delegate) (h0 : e.allowanceUsed ≠ 0)
    (hin : e.allowanceUsed ≤ e.spokenS) (ho : e.overtime = false) (ha : q.expiryAction = .close)
    (hfree : (p.seatAt n).priorityHeld = false) (hidle : q.mode = .moderated ∨ (p.queueAt f).entries = []) :
    p.expireEntry f n = (p.dropEntry f n).setGuard n := by
  rw [Part.expireEntry_close hfl hq he (e.within_of 0 hc h0 hin) ho ha,
    p.closeThenGrant_forced_idle f n hfree (by rw [Part.lead_of hfl hq]; exact hidle)]

end

/-! ### The floor's own events -/

section
variable {s : State} {f n : Nat} {fl : Floor} {q : FloorParams} {e : OpenEntry}

theorem Part.isLive_of {p : Part} (hfl : nth p.floors f = some fl) (hlive : fl.state = .live) : p.isLive f = true := by
  rw [Part.isLive, p.floorAt_of_nth f fl hfl, hlive]; rfl

/-- SPEAKING_WARNING at a LIVE floor. -/
theorem leaves_speakingWarning (hr : s.runs) (hfl : nth s.part.floors f = some fl) (hlive : fl.state = .live) (A : Part)
    (hA : s.part.takeWarning f n = A) (ha : A.answer = s.part.answer) : Leaves (.speakingWarning f n) s A.records :=
  leaves_of_event _ s _ A (exec_speakingWarning s f n) hr (by rw [if_pos (Part.isLive_of hfl hlive)]; exact hA) ha

/-- ALLOWANCE_EXPIRY at a LIVE floor. -/
theorem leaves_allowanceExpiry (hr : s.runs) (hfl : nth s.part.floors f = some fl) (hlive : fl.state = .live) (A : Part)
    (hA : s.part.expireEntry f n = A) (ha : A.answer = s.part.answer) : Leaves (.allowanceExpiry f n) s A.records :=
  leaves_of_event _ s _ A (exec_allowanceExpiry s f n) hr (by rw [if_pos (Part.isLive_of hfl hlive)]; exact hA) ha

/-- A warning that falls alone (R105): the lead is not 0, or the entry is overtime already. -/
theorem Part.takeWarning_falls {p : Part} (hfl : nth p.floors f = some fl) (hq : fl.params = some q)
    (he : fl.openList.find? (fun x => x.seat == n) = some e) (hin : e.within q.warningLead = true) (hw : e.warned = false)
    (halone : q.warningLead ≠ 0 ∨ e.overtime = true) :
    p.takeWarning f n = { p with floors := upd p.floors f (fun _ => fl.withEntry n (fun x => { x with warned := true })) } := by
  have hwarn := (Part.warnEntry_falls hfl hq he hin hw).trans (Part.updEntry_eq hfl _)
  by_cases hlead : q.warningLead = 0
  · have ho : e.overtime = true := halone.resolve_left fun h => h hlead
    rw [Part.takeWarning_expires hfl hq he hlead hw, hwarn]
    refine Part.expireEntry_not (fl := fl.withEntry n (fun x => { x with warned := true })) ?_
      (Floor.find_withEntry _ (fun _ => rfl) he) (.inr ho)
    rw [nth_upd_same, hfl]; rfl
  · rw [Part.takeWarning_alone hfl hq he (.inl hlead), hwarn]

/-- An entry whose time has not come, or that is warned, is left as it is (R105). -/
theorem Part.takeWarning_not {p : Part} (hfl : nth p.floors f = some fl) (hq : fl.params = some q)
    (he : fl.openList.find? (fun x => x.seat == n) = some e) (h : e.within q.warningLead = false ∨ e.warned = true) :
    p.takeWarning f n = p := by
  have hwarn := Part.warnEntry_not hfl hq he h
  by_cases hboth : q.warningLead = 0 ∧ e.warned = false
  · obtain ⟨hlead, hw⟩ := hboth
    have hout : e.within 0 = false := by
      rcases h with h | h
      · rwa [hlead] at h
      · rw [hw] at h; cases h
    rw [Part.takeWarning_expires hfl hq he hlead hw, hwarn, Part.expireEntry_not hfl he (.inl hout)]
  · have halone : q.warningLead ≠ 0 ∨ e.warned = true := by
      rcases Decidable.not_and_iff_or_not.1 hboth with h | h
      · exact .inl h
      · exact .inr (by simpa using h)
    rw [Part.takeWarning_alone hfl hq he halone, hwarn]

/-- The part whose entry has been warned. -/
def Part.warnedAt (p : Part) (f n : Nat) (fl : Floor) : Part :=
  { p with floors := upd p.floors f (fun _ => fl.withEntry n (fun x => { x with warned := true })) }

/-- At a lead of 0 the expiry follows the warning (R105). -/
theorem Part.takeWarning_then {p : Part} (hfl : nth p.floors f = some fl) (hq : fl.params = some q)
    (he : fl.openList.find? (fun x => x.seat == n) = some e) (hlead : q.warningLead = 0) (hw : e.warned = false)
    (hin : e.within 0 = true) :
    p.takeWarning f n = (p.warnedAt f n fl).expireEntry f n := by
  rw [Part.takeWarning_expires hfl hq he hlead hw, Part.warnEntry_falls hfl hq he (by rw [hlead]; exact hin) hw, Part.updEntry_eq hfl]
  rfl

end

theorem Floor.withEntry_seats (fl : Floor) (n : Nat) (g : OpenEntry → OpenEntry) (hg : ∀ x, (g x).seat = x.seat) :
    (fl.withEntry n g).openList.map (fun x => x.seat) = fl.openList.map (fun x => x.seat) := by
  rw [Floor.withEntry, List.map_map]
  refine List.map_congr_left fun x _ => ?_
  by_cases hx : x.seat = n <;> simp [hx, hg]

theorem Floor.without_withEntry (fl : Floor) (n : Nat) (g : OpenEntry → OpenEntry) (hg : ∀ x, (g x).seat = x.seat) :
    (fl.withEntry n g).without n = fl.without n := by
  rw [Floor.withEntry, Floor.without, Floor.without]
  have hcomp : ((fun x : OpenEntry => x.seat != n) ∘ fun x => if x.seat = n then g x else x) = fun x => x.seat != n := by
    funext x
    by_cases hx : x.seat = n <;> simp [hx, hg]
  have hmap : (fl.openList.filter (fun x => x.seat != n)).map (fun x => if x.seat = n then g x else x) =
      fl.openList.filter (fun x => x.seat != n) := by
    refine (List.map_congr_left fun x hx => ?_).trans (List.map_id _)
    have hne : x.seat ≠ n := by simpa using (List.mem_filter.1 hx).2
    rw [if_neg hne]; rfl
  simp only [List.filter_map, hcomp, hmap]

/-! ### Waits and guards -/

theorem Part.expireQueue_none (p : Part) (f : Nat) (q : FloorParams) (hq : (p.floorAt f).params = some q) (h : q.lifetime = 0) :
    p.expireQueue f = p := by
  simp [Part.expireQueue, Floor.par_some _ q hq, h]

theorem Part.expireQueue_some (p : Part) (f : Nat) (q : FloorParams) (hq : (p.floorAt f).params = some q) (h : q.lifetime ≠ 0) :
    p.expireQueue f =
      { p with queues := upd p.queues f (fun x =>
        { x with entries := x.entries.filter (fun e => decide (e.waitedS < q.lifetime * 60)) }) } := by
  simp only [Part.expireQueue, Floor.par_some _ q hq, if_neg h]
  rfl

theorem Seat.endGuard_reached (t g : Nat) (x : Seat) (hg : x.guardUntil = some g) (h : g ≤ t) :
    x.endGuard t = { x with guardUntil := none } := by
  simp [Seat.endGuard, hg, h]

theorem Seat.endGuard_none (t : Nat) (x : Seat) (hg : x.guardUntil = none) : x.endGuard t = x := by
  simp [Seat.endGuard, hg]

theorem Part.passTime_now (p : Part) (t : Nat) : (p.passTime t).now = max p.now t := by
  rw [Part.passTime]
  split
  · omega
  · simp only
    omega

/-- A guard whose time is reached is absent (R111). -/
theorem Part.reachGuard_absent (p : Part) (n g : Nat) (hg : (p.seatAt n).guardUntil = some g) :
    ((p.reachGuard n).seatAt n).guardUntil = none := by
  have hnth : nth p.seats n = some (p.seatAt n) := by
    rw [Part.seatAt] at hg ⊢
    cases h : nth p.seats n with
    | none => rw [h] at hg; cases hg
    | some x => rfl
  have hreach : p.reachGuard n = (p.passTime g).updSeat n (Seat.endGuard (max p.now g)) := by simp [Part.reachGuard, hg]
  have hseat : nth (p.passTime g).seats n = some (p.seatAt n) ∨
      nth (p.passTime g).seats n = some ((p.seatAt n).endGuard g) := by
    rw [Part.passTime]
    split
    · exact .inl hnth
    · right
      cases n with
      | zero => cases hnth
      | succ k =>
        simp only [nth] at hnth ⊢
        rw [List.getElem?_map, show (p.countSeconds _).seats = p.seats from rfl, hnth]
        rfl
  rw [hreach]
  rcases hseat with h | h
  · rw [Part.seatAt_updSeat_same _ n _ _ h, Seat.endGuard_reached _ g _ hg (Nat.le_max_right _ _)]
  · rw [Part.seatAt_updSeat_same _ n _ _ h, Seat.endGuard_reached g g _ hg (Nat.le_refl _), Seat.endGuard_none _ _ rfl]

/-- What GUARD_END leaves alone, whether the timebase goes on or not. -/
theorem Part.reachGuard_rest (p : Part) (n g : Nat) (hg : (p.seatAt n).guardUntil = some g) :
    (p.reachGuard n).now = max p.now g ∧ (p.reachGuard n).answer = p.answer ∧ (p.reachGuard n).slots = p.slots ∧
      (p.reachGuard n).clock = p.clock ∧ (p.reachGuard n).settings = p.settings ∧ (p.reachGuard n).control = p.control := by
  have hreach : p.reachGuard n = (p.passTime g).updSeat n (Seat.endGuard (max p.now g)) := by simp [Part.reachGuard, hg]
  rw [hreach]
  exact ⟨p.passTime_now g, p.passTime_answer g, p.passTime_slots g, p.passTime_clock g, p.passTime_settings g, p.passTime_control g⟩

theorem leaves_congr {c : Instr} {s : State} {r r' : Records} (h : Leaves c s r) (hr : r = r') : Leaves c s r' := hr ▸ h

/-- Settles O33: the warning and the expiry of one entry, the wait of a queue, and the guard of a seat. -/
theorem speakingTimeWaitsAndGuardsEnd : Obligations.SpeakingTimeWaitsAndGuardsEnd := by
  refine ⟨fun s f n fl q e hr hfl hlive hq he => ⟨?falls, ?warned⟩, fun s f n fl q e hr hfl hlive hq he hnodup => ⟨?expires, ?left⟩,
    fun s f q hr hq => ⟨fun h => ?waits, fun h => ?none⟩, fun s n g hr hg => ⟨?guard, fun h => ?reached⟩⟩
  case falls =>
    intro hc h0 hin hw halone
    exact leaves_speakingWarning hr hfl hlive _ (Part.takeWarning_falls hfl hq he (e.within_of _ hc h0 hin) hw halone) rfl
  case warned =>
    intro h
    refine leaves_speakingWarning hr hfl hlive s.part (Part.takeWarning_not hfl hq he ?_) rfl
    rcases h with h | h | h | h
    · exact .inl (e.within_not _ (.inl h))
    · exact .inl (e.within_not _ (.inr (.inl h)))
    · exact .inl (e.within_not _ (.inr (.inr h)))
    · exact .inr h
  case expires =>
    rintro c (rfl | ⟨rfl, hlead, hw⟩) hc h0 hin ho
    · refine ⟨fun ha => ?_, fun ha hfree hidle => ?_⟩
      · exact leaves_allowanceExpiry hr hfl hlive _ (Part.expireEntry_overtime hfl hq he hnodup hc h0 hin ho ha) rfl
      · refine leaves_congr (leaves_allowanceExpiry hr hfl hlive _
          (Part.expireEntry_closes hfl hq he hc h0 hin ho ha hfree hidle) rfl) ?_
        rw [Part.dropEntry, s.part.updFloor_eq f _ fl hfl]
        rfl
    · have hthen := Part.takeWarning_then hfl hq he hlead hw (e.within_of 0 hc h0 hin)
      have hnth : nth (s.part.warnedAt f n fl).floors f = some (fl.withEntry n (fun x => { x with warned := true })) := by
        rw [Part.warnedAt, nth_upd_same, hfl]; rfl
      have he' := Floor.find_withEntry (fun x => { x with warned := true }) (fun _ => rfl) he
      have hnodup' : ((fl.withEntry n (fun x => { x with warned := true })).openList.map (fun x => x.seat)).Nodup := by
        rw [fl.withEntry_seats n (fun x => { x with warned := true }) fun _ => rfl]; exact hnodup
      refine ⟨fun ha => ?_, fun ha hfree hidle => ?_⟩
      · rw [Part.expireEntry_overtime hnth hq he' hnodup' hc h0 hin ho ha] at hthen
        refine leaves_congr (leaves_speakingWarning hr hfl hlive _ hthen rfl) ?_
        simp only [Part.warnedAt, upd_upd, fl.withEntry_withEntry n (fun x => { x with warned := true }) _ fun _ => rfl]
        rfl
      · rw [Part.expireEntry_closes hnth hq he' hc h0 hin ho ha hfree hidle] at hthen
        refine leaves_congr (leaves_speakingWarning hr hfl hlive _ hthen rfl) ?_
        rw [Part.dropEntry, Part.updFloor_eq _ f _ _ hnth]
        simp only [Part.warnedAt, upd_upd]
        have hgone := fl.without_withEntry n (fun x => { x with warned := true }) fun _ => rfl
        exact congrArg (fun fl' => ({ s.part.records with
          seats := (upd s.part.seats n (fun x => { x with guardUntil := some (s.part.now + Config.guard) })).map Seat.quiet
          floors := upd s.part.floors f (fun _ => fl') } : Records)) hgone
  case left =>
    intro h
    refine leaves_allowanceExpiry hr hfl hlive s.part (Part.expireEntry_not hfl he ?_) rfl
    rcases h with h | h | h | h
    · exact .inl (e.within_not _ (.inl h))
    · exact .inl (e.within_not _ (.inr (.inl h)))
    · exact .inl (e.within_not _ (.inr (.inr h)))
    · exact .inr h
  case waits =>
    exact leaves_of_event _ s _ _ (exec_lifetimeExpiry s f) hr (s.part.expireQueue_some f q hq h) rfl
  case none =>
    exact leaves_of_event _ s _ s.part (exec_lifetimeExpiry s f) hr (s.part.expireQueue_none f q hq h) rfl
  case guard =>
    obtain ⟨hnow, hanswer, hslots, hclock, hsettings, hcontrol⟩ := s.part.reachGuard_rest n g hg
    obtain ⟨p, hexec, hpanswer, hrecords⟩ := leaves_of_event _ s _ _ (exec_guardEnd s n) hr rfl hanswer
    refine ⟨p, hexec, ?_, (congrArg Records.now hrecords).trans hnow, hpanswer, (congrArg Records.slots hrecords).trans hslots,
      (congrArg Records.clock hrecords).trans hclock, (congrArg Records.settings hrecords).trans hsettings,
      (congrArg Records.control hrecords).trans hcontrol⟩
    exact (Seat.of_quiet Seat.guardUntil (fun _ => rfl) (Part.seatAt_quiet_of_records hrecords n)).trans
      (s.part.reachGuard_absent n g hg)
  case reached =>
    have hnth : nth s.part.seats n = some (s.part.seatAt n) := by
      rw [Part.seatAt] at hg ⊢
      cases h : nth s.part.seats n with
      | none => rw [h] at hg; cases hg
      | some x => rfl
    have hreach : s.part.reachGuard n =
        { s.part with seats := upd s.part.seats n (fun x => { x with guardUntil := none }) } := by
      simp only [Part.reachGuard, hg, s.part.passTime_not_ahead g h, Part.updSeat]
      rw [upd_congr s.part.seats n _ (fun x => { x with guardUntil := none }) _ hnth
        (Seat.endGuard_reached _ g _ hg (Nat.le_max_right _ _))]
    exact leaves_of_event _ s _ _ (exec_guardEnd s n) hr hreach rfl

end Sys2Proof.Machine
end

section
/-! The whole seconds of the timebase (O34). -/

namespace Sys2Proof.Machine

theorem exec_timebaseSecond (s : State) :
    exec .timebaseSecond s = s.become (s.part.event (fun p => p.passTime (nextSecond p.now))) := rfl

theorem exec_rotationPhaseChange (s : State) (n : Nat) :
    exec (.rotationPhaseChange n) s = s.become (s.part.event (fun p => p.changePhase n)) := rfl

/-! ### Displays -/

theorem Display.passSecond_config (d : Display) : d.passSecond.config = d.config := by
  rw [Display.passSecond]
  split <;> rfl

/-- Whether a rotation runs depends on no open list (R139). -/
theorem Part.rotationRuns_congr (p q : Part) (h : ∀ g, (q.floorAt g).shell = (p.floorAt g).shell) (cfg : DisplayConfig) :
    q.rotationRuns cfg = p.rotationRuns cfg := by
  have hzone : q.floorOfZone = p.floorOfZone := funext fun z => by
    rw [Part.floorOfZone, Part.floorOfZone]
    exact congrArg (fun k => floorNumbers.find? k) (funext fun g => congrArg (fun fl => fl.holds z) (h g))
  have hstate : ∀ g, (q.floorAt g).state = (p.floorAt g).state := fun g => congrArg (fun fl => fl.state) (h g)
  simp only [Part.rotationRuns, hzone, hstate]

/-- A running rotation keeps its phase through a recompute (R139, R141). -/
theorem Part.recomputed_phase (p : Part) (d : Display) (h : p.rotationRuns d.config = true) :
    (p.recomputed d).phaseB = d.phaseB ∧ (p.recomputed d).phaseElapsedS = d.phaseElapsedS := by
  have hrest : p.restRotation d = d := by rw [Part.restRotation, if_pos h]
  rw [Part.recomputed, hrest]
  exact ⟨rfl, rfl⟩

theorem Part.event_displayAt (p : Part) (g : Part → Part) (hr : p.power = .running) (n : Nat) (d : Display)
    (h : nth (g p).displays n = some d) : (p.event g).displayAt n = (g p).recomputed d := by
  rw [Part.event, if_pos hr]
  exact p.settle_displayAt _ n d h

theorem nth_map_some {α β : Type} (g : α → β) (l : List α) (n : Nat) (a : α) (h : nth l n = some a) : nth (l.map g) n = some (g a) := by
  cases n with
  | zero => cases h
  | succ k =>
    simp only [nth, List.getElem?_map] at h ⊢
    rw [h]; rfl

/-- The floors after a second differ in their open lists alone. -/
theorem Part.countSeconds_shell (p : Part) (k g : Nat) : ((p.countSeconds k).floorAt g).shell = (p.floorAt g).shell := by
  change ((nth (p.floors.map _) g).getD startFloor).shell = ((nth p.floors g).getD startFloor).shell
  cases g with
  | zero => rfl
  | succ j =>
    simp only [nth, List.getElem?_map]
    cases p.floors[j]? <;> rfl

/-- A display with a running rotation after one second (R139). -/
theorem Part.event_second_display (p : Part) (t n : Nat) (d : Display) (hr : p.power = .running) (h : ¬ t ≤ p.now)
    (hone : t / Config.second - p.now / Config.second = 1) (hd : nth p.displays n = some d) (hruns : p.rotationRuns d.config = true) :
    ((p.event (fun q => q.passTime t)).displayAt n).phaseB = d.passSecond.phaseB ∧
      ((p.event (fun q => q.passTime t)).displayAt n).phaseElapsedS = d.passSecond.phaseElapsedS := by
  have hpass := p.passTime_ahead t 1 h hone
  have hnth : nth (p.passTime t).displays n = some d.passSecond := by
    rw [hpass]
    change nth (p.displays.map fun d => if p.rotationRuns d.config then Display.passSeconds 1 d else d) n = _
    rw [nth_map_some _ _ n d hd, if_pos hruns, Display.passSeconds_one]
  have hruns' : (p.passTime t).rotationRuns d.passSecond.config = true := by
    rw [d.passSecond_config, hpass, ← hruns]
    exact p.rotationRuns_congr _ (p.countSeconds_shell 1) d.config
  rw [p.event_displayAt (fun q => q.passTime t) hr n _ hnth]
  exact Part.recomputed_phase _ _ hruns'

/-- Settles O34: the second counted in each record, and the phase of a running rotation carried through the recompute. -/
theorem timebaseSecondCounts : Obligations.TimebaseSecondCounts := by
  refine ⟨fun s t hr ht => ?second, fun s n d hr hd hruns => ⟨fun hturns => ?turns, fun hstays => ?stays⟩⟩
  case second =>
    obtain ⟨hahead, hone⟩ := nextSecond_ahead s.part.now
    have hx : exec .timebaseSecond s = s.become (s.part.event (fun p => p.passTime (nextSecond p.now))) := exec_timebaseSecond s
    have hevent : s.part.event (fun p => p.passTime (nextSecond p.now)) = s.part.event (fun p => p.passTime t) := by
      rw [Part.event, Part.event, ht, nextSecond]
    rw [hevent] at hx
    rw [show nextSecond s.part.now = t from ht.symm] at hahead hone
    refine ⟨s.part.event (fun p => p.passTime t), ⟨hx, ?_⟩, ?_, fun n d hd hruns => ?_⟩
    · rw [s.part.event_answer _ hr, Part.passTime_answer]
    · rw [s.part.event_records _ hr, s.part.passTime_records t 1 hahead hone]
      rfl
    · obtain ⟨hphase, helapsed⟩ := s.part.event_second_display t n d hr hahead hone hd hruns
      rw [hphase, helapsed, Display.passSecond, Display.turns, Display.dwell]
      by_cases hturn : (if d.phaseB then d.config.dwellB else d.config.dwellA) ≤ d.phaseElapsedS + 1
      · rw [if_pos hturn, if_pos (decide_eq_true hturn)]
        exact ⟨rfl, rfl⟩
      · rw [if_neg hturn, if_neg (by simpa using hturn)]
        exact ⟨rfl, rfl⟩
  case turns =>
    have hready : (s.part.rotationRuns (s.part.displayAt n).config && (s.part.displayAt n).turns) = true := by
      rw [Part.displayAt, hd, Option.getD_some, hruns]
      exact decide_eq_true hturns
    rw [exec_rotationPhaseChange, exec_timebaseSecond, Part.event, Part.event, Part.changePhase, if_pos hready]
  case stays =>
    have hwait : ¬ (s.part.rotationRuns (s.part.displayAt n).config && (s.part.displayAt n).turns) = true := by
      rw [Part.displayAt, hd, Option.getD_some, hruns, Bool.true_and, Display.turns, decide_eq_true_eq]
      exact Nat.not_le.2 hstays
    have hchange : s.part.changePhase n = s.part := if_neg hwait
    obtain ⟨hphase, helapsed⟩ := s.part.recomputed_phase d hruns
    have hat := s.part.event_displayAt (fun p => p.changePhase n) hr n d (by rw [hchange]; exact hd)
    rw [hchange] at hat
    refine ⟨_, ⟨exec_rotationPhaseChange s n, ?_⟩, ?_, ?_, ?_⟩
    · rw [s.part.event_answer _ hr, hchange]
    · rw [s.part.event_records _ hr, hchange]
    · rw [hat, hphase]
    · rw [hat, helapsed]

end Sys2Proof.Machine
end

section
/-! A GOOD POLL that brings one press or one edge of the PRIORITY level: the part in which it is dispatched, and what comes after
(R81 to R86). -/

namespace Sys2Proof.Machine

/-! ### The seat at a press -/

/-- The seat `y` stands for the seat `x` at every test of a press (R83, R90, R92, R96). -/
structure Seat.SameTests (x y : Seat) : Prop where
  presence : y.health.presence = x.health.presence
  badge : y.badge = x.badge
  role : y.role = x.role
  kind : y.unitKind = x.unitKind
  held : y.priorityHeld = x.priorityHeld
  guarded : y.guardUntil = x.guardUntil

theorem Seat.sameTests_afterPress (img : Image) (b : Button) (e : PressEvent) (x : Seat) : x.SameTests (x.afterPress img b e) :=
  ⟨rfl, rfl, rfl, rfl, rfl, rfl⟩

theorem Seat.sameTests_level (img : Image) (level : Bool) (x : Seat) :
    x.SameTests { x.afterPoll img with priorityUp := level } := ⟨rfl, rfl, rfl, rfl, rfl, rfl⟩

/-- Part `D` is `p` but for the seat `n`, which was `x` and is `y`: the part in which a press is dispatched. -/
structure Part.Pressed (p D : Part) (n : Nat) (x y : Seat) : Prop where
  seat : nth p.seats n = some x
  tests : x.SameTests y
  records : D.records = p.records.seat n y

section
variable {p D : Part} {n : Nat} {x y : Seat}

theorem Part.Pressed.floors (h : p.Pressed D n x y) : D.floors = p.floors := (congrArg Records.floors h.records).trans rfl
theorem Part.Pressed.queues (h : p.Pressed D n x y) : D.queues = p.queues := (congrArg Records.queues h.records).trans rfl
theorem Part.Pressed.now (h : p.Pressed D n x y) : D.now = p.now := (congrArg Records.now h.records).trans rfl
theorem Part.Pressed.control (h : p.Pressed D n x y) : D.control = p.control := (congrArg Records.control h.records).trans rfl

theorem Part.Pressed.floorAt (h : p.Pressed D n x y) (f : Nat) : D.floorAt f = p.floorAt f := by
  rw [Part.floorAt, Part.floorAt, h.floors]

theorem Part.Pressed.queueAt (h : p.Pressed D n x y) (f : Nat) : D.queueAt f = p.queueAt f := by
  rw [Part.queueAt, Part.queueAt, h.queues]

theorem Part.Pressed.openEntry (h : p.Pressed D n x y) (f m : Nat) : D.openEntry f m = p.openEntry f m := by
  rw [Part.openEntry, Part.openEntry, h.floorAt]

theorem Part.Pressed.isDelegate (h : p.Pressed D n x y) (f m : Nat) : D.isDelegate f m = p.isDelegate f m := by
  rw [Part.isDelegate, Part.isDelegate, h.openEntry]

theorem Part.Pressed.isQueued (h : p.Pressed D n x y) (f m : Nat) : D.isQueued f m = p.isQueued f m := by
  rw [Part.isQueued, Part.isQueued, h.queueAt]

theorem Part.Pressed.queueFree (h : p.Pressed D n x y) : D.queueFree = p.queueFree := by
  rw [Part.queueFree, Part.queueFree, Part.queueStanding, Part.queueStanding, h.queues]

/-- The polled seat, as it is now. -/
theorem Part.Pressed.nth_seat (h : p.Pressed D n x y) : ∃ z, nth D.seats n = some z ∧ z.quiet = y.quiet :=
  Records.nth_seat h.records x.quiet (by rw [Part.records, nth_map, h.seat]; rfl)

/-- A reading of a seat that the press does not touch is as it was at every seat. -/
theorem Part.Pressed.reads {α : Type} (h : p.Pressed D n x y) (φ : Seat → α) (hφ : ∀ s : Seat, φ s.quiet = φ s) (hy : φ y = φ x)
    (m : Nat) : φ (D.seatAt m) = φ (p.seatAt m) := by
  by_cases hm : m = n
  · subst hm
    obtain ⟨z, hz, hzy⟩ := h.nth_seat
    rw [D.seatAt_of_nth m z hz, p.seatAt_of_nth m x h.seat, Seat.of_quiet φ hφ hzy, hy]
  · have hmap : nth (D.seats.map Seat.quiet) m = nth (p.seats.map Seat.quiet) m := by
      rw [show D.seats.map Seat.quiet = _ from congrArg Records.seats h.records, Records.seat, nth_upd_ne _ _ _ _ (Ne.symm hm)]
      rfl
    rw [nth_map, nth_map] at hmap
    rw [Part.seatAt, Part.seatAt]
    cases hD : nth D.seats m with
    | none =>
      rw [hD] at hmap
      rw [Option.map_eq_none_iff.1 hmap.symm]
    | some z =>
      rw [hD] at hmap
      obtain ⟨z', hz', hquiet⟩ := Option.map_eq_some_iff.1 hmap.symm
      rw [hz']
      exact Seat.of_quiet φ hφ hquiet.symm

theorem Part.Pressed.held (h : p.Pressed D n x y) (m : Nat) : (D.seatAt m).priorityHeld = (p.seatAt m).priorityHeld :=
  h.reads Seat.priorityHeld (fun _ => rfl) h.tests.held m

theorem Part.Pressed.guarded (h : p.Pressed D n x y) : (D.seatAt n).guardUntil = x.guardUntil := by
  rw [h.reads Seat.guardUntil (fun _ => rfl) h.tests.guarded n, p.seatAt_of_nth n x h.seat]

theorem Part.Pressed.role (h : p.Pressed D n x y) : (D.seatAt n).role = x.role := by
  rw [h.reads Seat.role (fun _ => rfl) h.tests.role n, p.seatAt_of_nth n x h.seat]

theorem Part.Pressed.kind (h : p.Pressed D n x y) : (D.seatAt n).unitKind = x.unitKind := by
  rw [h.reads Seat.unitKind (fun _ => rfl) h.tests.kind n, p.seatAt_of_nth n x h.seat]

theorem Part.Pressed.doors (h : p.Pressed D n x y) : p.SameDoors D where
  settings := (congrArg Records.settings h.records).trans rfl
  slots := (congrArg Records.slots h.records).trans rfl
  shell f := by rw [h.floorAt]
  presence m := h.reads (fun s => s.health.presence) (fun _ => rfl) h.tests.presence m
  badge m := h.reads Seat.badge (fun _ => rfl) h.tests.badge m
  role m := h.reads Seat.role (fun _ => rfl) h.tests.role m

/-- A refused press at a seat in service (R68). -/
theorem Part.Pressed.flash (h : p.Pressed D n x y) (hp : x.health.presence = .present) :
    (D.flash n).records = p.records.seat n { y with flashDue := true } := by
  refine Records.updSeat_seat _ h.records x.quiet (by rw [Part.records, nth_map, h.seat]; rfl) fun z hz => ?_
  have hpresence : z.health.presence = .present :=
    (Seat.of_quiet (fun s => s.health.presence) (fun _ => rfl) hz).trans (h.tests.presence.trans hp)
  rw [hpresence]
  exact Seat.of_quiet (fun s => ({ s with flashDue := true } : Seat).quiet) (fun _ => rfl) hz

/-- The records of a part that a press made of `D` by writing a floor and its queue. -/
theorem Part.Pressed.written (h : p.Pressed D n x y) (F : List Floor) (W : List Queue) :
    ({ D with floors := F, queues := W } : Part).records = { p.records.seat n y with floors := F, queues := W } :=
  congrArg (fun r : Records => { r with floors := F, queues := W }) h.records

theorem map_quiet_upd (l : List Seat) (m : Nat) (g : Seat → Seat) (hg : ∀ s : Seat, (g s.quiet).quiet = (g s).quiet) :
    (upd l m g).map Seat.quiet = upd (l.map Seat.quiet) m (fun s => (g s).quiet) := by
  cases m with
  | zero => rfl
  | succ k =>
    apply List.ext_getElem?
    intro i
    by_cases hi : k = i
    · subst hi; simp [upd, Function.comp_def, hg]
    · simp [upd, hi]

/-- The same, with a guard set at a seat (R111). -/
theorem Part.Pressed.writtenGuard (h : p.Pressed D n x y) (m : Nat) (F : List Floor) (W : List Queue) :
    ({ D with
        seats := upd D.seats m (fun z => { z with guardUntil := some (D.now + Config.guard) }), floors := F, queues := W } :
      Part).records =
      { p.records.seat n y with
        seats := (upd (upd p.seats n (fun _ => y)) m (fun z => { z with guardUntil := some (p.now + Config.guard) })).map Seat.quiet
        floors := F, queues := W } := by
  have hseats : D.seats.map Seat.quiet = (upd p.seats n (fun _ => y)).map Seat.quiet := by
    rw [map_upd_const]
    exact congrArg Records.seats h.records
  have hguard : (upd D.seats m (fun z => { z with guardUntil := some (D.now + Config.guard) })).map Seat.quiet =
      (upd (upd p.seats n (fun _ => y)) m (fun z => { z with guardUntil := some (p.now + Config.guard) })).map Seat.quiet := by
    rw [map_quiet_upd _ m _ fun _ => rfl, map_quiet_upd _ m _ fun _ => rfl, hseats, h.now]
  rw [← hguard]
  exact congrArg (fun r : Records => { r with
    seats := (upd D.seats m (fun z => { z with guardUntil := some (D.now + Config.guard) })).map Seat.quiet
    floors := F, queues := W }) h.records

end

/-! ### From the dispatch to the end of the event -/

/-- What no press changes besides the floors, queues and seats, and at the seat the PRIORITY level. -/
structure Part.PressEnds (D A : Part) (n : Nat) : Prop where
  control : A.control = D.control
  now : A.now = D.now
  level : (A.seatAt n).priorityUp = (D.seatAt n).priorityUp

theorem Part.pressEnds_written (D : Part) (n : Nat) (F : List Floor) (W : List Queue) :
    D.PressEnds { D with floors := F, queues := W } n := ⟨rfl, rfl, rfl⟩

theorem Part.priorityUp_updSeat (D : Part) (n m : Nat) (g : Seat → Seat) (hg : ∀ z, (g z).priorityUp = z.priorityUp) :
    ((D.updSeat m g).seatAt n).priorityUp = (D.seatAt n).priorityUp := by
  by_cases hm : n = m
  · subst hm
    rw [Part.seatAt, Part.seatAt, Part.updSeat, nth_upd_same]
    cases nth D.seats n with
    | none => rfl
    | some z => exact hg z
  · rw [D.seatAt_updSeat_ne m n g (Ne.symm hm)]

theorem Part.pressEnds_flash (D : Part) (n : Nat) : D.PressEnds (D.flash n) n :=
  ⟨rfl, rfl, D.priorityUp_updSeat n n _ fun z => by split <;> rfl⟩

/-- An AWAKE table is marked as in use (R169). -/
theorem Part.notePress_records (A : Part) (hawake : A.control.tableState = .awake) :
    A.notePress.records = { A.records with control := { A.control with idleMark := A.now } } := by
  unfold Part.notePress
  rw [if_neg (by rw [hawake]; decide)]
  rfl

theorem Part.notePress_seats (A : Part) (hawake : A.control.tableState = .awake) : A.notePress.seats = A.seats := by
  unfold Part.notePress
  rw [if_neg (by rw [hawake]; decide)]

/-- An uplink with one new press takes that one (R81, R83). -/
theorem Part.takeEvents_carries (p : Part) (n : Nat) (up : Uplink) (b : Button) (e : PressEvent) (z : Seat)
    (hup : uplinkCarries up b e z) (htags : (p.seatAt n).takenTags = z.takenTags) :
    p.takeEvents n up = p.follow (((p.recordTag n b e.tag).countOverrun n e.overrun).dispatch n b).notePress := by
  obtain ⟨-, hup⟩ := hup
  cases b <;> obtain ⟨hspeak, hnext, hcancel, hnew⟩ := hup <;> rw [← htags] at hnew <;>
    simp [Part.takeEvents, hspeak, hnext, hcancel, Part.takeEvent, TakenTags.get, hnew]

/-- A press recorded at its seat (R81, R84). -/
def Seat.pressed (b : Button) (e : PressEvent) (z : Seat) : Seat :=
  { z with
    takenTags := z.takenTags.put b e.tag
    lostPresses := if e.overrun then sat 255 (z.lostPresses + 1) else z.lostPresses }

theorem Seat.afterPress_eq (img : Image) (b : Button) (e : PressEvent) (x : Seat) :
    x.afterPress img b e = (x.afterPoll img).pressed b e := by
  cases b <;> rfl

theorem Part.recorded_records (p : Part) (n : Nat) (b : Button) (e : PressEvent) (r : Records) (y a : Seat)
    (h : p.records = r.seat n y) (hn : nth r.seats n = some a) :
    ((p.recordTag n b e.tag).countOverrun n e.overrun).records = r.seat n (y.pressed b e) := by
  cases ho : e.overrun with
  | false =>
    refine Records.updSeat_seat _ h a hn fun z hz => ?_
    have hpressed := Seat.of_quiet (fun s => (s.pressed b e).quiet) (fun _ => rfl) hz
    rw [← hpressed, Seat.pressed, ho]
    rfl
  | true =>
    have htagged : (p.recordTag n b e.tag).records = r.seat n { y with takenTags := y.takenTags.put b e.tag } :=
      Records.updSeat_seat _ h a hn fun z hz =>
        Seat.of_quiet (fun s => ({ s with takenTags := s.takenTags.put b e.tag } : Seat).quiet) (fun _ => rfl) hz
    refine (Records.updSeat_seat (fun s => { s with lostPresses := sat 255 (s.lostPresses + 1) }) htagged a hn fun z hz => ?_ :
      ((p.recordTag n b e.tag).updSeat n _).records = _)
    refine (Seat.of_quiet (fun s => ({ s with lostPresses := sat 255 (s.lostPresses + 1) } : Seat).quiet) (fun _ => rfl) hz).trans ?_
    rw [Seat.pressed, ho]
    rfl

/-- An edge of the PRIORITY level is a step of its own (R85). -/
theorem Part.takeLevel_edge (p : Part) (n : Nat) (level : Bool) (h : (p.seatAt n).priorityUp ≠ level) :
    (p.takeLevel n level).records =
      (if level then (p.updSeat n (fun s => { s with priorityUp := level })).risingEdge n
        else (p.updSeat n (fun s => { s with priorityUp := level })).stopHold n).records := by
  unfold Part.takeLevel
  cases level with
  | true => rw [Bool.eq_false_iff.2 h]; exact Part.follow_records _ _
  | false => rw [Bool.eq_true_of_not_eq_false h]; exact Part.follow_records _ _

section
variable {s : State} {seg : Segment} {n : Nat} {img : Image} {rx : Reception} {up : Uplink} {x : Seat}

/-- Where no operation waits for the outcome of a POLL, none takes it (R46). -/
theorem State.worked_noOperation (hno : s.part.noOperation) : s.worked seg n up = s.scored seg n := by
  have hended : s.part.Like (s.part.lineEnds seg .good) := s.part.lineEnds_records seg .good
  have hcontext : ∀ f, (s.scored seg n).contextAt f = none := fun f => (hended.contextAt f).trans (hno f)
  rw [State.worked, Part.workOutcome]
  cases (s.scored seg n).workFloor n with
  | none => rfl
  | some f => simp only [hcontext f]

/-- A GOOD POLL with no operation: the part `D` with the seat scored, its image carried and its badge read, in which the presses
and the level of the uplink are taken (R86). -/
theorem State.goodPoll.takes (h : s.goodPoll seg n img rx up) (hno : s.part.noOperation) (hx : nth s.part.seats n = some x) :
    ∃ q D : Part, Ends (.pollAnswer seg rx up) s q ∧ D.records = s.part.records.seat n (x.afterPoll img) ∧
      q.records = ((D.takeEvents n up).takeLevel n up.priorityUp).records := by
  have hn : nth s.part.records.seats n = some x.quiet := by rw [Part.records, nth_map, hx]; rfl
  have hscored := s.scored_records seg n x hx
  obtain ⟨z, hz, hzx⟩ := Records.nth_seat hscored x.quiet hn
  have hworked : s.worked seg n up = s.scored seg n := State.worked_noOperation hno
  have hpresent : z.health.presence = .present :=
    (Seat.of_quiet (fun s => s.health.presence) (fun _ => rfl) hzx).trans ((h.present hx : x.health.presence = _))
  obtain ⟨q, moved, hends, hmoved, hq⟩ := h.ends hx z (by rw [hworked]; exact hz) hpresent
  rw [hworked, hscored] at hmoved
  have hreads : x.reads up.badge := h.reads hx
  exact ⟨q, moved.pollRead n img up, hends, moved.pollRead_records n img up _ x.scored x.quiet hmoved hn hreads, hq⟩

/-- One new press: the part `D` in which it is dispatched, and the event's end (R83, R169). -/
theorem State.goodPoll.press {b : Button} {e : PressEvent} (h : s.goodPoll seg n img rx up) (hno : s.part.noOperation)
    (hx : nth s.part.seats n = some x) (hup : uplinkCarries up b e x) (hawake : s.part.control.tableState = .awake) :
    ∃ D : Part, s.part.Pressed D n x (x.afterPress img b e) ∧ ∀ A : Part, D.dispatch n b = A → D.PressEnds A n →
      Leaves (.pollAnswer seg rx up) s
        { A.records with control := { s.part.control with idleMark := s.part.now } } := by
  have hn : nth s.part.records.seats n = some x.quiet := by rw [Part.records, nth_map, hx]; rfl
  obtain ⟨q, P, hends, hP, hq⟩ := h.takes hno hx
  have hseat := Records.seatAt_seat hP x.quiet hn
  have htags : (P.seatAt n).takenTags = x.takenTags := (Seat.of_quiet Seat.takenTags (fun _ => rfl) hseat).trans rfl
  rw [P.takeEvents_carries n up b e x hup htags] at hq
  have hrecorded := P.recorded_records n b e _ _ _ hP hn
  rw [← Seat.afterPress_eq] at hrecorded
  generalize (P.recordTag n b e.tag).countOverrun n e.overrun = D at hrecorded hq
  have hD : s.part.Pressed D n x (x.afterPress img b e) := ⟨hx, x.sameTests_afterPress img b e, hrecorded⟩
  refine ⟨D, hD, fun A hA hkeeps => ?_⟩
  rw [hA] at hq
  have hAawake : A.control.tableState = .awake := by rw [hkeeps.control, hD.control, hawake]
  have hlevel : ((P.follow A.notePress).seatAt n).priorityUp = up.priorityUp := by
    have hfollow := Part.seatAt_quiet_of_records (Part.follow_records P A.notePress) n
    rw [Seat.of_quiet Seat.priorityUp (fun _ => rfl) hfollow, Part.seatAt, A.notePress_seats hAawake]
    refine hkeeps.level.trans ?_
    rw [hD.reads Seat.priorityUp (fun _ => rfl) rfl n, s.part.seatAt_of_nth n x hx]
    exact hup.1
  rw [Part.takeLevel_same _ n _ hlevel, Part.follow_records, A.notePress_records hAawake] at hq
  rw [hkeeps.control, hkeeps.now, hD.control, hD.now] at hq
  obtain ⟨hexec, hanswer⟩ := hends
  exact ⟨q, hexec, hanswer, hq⟩

/-- One edge of the PRIORITY level and no press: the part `D` in which it is dispatched, and the event's end (R85). -/
theorem State.goodPoll.edge (h : s.goodPoll seg n img rx up) (hno : s.part.noOperation) (hx : nth s.part.seats n = some x)
    (hspeak : up.speak = none) (hnext : up.next = none) (hcancel : up.cancelAll = none) (hedge : x.priorityUp ≠ up.priorityUp) :
    ∃ D : Part, s.part.Pressed D n x { x.afterPoll img with priorityUp := up.priorityUp } ∧
      Leaves (.pollAnswer seg rx up) s (if up.priorityUp then D.risingEdge n else D.stopHold n).records := by
  have hn : nth s.part.records.seats n = some x.quiet := by rw [Part.records, nth_map, hx]; rfl
  obtain ⟨q, P, hends, hP, hq⟩ := h.takes hno hx
  have hquiet : P.takeEvents n up = P := by simp [Part.takeEvents, hspeak, hnext, hcancel, Part.takeEvent]
  have hseat := Records.seatAt_seat hP x.quiet hn
  have hlevel : (P.seatAt n).priorityUp = x.priorityUp := (Seat.of_quiet Seat.priorityUp (fun _ => rfl) hseat).trans rfl
  have hnoted : (P.updSeat n (fun s => { s with priorityUp := up.priorityUp })).records =
      s.part.records.seat n { x.afterPoll img with priorityUp := up.priorityUp } :=
    Records.updSeat_seat _ hP x.quiet hn fun z hz =>
      Seat.of_quiet (fun s => ({ s with priorityUp := up.priorityUp } : Seat).quiet) (fun _ => rfl) hz
  obtain ⟨hexec, hanswer⟩ := hends
  refine ⟨_, ⟨hx, x.sameTests_level img up.priorityUp, hnoted⟩, q, hexec, hanswer, ?_⟩
  rw [hq, hquiet]
  exact P.takeLevel_edge n up.priorityUp (by rw [hlevel]; exact hedge)

end

end Sys2Proof.Machine
end

section
/-! A SPEAK press, by the floor's state, mode, limit and overflow policy (O35). -/

namespace Sys2Proof.Machine

/-! ### What a dispatched press leaves -/

/-- Part `D` is the one in which the one press of command `c` is dispatched; what it makes of `D` is what the command leaves. -/
structure State.Dispatches (s : State) (c : Instr) (n : Nat) (b : Button) (x y : Seat) (D : Part) : Prop where
  pressed : s.part.Pressed D n x y
  present : x.health.presence = .present
  ends : ∀ A : Part, D.dispatch n b = A → D.PressEnds A n →
    Leaves c s { A.records with control := { s.part.control with idleMark := s.part.now } }

theorem State.goodPoll.dispatches {s : State} {seg : Segment} {n : Nat} {img : Image} {rx : Reception} {up : Uplink} {b : Button}
    {e : PressEvent} {x : Seat} (h : s.goodPoll seg n img rx up) (hno : s.part.noOperation) (hx : nth s.part.seats n = some x)
    (hup : uplinkCarries up b e x) (hawake : s.part.control.tableState = .awake) :
    ∃ D : Part, s.Dispatches (.pollAnswer seg rx up) n b x (x.afterPress img b e) D := by
  obtain ⟨D, hD, hends⟩ := h.press hno hx hup hawake
  exact ⟨D, hD, h.present hx, hends⟩

section
variable {s : State} {c : Instr} {n : Nat} {b : Button} {x y : Seat} {D : Part}

theorem State.Dispatches.inService (h : s.Dispatches c n b x y D) : D.inService n = true := by
  rw [h.pressed.doors.inService, Part.inService, s.part.seatAt_of_nth n x h.pressed.seat, h.present]
  rfl

theorem State.Dispatches.dispatch (h : s.Dispatches c n b x y D) : D.dispatch n b = D.pressAt n b := by
  rw [Part.dispatch, if_pos h.inService]

theorem State.Dispatches.flashes (h : s.Dispatches c n b x y D) (hd : D.dispatch n b = D.flash n) :
    Leaves c s (s.withPress n { y with flashDue := true }) := by
  refine leaves_congr (h.ends _ hd (D.pressEnds_flash n)) ?_
  rw [h.pressed.flash h.present, ← State.withSeat_eq]
  rfl

theorem State.Dispatches.writes (h : s.Dispatches c n b x y D) (F : List Floor) (W : List Queue)
    (hd : D.dispatch n b = { D with floors := F, queues := W }) :
    Leaves c s { s.withPress n y with floors := F, queues := W } := by
  refine leaves_congr (h.ends _ hd (D.pressEnds_written n F W)) ?_
  rw [h.pressed.written F W, ← State.withSeat_eq]
  rfl

/-- A press that is discarded. -/
theorem State.Dispatches.keeps (h : s.Dispatches c n b x y D) (hd : D.dispatch n b = D) : Leaves c s (s.withPress n y) := by
  have hw := h.writes D.floors D.queues hd
  rw [h.pressed.floors, h.pressed.queues] at hw
  exact hw

section
variable {f m : Nat} {g : Floor → Floor} {k : Queue → Queue}

theorem State.Dispatches.writesBoth (h : s.Dispatches c n b x y D)
    (hd : D.dispatch n b = { D with floors := upd D.floors f g, queues := upd D.queues f k }) :
    Leaves c s { s.withPress n y with floors := upd s.part.floors f g, queues := upd s.part.queues f k } := by
  have hw := h.writes _ _ hd
  rw [h.pressed.floors, h.pressed.queues] at hw
  exact hw

theorem State.Dispatches.writesFloor (h : s.Dispatches c n b x y D) (hd : D.dispatch n b = { D with floors := upd D.floors f g }) :
    Leaves c s { s.withPress n y with floors := upd s.part.floors f g } := by
  have hw := h.writes _ D.queues hd
  rw [h.pressed.floors, h.pressed.queues] at hw
  exact hw

theorem State.Dispatches.writesQueue (h : s.Dispatches c n b x y D) (hd : D.dispatch n b = { D with queues := upd D.queues f k }) :
    Leaves c s { s.withPress n y with queues := upd s.part.queues f k } := by
  have hw := h.writes D.floors _ hd
  rw [h.pressed.floors, h.pressed.queues] at hw
  exact hw

/-- A press that closes another seat's entry as a forced close (R91, R111). -/
theorem State.Dispatches.guards (h : s.Dispatches c n b x y D) (F : List Floor) (W : List Queue)
    (hd : D.dispatch n b =
      { D with
        seats := upd D.seats m (fun z => { z with guardUntil := some (D.now + Config.guard) }), floors := F, queues := W }) :
    Leaves c s { s.withPress n y with
      seats := (upd (upd s.part.seats n (fun _ => y)) m (fun z => { z with guardUntil := some (s.part.now + Config.guard) })).map
        Seat.quiet
      floors := F, queues := W } := by
  refine leaves_congr (h.ends _ hd ⟨rfl, rfl, D.priorityUp_updSeat n m _ fun _ => rfl⟩) ?_
  rw [h.pressed.writtenGuard m F W, ← State.withSeat_eq]
  rfl

end

end

/-! ### A press at a floor -/

/-- Floor `f` holds the zone of seat `n`; it is `fl`, with the parameters `q` and the queue `w`. -/
structure Part.Holds (p : Part) (n f : Nat) (fl : Floor) (w : Queue) (q : FloorParams) : Prop where
  holds : p.floorOf n = some f
  floor : nth p.floors f = some fl
  queue : nth p.queues f = some w
  params : fl.params = some q

section
variable {p D : Part} {n f m : Nat} {fl : Floor} {w : Queue} {q : FloorParams} {x y : Seat}

theorem Part.Pressed.floorHolds (h : p.Pressed D n x y) (hp : p.Holds n f fl w q) : D.Holds n f fl w q :=
  ⟨(h.doors.floorOf n).trans hp.holds, by rw [h.floors]; exact hp.floor, by rw [h.queues]; exact hp.queue, hp.params⟩

theorem Part.Holds.floorAt (h : p.Holds n f fl w q) : p.floorAt f = fl := p.floorAt_of_nth f fl h.floor
theorem Part.Holds.queueAt (h : p.Holds n f fl w q) : p.queueAt f = w := p.queueAt_of_nth f w h.queue
theorem Part.Holds.par (h : p.Holds n f fl w q) : (p.floorAt f).par = q := by rw [h.floorAt]; exact Floor.par_some fl q h.params

theorem Part.Holds.queues_without (h : p.Holds n f fl w q) :
    upd p.queues f (fun w => w.without m) = upd p.queues f (fun _ => w.without m) := upd_congr _ _ _ _ w h.queue rfl

theorem Part.Holds.drops (h : p.Holds n f fl w q) : p.dropEntry f m = { p with floors := upd p.floors f (fun _ => fl.without m) } :=
  p.updFloor_eq f _ fl h.floor

/-! ### The tests of a SPEAK press (R92) -/

theorem Part.speakUnguarded_refused (p : Part) (f n : Nat)
    (h : (p.floorAt f).state ≠ .live ∨ ((p.floorAt f).suspended = true ∧ p.isQueued f n = false) ∨
      (p.isPrivate f = true ∧ p.admitted n = false)) : p.speakUnguarded f n = p.flash n := by
  unfold Part.speakUnguarded
  rcases h with h | h | ⟨hprivate, hout⟩
  · rw [if_pos (.inl h)]
  · rw [if_pos (.inr h)]
  · simp [hprivate, hout]

theorem Part.speakUnguarded_taken (p : Part) (f n : Nat) (hlive : (p.floorAt f).state = .live)
    (hgo : (p.floorAt f).suspended = false ∨ p.isQueued f n = true) (hin : p.isPrivate f = false ∨ p.admitted n = true) :
    p.speakUnguarded f n = if (p.seatAt n).role = .chair then p.speakChair f n else p.speakDelegate f n := by
  unfold Part.speakUnguarded
  have hgo' : ¬ ((p.floorAt f).suspended = true ∧ p.isQueued f n = false) := by
    rintro ⟨hs, hq⟩
    rcases hgo with hgo | hgo
    · rw [hs] at hgo; cases hgo
    · rw [hq] at hgo; cases hgo
  have hin' : (p.isPrivate f && !p.admitted n) = false := by rcases hin with hin | hin <;> simp [hin]
  rw [if_neg (fun h => h.elim (fun h => h hlive) hgo'), hin']
  simp

/-! ### The chair's microphone (R94) -/

theorem Part.Holds.speakChair_opens (h : p.Holds n f fl w q) (hmay : p.mayOpen f n = true) (hclosed : p.openEntry f n = none)
    (hr : (p.seatAt n).role = .chair) :
    p.speakChair f n =
      { p with
        floors := upd p.floors f (fun _ => fl.opens (fl.chairEntry n)), queues := upd p.queues f (fun _ => w.without n) } := by
  rw [Part.speakChair, hclosed, if_neg (by simp), Part.openSeat_chair h.floor hmay hr, h.queues_without]

theorem Part.Holds.speakChair_closes (h : p.Holds n f fl w q) (hopen : (p.openEntry f n).isSome = true)
    (hfree : (p.seatAt n).priorityHeld = false) :
    p.speakChair f n = { p with floors := upd p.floors f (fun _ => fl.without n) } := by
  rw [Part.speakChair, if_pos hopen, p.closeEntry_free f n hfree, h.drops]

/-! ### An open delegate, and a queued one (R93) -/

theorem Part.Holds.speakDelegate_leaves (h : p.Holds n f fl w q) (hclosed : p.openEntry f n = none) (hqueued : p.isQueued f n = true) :
    p.speakDelegate f n = { p with queues := upd p.queues f (fun _ => w.without n) } := by
  rw [Part.speakDelegate, hclosed, if_neg (by simp), if_pos hqueued]
  exact p.updQueue_eq f _ w h.queue

theorem Part.Holds.speakDelegate_stays (h : p.Holds n f fl w q) (hopen : (p.openEntry f n).isSome = true)
    (hself : q.selfClose = false) : p.speakDelegate f n = p.flash n := by
  rw [Part.speakDelegate, if_pos hopen, h.par, hself]
  rfl

theorem Part.Holds.speakDelegate_closes (h : p.Holds n f fl w q) (hopen : (p.openEntry f n).isSome = true)
    (hself : q.selfClose = true) : p.speakDelegate f n = p.closeThenGrant f n false := by
  rw [Part.speakDelegate, if_pos hopen, h.par, hself]
  rfl

theorem Part.speakDelegate_closed (hclosed : p.openEntry f n = none) (hqueued : p.isQueued f n = false) :
    p.speakDelegate f n = p.speakClosed f n := by
  rw [Part.speakDelegate, hclosed, hqueued, if_neg (by simp), if_neg (by simp)]

/-! ### A closed delegate, by the mode (R93) -/

theorem Part.Holds.enqueues (h : p.Holds n f fl w q) (cls : QueueClass) (hroom : w.entries.length < q.queueCap ∧ 0 < p.queueFree) :
    p.enqueueSeat f n cls = some { p with queues := upd p.queues f (fun _ => w.joins n cls) } := by
  rw [p.enqueueSeat_of f n cls (by rw [h.queueAt, h.par]; exact hroom.1) hroom.2, p.joinQueue_eq f n cls w h.queue]

theorem Part.Holds.enqueue_full (h : p.Holds n f fl w q) (cls : QueueClass)
    (hfull : ¬ (w.entries.length < q.queueCap ∧ 0 < p.queueFree)) : p.enqueueSeat f n cls = none := by
  refine p.enqueueSeat_full f n cls ?_
  rw [h.queueAt, h.par]
  omega

theorem Part.Holds.enqueueOrFlash_joins (h : p.Holds n f fl w q) (hroom : w.entries.length < q.queueCap ∧ 0 < p.queueFree) :
    p.enqueueOrFlash f n = { p with queues := upd p.queues f (fun _ => w.joins n (p.seatAt n).role.queueClass) } := by
  rw [Part.enqueueOrFlash, h.enqueues _ hroom]; rfl

theorem Part.Holds.enqueueOrFlash_flashes (h : p.Holds n f fl w q) (hfull : ¬ (w.entries.length < q.queueCap ∧ 0 < p.queueFree)) :
    p.enqueueOrFlash f n = p.flash n := by
  rw [Part.enqueueOrFlash, h.enqueue_full _ hfull]; rfl

theorem Part.Holds.speakClosed_moderated (h : p.Holds n f fl w q) (hmode : q.mode = .moderated) :
    p.speakClosed f n = p.enqueueOrFlash f n := by
  simp only [Part.speakClosed, h.par, hmode]

theorem Part.Holds.speakClosed_full (h : p.Holds n f fl w q) (hmode : q.mode = .openFloor) (hfull : q.limit ≤ fl.delegates) :
    p.speakClosed f n = p.speakOverflow f n := by
  simp only [Part.speakClosed, h.floorAt, Floor.par_some fl q h.params, hmode, if_neg (Nat.not_lt.2 hfull)]

/-- A closed delegate who does not stand in the queue opens. -/
theorem Part.Holds.opens (h : p.Holds n f fl w q) (hmay : p.mayOpen f n = true) (hr : (p.seatAt n).role ≠ .chair)
    (hqueued : p.isQueued f n = false) :
    p.openSeat f n = { p with floors := upd p.floors f (fun _ => fl.opens (fl.delegateEntry q n)) } := by
  rw [Part.openSeat_delegate h.floor h.params hmay hr, p.queues_without f n hqueued]

theorem Part.Holds.speakClosed_opens (h : p.Holds n f fl w q) (hmode : q.mode = .openFloor) (hroom : fl.delegates < q.limit)
    (hmay : p.mayOpen f n = true) (hr : (p.seatAt n).role ≠ .chair) (hqueued : p.isQueued f n = false) :
    p.speakClosed f n = { p with floors := upd p.floors f (fun _ => fl.opens (fl.delegateEntry q n)) } := by
  rw [← h.opens hmay hr hqueued]
  simp only [Part.speakClosed, h.floorAt, Floor.par_some fl q h.params, hmode, if_pos hroom]

theorem Part.Holds.speakOverflow_refuses (h : p.Holds n f fl w q) (ho : q.overflow = .refuse) : p.speakOverflow f n = p.flash n := by
  simp only [Part.speakOverflow, h.floorAt, Floor.par_some fl q h.params, ho]

theorem Part.Holds.speakOverflow_queues (h : p.Holds n f fl w q) (ho : q.overflow = .queue) :
    p.speakOverflow f n = p.enqueueOrFlash f n := by
  simp only [Part.speakOverflow, h.floorAt, Floor.par_some fl q h.params, ho]

theorem Part.Holds.speakOverflow_replaces (h : p.Holds n f fl w q) (ho : q.overflow = .replaceOldest)
    (hm : fl.oldestDelegate = some m) : p.speakOverflow f n = (p.forceClose f m).openSeat f n := by
  simp only [Part.speakOverflow, h.floorAt, Floor.par_some fl q h.params, ho, hm]

/-! ### A closed delegate at an AUTO_QUEUE floor (R93, R95) -/

theorem Part.Holds.speakClosed_auto_full (h : p.Holds n f fl w q) (hmode : q.mode = .autoQueue)
    (hfull : ¬ (w.entries.length < q.queueCap ∧ 0 < p.queueFree)) : p.speakClosed f n = p.flash n := by
  simp only [Part.speakClosed, h.par, hmode, h.enqueue_full _ hfull]

theorem Part.Holds.speakClosed_auto (h : p.Holds n f fl w q) (hmode : q.mode = .autoQueue)
    (hroom : w.entries.length < q.queueCap ∧ 0 < p.queueFree) (J : Part)
    (hJ : J = { p with queues := upd p.queues f (fun _ => w.joins n (p.seatAt n).role.queueClass) }) :
    p.speakClosed f n = J.autoGrant f := by
  rw [hJ]
  simp only [Part.speakClosed, h.par, hmode, h.enqueues _ hroom]

/-- A floor at its limit grants nothing by itself (R95). -/
theorem Part.grantReady_full (p : Part) (f : Nat) (h : (p.floorAt f).par.limit ≤ (p.floorAt f).delegates) : p.grantReady f = false := by
  simp [Part.grantReady, Nat.not_lt.2 h]

/-- Auto grant of the one entry of a queue. -/
theorem Part.autoGrant_last {a : QueueEntry} (hfl : nth p.floors f = some fl) (hw : nth p.queues f = some w)
    (hq : fl.params = some q) (hlive : fl.state = .live) (hgo : fl.suspended = false) (hmode : q.grantsItself = true)
    (hplace : fl.delegates < q.limit) (hentries : w.entries = [a]) (ha : a.seat = m) (hserve : p.inService m = true)
    (hr : (p.seatAt m).role ≠ .chair) (hclosed : ∀ g, p.openEntry g m = none) (hin : p.isPrivate f = false ∨ p.admitted m = true) :
    p.autoGrant f =
      { p with
        floors := upd p.floors f (fun _ => fl.opens (fl.delegateEntry q m))
        queues := upd p.queues f (fun _ => { w with entries := [] }) } := by
  have hready : p.grantReady f = true := by
    rw [Part.grantReady, p.floorAt_of_nth f fl hfl, p.queueAt_of_nth f w hw, fl.par_some q hq, hlive, hgo, hmode, hentries]
    simpa using hplace
  rw [Part.autoGrant, p.queueAt_of_nth f w hw, hentries, List.length_singleton, grantLoop, if_pos hready, grantLoop]
  exact Part.grantHead_delegate hfl hw hq hentries ha (by simp) hserve hr hclosed hin

theorem Queue.joins_empty (w : Queue) (n : Nat) (cls : QueueClass) (h : w.entries = []) :
    ∃ a : QueueEntry, a.seat = n ∧ (w.joins n cls).entries = [a] := by
  refine ⟨{ seat := n, cls := cls, arrival := nextNumber w.lastArrival, waitedS := 0 }, rfl, ?_⟩
  cases cls <;> simp [Queue.joins, h]

/-- A press at an AUTO_QUEUE floor with room and nobody waiting opens at once (R93, R95). -/
theorem Part.Holds.speakClosed_auto_opens (h : p.Holds n f fl w q) (hmode : q.mode = .autoQueue)
    (hroom : w.entries.length < q.queueCap ∧ 0 < p.queueFree) (hlive : fl.state = .live) (hgo : fl.suspended = false)
    (hplace : fl.delegates < q.limit) (hempty : w.entries = []) (hserve : p.inService n = true) (hr : (p.seatAt n).role ≠ .chair)
    (hclosed : ∀ g, p.openEntry g n = none) (hin : p.isPrivate f = false ∨ p.admitted n = true) :
    p.speakClosed f n =
      { p with
        floors := upd p.floors f (fun _ => fl.opens (fl.delegateEntry q n))
        queues := upd p.queues f (fun _ => { entries := [], lastArrival := nextNumber w.lastArrival }) } := by
  rw [h.speakClosed_auto hmode hroom _ rfl]
  obtain ⟨a, ha, hentries⟩ := w.joins_empty n (p.seatAt n).role.queueClass hempty
  generalize hJ : ({ p with queues := upd p.queues f (fun _ => w.joins n (p.seatAt n).role.queueClass) } : Part) = J
  have hqueue : nth J.queues f = some (w.joins n (p.seatAt n).role.queueClass) := by
    rw [← hJ, nth_upd_same, h.queue]; rfl
  have hdoors : p.SameDoors J := by rw [← hJ]; exact (Part.SameDoors.rfl' p).updQueue f _
  have hgrant := Part.autoGrant_last (p := J) (m := n) (by rw [← hJ]; exact h.floor) hqueue h.params hlive hgo
    (by simp [FloorParams.grantsItself, hmode]) hplace hentries ha ((hdoors.inService n).trans hserve)
    (by rw [hdoors.role]; exact hr) (fun g => by rw [← hJ]; exact hclosed g) (by rw [hdoors.isPrivate, hdoors.admitted]; exact hin)
  rw [hgrant, ← hJ]
  simp only [upd_upd]
  rfl

end

end Sys2Proof.Machine
end

section
/-! The SPEAK press settled, clause by clause (O35). -/

namespace Sys2Proof.Machine

section
variable {s : State} {c : Instr} {n f : Nat} {x y : Seat} {D : Part} {fl : Floor} {w : Queue} {q : FloorParams}

/-- A SPEAK press at a floor (R83, R92). -/
theorem State.Dispatches.speak (h : s.Dispatches c n .speak x y D) (hp : s.part.Holds n f fl w q) :
    D.dispatch n .speak = if x.guardUntil.isSome then D else D.speakUnguarded f n := by
  rw [h.dispatch]
  simp only [Part.pressAt, (h.pressed.floorHolds hp).holds, Part.speakPress, h.pressed.guarded]

/-- The floor takes the SPEAK press of the seat (R92). -/
structure State.SpeakTaken (s : State) (n f : Nat) (fl : Floor) (w : Queue) (q : FloorParams) (x : Seat) : Prop where
  floor : s.part.Holds n f fl w q
  free : x.guardUntil = none
  live : fl.state = .live
  inside : s.part.isPrivate f = false ∨ s.part.admitted n = true

theorem State.SpeakTaken.dispatch (t : s.SpeakTaken n f fl w q x) (h : s.Dispatches c n .speak x y D)
    (hgo : fl.suspended = false ∨ s.part.isQueued f n = true) :
    D.dispatch n .speak = if x.role = .chair then D.speakChair f n else D.speakDelegate f n := by
  have hat : D.floorAt f = fl := (h.pressed.floorHolds t.floor).floorAt
  rw [h.speak t.floor, t.free, if_neg (by simp), D.speakUnguarded_taken f n (by rw [hat]; exact t.live)
    (by rw [hat, h.pressed.isQueued]; exact hgo) (by rw [h.pressed.doors.isPrivate, h.pressed.doors.admitted]; exact t.inside),
    h.pressed.role]

theorem State.SpeakTaken.chair (t : s.SpeakTaken n f fl w q x) (h : s.Dispatches c n .speak x y D)
    (hgo : fl.suspended = false ∨ s.part.isQueued f n = true) (hr : x.role = .chair) : D.dispatch n .speak = D.speakChair f n := by
  rw [t.dispatch h hgo, if_pos hr]

theorem State.SpeakTaken.delegate (t : s.SpeakTaken n f fl w q x) (h : s.Dispatches c n .speak x y D)
    (hgo : fl.suspended = false ∨ s.part.isQueued f n = true) (hr : x.role ≠ .chair) :
    D.dispatch n .speak = D.speakDelegate f n := by
  rw [t.dispatch h hgo, if_neg hr]

theorem State.Dispatches.mayOpen {b : Button} (h : s.Dispatches c n b x y D) (hclosed : ∀ g, s.part.openEntry g n = none)
    (hin : s.part.isPrivate f = false ∨ s.part.admitted n = true) : D.mayOpen f n = true :=
  D.mayOpen_of f n h.inService (fun g => (h.pressed.openEntry g n).trans (hclosed g))
    (by rw [h.pressed.doors.isPrivate, h.pressed.doors.admitted]; exact hin)

theorem State.Dispatches.queueClass {b : Button} (h : s.Dispatches c n b x y D) :
    (D.seatAt n).role.queueClass = if x.role = .priority then .priority else .ordinary := by
  rw [h.pressed.role, Role.queueClass_eq]

/-- A press that joins the queue where there is room, and flashes where there is none (R93, R117). -/
theorem State.Dispatches.enqueues (h : s.Dispatches c n .speak x y D) (hp : s.part.Holds n f fl w q)
    (hd : D.dispatch n .speak = D.enqueueOrFlash f n) :
    (w.entries.length < q.queueCap ∧ 0 < s.part.queueFree →
      Leaves c s { s.withPress n y with queues := upd s.part.queues f (fun _ =>
        w.joins n (if x.role = .priority then .priority else .ordinary)) }) ∧
    (¬ (w.entries.length < q.queueCap ∧ 0 < s.part.queueFree) → Leaves c s (s.withPress n { y with flashDue := true })) := by
  have hD := h.pressed.floorHolds hp
  rw [← h.pressed.queueFree]
  refine ⟨fun hroom => h.writesQueue (hd.trans ?_), fun hfull => h.flashes (hd.trans (hD.enqueueOrFlash_flashes hfull))⟩
  rw [hD.enqueueOrFlash_joins hroom, h.queueClass]

/-- An open delegate presses SPEAK (R93, R95). -/
theorem State.SpeakTaken.open_delegate (t : s.SpeakTaken n f fl w q x) (h : s.Dispatches c n .speak x y D)
    (hgo : fl.suspended = false) (hr : x.role ≠ .chair) (hopen : (s.part.openEntry f n).isSome = true) :
    (q.selfClose = false → Leaves c s (s.withPress n { y with flashDue := true })) ∧
    (q.selfClose = true → x.priorityHeld = false → q.mode = .moderated ∨ w.entries = [] →
      Leaves c s { s.withPress n y with floors := upd s.part.floors f (fun _ => fl.without n) }) ∧
    (∀ (m : Nat) (a : QueueEntry) (rest : List QueueEntry), q.selfClose = true → x.priorityHeld = false →
      q.mode = .autoQueue → s.part.isDelegate f n = true → (fl.without n).delegates + 1 = q.limit →
      w.entries = a :: rest → a.seat = m → m ≠ n → (∀ b ∈ rest, b.seat ≠ m) → s.part.inService m = true →
      (s.part.seatAt m).role ≠ .chair → (∀ g, s.part.openEntry g m = none) → s.part.isPrivate f = false →
      Leaves c s { s.withPress n y with
        floors := upd s.part.floors f (fun _ => (fl.without n).opens (fl.delegateEntry q m))
        queues := upd s.part.queues f (fun _ => { w with entries := rest }) }) := by
  have hD := h.pressed.floorHolds t.floor
  have hd := t.delegate h (.inl hgo) hr
  have hopen' : (D.openEntry f n).isSome = true := by rw [h.pressed.openEntry]; exact hopen
  have hheld : x.priorityHeld = false → (D.seatAt n).priorityHeld = false := fun hfree => by
    rw [h.pressed.held, s.part.seatAt_of_nth n x h.pressed.seat]; exact hfree
  refine ⟨fun hself => h.flashes (hd.trans (hD.speakDelegate_stays hopen' hself)), fun hself hfree hidle => ?_, ?_⟩
  · refine h.writesFloor (hd.trans ?_)
    rw [hD.speakDelegate_closes hopen' hself, D.closeThenGrant_idle n f (hheld hfree) (by rw [hD.par, hD.queueAt]; exact hidle), hD.drops]
  · intro m a rest hself hfree hmode hdel hplace hentries ha _ hrest hserve hrole hclosed hin
    refine h.writesBoth (hd.trans ?_)
    rw [hD.speakDelegate_closes hopen' hself]
    exact Part.closeThenGrant_one hD.floor hD.queue hD.params t.live hgo hmode hplace (by rw [h.pressed.isDelegate]; exact hdel)
      (hheld hfree) hentries ha hrest (by rw [h.pressed.doors.inService]; exact hserve) (by rw [h.pressed.doors.role]; exact hrole)
      (fun g => by rw [h.pressed.openEntry]; exact hclosed g) (by rw [h.pressed.doors.isPrivate]; exact hin)

/-- A closed delegate presses SPEAK at an OPEN_FLOOR (R93). -/
theorem State.SpeakTaken.open_floor (t : s.SpeakTaken n f fl w q x) (h : s.Dispatches c n .speak x y D)
    (hgo : fl.suspended = false) (hr : x.role ≠ .chair) (hclosed : ∀ g, s.part.openEntry g n = none)
    (hqueued : s.part.isQueued f n = false) (hmode : q.mode = .openFloor) (hfull : q.limit ≤ fl.delegates) :
    (q.overflow = .refuse → Leaves c s (s.withPress n { y with flashDue := true })) ∧
    (q.overflow = .queue → D.dispatch n .speak = D.enqueueOrFlash f n) ∧
    (∀ m, q.overflow = .replaceOldest → fl.oldestDelegate = some m → (s.part.seatAt m).priorityHeld = false →
      Leaves c s { s.withPress n y with
        seats := (upd (upd s.part.seats n (fun _ => y)) m
          (fun z => { z with guardUntil := some (s.part.now + Config.guard) })).map Seat.quiet
        floors := upd s.part.floors f (fun _ => (fl.without m).opens (fl.delegateEntry q n)) }) := by
  have hD := h.pressed.floorHolds t.floor
  have hqueued' : D.isQueued f n = false := by rw [h.pressed.isQueued]; exact hqueued
  have hclosed' : ∀ g, D.openEntry g n = none := fun g => by rw [h.pressed.openEntry]; exact hclosed g
  have hd : D.dispatch n .speak = D.speakOverflow f n := by
    rw [t.delegate h (.inl hgo) hr, Part.speakDelegate_closed (hclosed' f) hqueued', hD.speakClosed_full hmode hfull]
  refine ⟨fun ho => h.flashes (hd.trans (hD.speakOverflow_refuses ho)), fun ho => hd.trans (hD.speakOverflow_queues ho),
    fun m ho hm hfree => ?_⟩
  have hopens := Part.forceClose_openSeat (m := m) hD.floor hD.params (by rw [h.pressed.held]; exact hfree) h.inService hclosed'
    (by rw [h.pressed.doors.isPrivate, h.pressed.doors.admitted]; exact t.inside) (by rw [h.pressed.role]; exact hr)
  rw [D.queues_without f n hqueued'] at hopens
  have hguards := h.guards (m := m) _ D.queues (hd.trans ((hD.speakOverflow_replaces ho hm).trans hopens))
  rw [h.pressed.queues, h.pressed.floors] at hguards
  exact hguards

end

/-- Settles O35: a GOOD POLL's one new press, dispatched in the part with the seat scored and read; then the guard, the floor's
state, the chair's toggle, and for a delegate the mode, the limit and the overflow policy. -/
theorem speakPressByFloorAndMode : Obligations.SpeakPressByFloorAndMode := by
  intro s seg n f img rx up e x y fl q w c r flashed hpoll hno hx hup hawake hf hfl hw hq hy hc hr hflashed
  obtain ⟨D, h⟩ := hpoll.dispatches hno hx hup hawake
  subst hflashed hr
  rw [← hy, ← hc] at h
  have hp : s.part.Holds n f fl w q := ⟨hf, hfl, hw, hq⟩
  have hD := h.pressed.floorHolds hp
  have hspeak := h.speak hp
  refine ⟨fun hguard => h.keeps ?guarded, fun hfree => ?_⟩
  case guarded =>
    rw [hspeak, if_pos (Option.isSome_iff_ne_none.2 hguard)]
  rw [hfree, if_neg (by simp)] at hspeak
  have refused := fun hwhy => h.flashes (hspeak.trans (D.speakUnguarded_refused f n hwhy))
  rw [hD.floorAt, h.pressed.isQueued, h.pressed.doors.isPrivate, h.pressed.doors.admitted] at refused
  refine ⟨fun hl => refused (.inl hl), fun hs hn => refused (.inr (.inl ⟨hs, hn⟩)),
    fun hs hn => refused (.inr (.inr ⟨hs, hn⟩)), fun hlive hin => ?_⟩
  have t : s.SpeakTaken n f fl w q x := ⟨hp, hfree, hlive, hin⟩
  refine ⟨fun hr hclosed hqueued => ?withdraws, fun hgo => ⟨fun hr hclosed => ?opens, fun hr hopen hheld => ?closes,
    fun hr hopen => t.open_delegate h hgo hr hopen, fun hr hclosed hqueued joins room hjoins hroom => ?_⟩⟩
  case withdraws =>
    refine h.writesQueue ((t.delegate h (.inr hqueued) hr).trans ?_)
    exact hD.speakDelegate_leaves (by rw [h.pressed.openEntry]; exact hclosed) (by rw [h.pressed.isQueued]; exact hqueued)
  case opens =>
    refine h.writesBoth ((t.chair h (.inl hgo) hr).trans ?_)
    exact hD.speakChair_opens (h.mayOpen hclosed hin) (by rw [h.pressed.openEntry]; exact hclosed f) (by rw [h.pressed.role]; exact hr)
  case closes =>
    refine h.writesFloor ((t.chair h (.inl hgo) hr).trans ?_)
    exact hD.speakChair_closes (by rw [h.pressed.openEntry]; exact hopen)
      (by rw [h.pressed.held, s.part.seatAt_of_nth n x hx]; exact hheld)
  subst hjoins
  have hqueued' : D.isQueued f n = false := by rw [h.pressed.isQueued]; exact hqueued
  have hclosed' : ∀ g, D.openEntry g n = none := fun g => by rw [h.pressed.openEntry]; exact hclosed g
  have hrole : (D.seatAt n).role ≠ .chair := by rw [h.pressed.role]; exact hr
  have hd : D.dispatch n .speak = D.speakClosed f n := by
    rw [t.delegate h (.inl hgo) hr, Part.speakDelegate_closed (hclosed' f) hqueued']
  have enqueue : D.dispatch n .speak = D.enqueueOrFlash f n → _ := fun hd => by
    have he := h.enqueues hp hd
    rw [← hroom] at he
    exact he
  rw [← h.pressed.queueFree] at hroom
  refine ⟨fun hmode => enqueue (hd.trans (hD.speakClosed_moderated hmode)), fun hmode hplace => ?_, fun hmode hfull => ?_,
    fun hmode => ⟨fun hfull => ?_, fun hr' hfull => ?_, fun hr' hplace hempty => ?_⟩⟩
  · exact h.writesFloor (hd.trans (hD.speakClosed_opens hmode hplace (h.mayOpen hclosed hin) hrole hqueued'))
  · obtain ⟨refuse, queue, replace⟩ := t.open_floor h hgo hr hclosed hqueued hmode hfull
    exact ⟨refuse, fun ho => enqueue (queue ho), replace⟩
  · exact h.flashes (hd.trans (hD.speakClosed_auto_full hmode (hroom.not.1 hfull)))
  · refine h.writesQueue (hd.trans ?_)
    rw [hD.speakClosed_auto hmode (hroom.1 hr') _ rfl, Part.autoGrant_idle _ f (Part.grantReady_full _ f ?_), h.queueClass]
    exact (congrArg FloorParams.limit hD.par).trans_le (hfull.trans_eq (congrArg Floor.delegates hD.floorAt.symm))
  · exact h.writesBoth (hd.trans (hD.speakClosed_auto_opens hmode (hroom.1 hr') hlive hgo hplace hempty h.inService hrole hclosed'
      (by rw [h.pressed.doors.isPrivate, h.pressed.doors.admitted]; exact hin)))

end Sys2Proof.Machine
end

section
/-! The chair's buttons: NEXT, CANCEL_ALL and the two edges of PRIORITY (O36). -/

namespace Sys2Proof.Machine

/-! ### The tests of a chair button (R83, R85, R96) -/

section
variable {p : Part} {n f : Nat}

theorem Part.chairButtons_not (h : (p.seatAt n).unitKind ≠ some .chair ∨ (p.seatAt n).role ≠ .chair) : p.chairButtons n = false :=
  decide_eq_false fun hboth => h.elim (fun hk => hk hboth.1) fun hr => hr hboth.2

theorem Part.chairButtons_of (hk : (p.seatAt n).unitKind = some .chair) (hr : (p.seatAt n).role = .chair) :
    p.chairButtons n = true := decide_eq_true ⟨hk, hr⟩

/-- The buttons of a chair alone (R83). -/
theorem Part.pressAt_refused (b : Button) (hb : b = .next ∨ b = .cancelAll) (h : p.floorOf n = none ∨ p.chairButtons n = false) :
    p.pressAt n b = p.flash n := by
  cases hf : p.floorOf n with
  | none => rcases hb with rfl | rfl <;> simp only [Part.pressAt, hf]
  | some f =>
    have hc : p.chairButtons n = false := h.resolve_left (by rw [hf]; simp)
    rcases hb with rfl | rfl <;> simp [Part.pressAt, hf, hc]

theorem Part.risingEdge_refused (h : p.floorOf n = none ∨ p.chairButtons n = false) : p.risingEdge n = p.flash n := by
  cases hf : p.floorOf n with
  | none => simp only [Part.risingEdge, hf]
  | some f =>
    have hc : p.chairButtons n = false := h.resolve_left (by rw [hf]; simp)
    simp [Part.risingEdge, hf, hc]

theorem Part.chairTaken_not (whileSuspended : Bool)
    (h : (p.floorAt f).state ≠ .live ∨ (whileSuspended = false ∧ (p.floorAt f).suspended = true) ∨
      (p.isPrivate f = true ∧ p.admitted n = false)) : p.chairTaken f n whileSuspended = false := by
  rcases h with h | ⟨hw, hs⟩ | ⟨hp, ha⟩
  · simp [Part.chairTaken, h]
  · simp [Part.chairTaken, hw, hs]
  · simp [Part.chairTaken, hp, ha]

theorem Part.chairTaken_of (whileSuspended : Bool) (hlive : (p.floorAt f).state = .live)
    (hgo : whileSuspended = true ∨ (p.floorAt f).suspended = false) (hin : p.isPrivate f = false ∨ p.admitted n = true) :
    p.chairTaken f n whileSuspended = true := by
  have hgo' : (whileSuspended || !(p.floorAt f).suspended) = true := by rcases hgo with h | h <;> simp [h]
  have hin' : (!p.isPrivate f || p.admitted n) = true := by rcases hin with h | h <;> simp [h]
  rw [Part.chairTaken, hgo', hin', hlive]
  rfl

end

/-! ### NEXT (R97) -/

section
variable {p : Part} {n f m : Nat} {fl : Floor} {w : Queue} {q : FloorParams}

/-- The head of the queue opens in the place of a delegate whose entry is closed as a forced close (R97). -/
theorem Part.Holds.nextSpeaker_replaces (h : p.Holds n f fl w q) {d : Nat} {a : QueueEntry} {rest : List QueueEntry}
    (hfull : q.limit ≤ fl.delegates) (hd : fl.oldestDelegate = some d) (hfree : (p.seatAt d).priorityHeld = false)
    (hplace : q.limit ≤ (fl.without d).delegates + 1) (hentries : w.entries = a :: rest) (ha : a.seat = m)
    (hrest : ∀ b ∈ rest, b.seat ≠ m) (hserve : p.inService m = true) (hr : (p.seatAt m).role ≠ .chair)
    (hclosed : ∀ g, p.openEntry g m = none) (hin : p.isPrivate f = false) :
    p.nextSpeaker f =
      { p with
        seats := upd p.seats d (fun z => { z with guardUntil := some (p.now + Config.guard) })
        floors := upd p.floors f (fun _ => (fl.without d).opens (fl.delegateEntry q m))
        queues := upd p.queues f (fun _ => { w with entries := rest }) } := by
  have hdoors := ((Part.SameDoors.rfl' p).dropEntry f d).setGuard d
  have hnth : nth ((p.dropEntry f d).setGuard d).floors f = some (fl.without d) := by
    rw [h.drops]
    change nth (upd p.floors f _) f = _
    rw [nth_upd_same, h.floor]; rfl
  have hgrant := Part.grantHead_delegate (p := (p.dropEntry f d).setGuard d) hnth h.queue h.params hentries ha hrest
    ((hdoors.inService m).trans hserve) (by rw [hdoors.role]; exact hr) (fun g => p.openEntry_dropEntry f d g m (hclosed g))
    (.inl ((hdoors.isPrivate f).trans hin))
  have hnext : p.nextSpeaker f = (((p.dropEntry f d).setGuard d).grantHead f).autoGrant f := by
    rw [Part.nextSpeaker, h.par, h.floorAt, if_neg (Nat.not_lt.2 hfull), hd]
    simp only [p.forceClose_free f d hfree]
  rw [hnext, hgrant, Part.autoGrant_idle, h.drops]
  · simp only [Part.setGuard, Part.updSeat, upd_upd]
    rfl
  · refine Part.grantReady_full _ f ?_
    rw [Part.floorAt_written (p := (p.dropEntry f d).setGuard d) rfl hnth]
    exact (congrArg FloorParams.limit (Floor.par_some _ q h.params)).trans_le
      (hplace.trans_eq ((fl.without d).delegates_opens q m).symm)

theorem Part.Holds.nextSpeaker_grants (h : p.Holds n f fl w q) (hroom : fl.delegates < q.limit) : p.nextSpeaker f = p.grantHead f := by
  rw [Part.nextSpeaker, h.par, h.floorAt, if_pos hroom]

theorem Part.Holds.nextPress_refused (h : p.Holds n f fl w q) (hno : p.chairTaken f n false = false ∨ w.entries = []) :
    p.nextPress f n = p.flash n := by
  rw [Part.nextPress, h.queueAt]
  rcases hno with hno | hno <;> simp [hno]

theorem Part.Holds.nextPress_taken (h : p.Holds n f fl w q) (hyes : p.chairTaken f n false = true) (hsome : w.entries ≠ []) :
    p.nextPress f n = p.nextSpeaker f := by
  rw [Part.nextPress, h.queueAt, hyes]
  simp [hsome]

end

/-! ### Holds (R85, R99, R100) -/

section
variable {p : Part} {n f : Nat} {fl : Floor} {w : Queue} {q : FloorParams}

/-- What a starting hold does to the entries of a floor: the first one mutes the delegates (R99). -/
def Floor.mutes (fl : Floor) (a : OpenEntry) : OpenEntry :=
  if fl.priorityHolders = 0 ∧ a.cls = .delegate then { a with muted := true } else a

theorem Floor.map_mutes_first (fl : Floor) (l : List OpenEntry) (h : fl.priorityHolders = 0) : l.map OpenEntry.mute = l.map fl.mutes :=
  List.map_congr_left fun a _ => by simp [Floor.mutes, OpenEntry.mute, h]

theorem Floor.map_mutes_later (fl : Floor) (l : List OpenEntry) (h : fl.priorityHolders ≠ 0) : l.map fl.mutes = l :=
  (List.map_congr_left fun a _ => by simp [Floor.mutes, h]).trans (List.map_id _)

/-- A hold as it starts, before the first one mutes: seat and floor written (R99). -/
def Part.takesHold (p : Part) (f n : Nat) : Part :=
  (p.updSeat n (fun s => { s with priorityHeld := true })).updFloor f
    (fun fl => { fl with priorityHolders := fl.priorityHolders + 1 })

/-- The muting step of a starting hold. -/
theorem Part.Holds.startHold_mutes (h : p.Holds n f fl w q) (A : Part) (fl' : Floor)
    (hA : (if (p.openEntry f n).isSome then p.takesHold f n else (p.takesHold f n).openSeat f n) = A)
    (hfl' : nth A.floors f = some fl') :
    p.startHold f n = { A with floors := upd A.floors f (fun _ => { fl' with openList := fl'.openList.map fl.mutes }) } := by
  have hstart : p.startHold f n =
      if fl.priorityHolders = 0 then A.updFloor f (fun fl => { fl with openList := fl.openList.map OpenEntry.mute }) else A := by
    rw [← hA, ← h.floorAt]; rfl
  rw [hstart]
  by_cases hfirst : fl.priorityHolders = 0
  · rw [if_pos hfirst, A.updFloor_eq f _ fl' hfl', fl.map_mutes_first _ hfirst]
  · rw [if_neg hfirst, fl.map_mutes_later _ hfirst, upd_self A.floors f fl' hfl']

theorem Part.Holds.takesHold_floor (h : p.Holds n f fl w q) :
    nth (p.takesHold f n).floors f = some { fl with priorityHolders := fl.priorityHolders + 1 } := by
  rw [Part.takesHold, Part.updFloor, nth_upd_same]
  change (nth p.floors f).map _ = _
  rw [h.floor]; rfl

theorem Part.sameDoors_takesHold (p : Part) (f n : Nat) : p.SameDoors (p.takesHold f n) :=
  ((Part.SameDoors.rfl' p).updSeat n (fun s => { s with priorityHeld := true }) (fun _ => rfl) (fun _ => rfl) fun _ => rfl).updFloor
    f (fun fl => { fl with priorityHolders := fl.priorityHolders + 1 }) fun _ => rfl

/-- A hold of an open chair starts (R99). -/
theorem Part.Holds.startHold_open (h : p.Holds n f fl w q) (hopen : (p.openEntry f n).isSome = true) :
    p.startHold f n = { p.updSeat n (fun s => { s with priorityHeld := true }) with
      floors := upd p.floors f (fun _ =>
        { fl with priorityHolders := fl.priorityHolders + 1, openList := fl.openList.map fl.mutes }) } := by
  rw [h.startHold_mutes (p.takesHold f n) _ (if_pos hopen) h.takesHold_floor]
  simp only [Part.takesHold, Part.updFloor, upd_upd]
  rfl

/-- A hold of a closed chair opens it first (R99). -/
theorem Part.Holds.startHold_closed (h : p.Holds n f fl w q) (hclosed : ∀ g, p.openEntry g n = none) (hserve : p.inService n = true)
    (hr : (p.seatAt n).role = .chair) (hin : p.isPrivate f = false ∨ p.admitted n = true) :
    p.startHold f n = { p.updSeat n (fun s => { s with priorityHeld := true }) with
      floors := upd p.floors f (fun _ =>
        { fl with
          priorityHolders := fl.priorityHolders + 1, openOrder := nextNumber fl.openOrder
          openList := (fl.openList ++ [fl.chairEntry n]).map fl.mutes })
      queues := upd p.queues f (fun _ => w.without n) } := by
  have hdoors := p.sameDoors_takesHold f n
  have hclosed' : ∀ g, (p.takesHold f n).openEntry g n = none := fun g => by
    by_cases hg : g = f
    · subst hg
      have hnone := hclosed g
      rw [Part.openEntry, h.floorAt] at hnone
      rw [Part.openEntry, Part.floorAt_of_nth _ g _ h.takesHold_floor]
      exact hnone
    · rw [Part.openEntry, Part.takesHold, Part.floorAt_updFloor_ne _ f g _ (Ne.symm hg)]
      exact hclosed g
  have hopens := Part.openSeat_chair h.takesHold_floor (hdoors.mayOpen f n hserve hclosed' hin) (by rw [hdoors.role]; exact hr)
  generalize hA : (p.takesHold f n).openSeat f n = A at hopens
  have hfloor : nth A.floors f = some { fl with
      priorityHolders := fl.priorityHolders + 1, openOrder := nextNumber fl.openOrder
      openList := fl.openList ++ [fl.chairEntry n] } := by
    rw [hopens, nth_upd_same, h.takesHold_floor]; rfl
  rw [h.startHold_mutes A _ (by rw [hclosed f, if_neg (by simp)]; exact hA) hfloor, hopens]
  have hqueues : upd (p.takesHold f n).queues f (fun w => w.without n) = upd p.queues f (fun _ => w.without n) := h.queues_without
  simp only [hqueues, upd_upd]
  simp only [Part.takesHold, Part.updFloor, upd_upd]
  rfl

theorem Part.Holds.endHold_held (h : p.Holds n f fl w q) (hheld : (p.seatAt n).priorityHeld = true) :
    p.endHold f n = { p.updSeat n (fun s => { s with priorityHeld := false }) with
      floors := upd p.floors f (fun _ => fl.dropHold) } := by
  rw [Part.endHold, if_pos hheld]
  exact Part.updFloor_eq _ f _ fl h.floor

end

/-! ### What a level's edge leaves -/

section
variable {s : State} {c : Instr} {n f : Nat} {x y : Seat} {D : Part}

/-- The records of a part that an edge made of `D` by writing the hold of its seat, a floor and its queue. -/
theorem Part.Pressed.heldWritten {p : Part} (h : p.Pressed D n x y) (held : Bool) (F : List Floor) (W : List Queue) :
    ({ D.updSeat n (fun s => { s with priorityHeld := held }) with floors := F, queues := W } : Part).records =
      { p.records.seat n { y with priorityHeld := held } with floors := F, queues := W } := by
  have hseat : (D.updSeat n (fun s => { s with priorityHeld := held })).records = p.records.seat n { y with priorityHeld := held } :=
    Records.updSeat_seat _ h.records x.quiet (by rw [Part.records, nth_map, h.seat]; rfl) fun z hz =>
      Seat.of_quiet (fun s => ({ s with priorityHeld := held } : Seat).quiet) (fun _ => rfl) hz
  exact congrArg (fun r : Records => { r with floors := F, queues := W }) hseat

/-- CANCEL_ALL's end (R98, R103). -/
theorem State.Dispatches.cancels {fl : Floor} {w : Queue} (h : s.Dispatches c n .cancelAll x y D) (hfl : nth s.part.floors f = some fl)
    (hw : nth s.part.queues f = some w) (hd : D.dispatch n .cancelAll = D.cancelAll f)
    (hfree : ∀ a ∈ fl.openList, a.cls = .delegate → (s.part.seatAt a.seat).priorityHeld = false)
    (hnodup : (fl.openList.map (fun a => a.seat)).Nodup) :
    ∃ p, Ends c s p ∧
      p.floorAt f = { fl with openList := fl.openList.filter (fun a => decide (a.cls = .chair)) } ∧
      p.queueAt f = { w with entries := [] } ∧
      (∀ m z, nth (upd s.part.seats n (fun _ => y)) m = some z →
        (p.seatAt m).quiet =
          (if (∃ a ∈ fl.openList, a.cls = .delegate ∧ a.seat = m) then
            { z with guardUntil := some (s.part.now + Config.guard) } else z).quiet) ∧
      (∀ g, g ≠ f → p.floorAt g = s.part.floorAt g ∧ p.queueAt g = s.part.queueAt g) ∧
      p.records = { s.withPress n y with seats := p.records.seats, floors := p.floors, queues := p.queues } := by
  have hD := h.pressed
  have hc := D.cancelAll_cancelled f fl (by rw [hD.floors]; exact hfl) (fun a ha hcls => by rw [hD.held]; exact hfree a ha hcls) hnodup
  have hends : D.PressEnds (D.cancelAll f) n := by
    refine ⟨(congrArg Part.control hc.rest).trans rfl, (congrArg Part.now hc.rest).trans rfl, ?_⟩
    rw [Part.seatAt, Part.seatAt, hc.seats n]
    cases nth D.seats n with
    | none => rfl
    | some z => by_cases hz : n ∈ fl.delegateSeats <;> simp [hz]
  obtain ⟨p, hexec, hanswer, hrecords⟩ := h.ends _ hd hends
  have hpf : p.floors = upd s.part.floors f
      (fun _ => { fl with openList := fl.openList.filter (fun a => decide (a.cls = .chair)) }) := by
    rw [← hD.floors]
    exact (congrArg Records.floors hrecords).trans (congrArg Part.floors hc.rest)
  have hpq : p.queues = upd s.part.queues f (fun w => { w with entries := [] }) := by
    rw [← hD.queues]
    exact (congrArg Records.queues hrecords).trans (congrArg Part.queues hc.rest)
  refine ⟨p, ⟨hexec, hanswer⟩, Part.floorAt_written hpf hfl, Part.queueAt_written hpq hw, fun m z hz => ?_,
    fun g hg => ⟨Part.floorAt_other hpf hg, Part.queueAt_other hpq hg⟩, ?_⟩
  · have hseats : nth (p.seats.map Seat.quiet) m = nth ((D.cancelAll f).seats.map Seat.quiet) m :=
      congrArg (fun l => nth l m) (congrArg Records.seats hrecords)
    have hdseats : nth (D.seats.map Seat.quiet) m = some z.quiet := by
      rw [show D.seats.map Seat.quiet = _ from congrArg Records.seats hD.records, Records.seat, Part.records, ← map_upd_const,
        nth_map, hz]
      rfl
    rw [nth_map] at hdseats
    obtain ⟨a, ha, haz⟩ := Option.map_eq_some_iff.1 hdseats
    rw [nth_map, nth_map, hc.seats m, ha] at hseats
    obtain ⟨a', ha', haq⟩ := Option.map_eq_some_iff.1 hseats
    have hdel : m ∈ fl.delegateSeats ↔ ∃ a ∈ fl.openList, a.cls = .delegate ∧ a.seat = m := by
      simp [Floor.delegateSeats, and_assoc]
    rw [p.seatAt_of_nth m a' ha', haq]
    beta_reduce
    by_cases hm : m ∈ fl.delegateSeats
    · rw [if_pos hm, if_pos (hdel.1 hm), hD.now]
      exact Seat.of_quiet (fun s' => ({ s' with guardUntil := some (s.part.now + Config.guard) } : Seat).quiet) (fun _ => rfl) haz
    · rw [if_neg hm, if_neg fun hex => hm (hdel.2 hex)]
      exact haz
  · have hout := hc.outside
    rw [hD.records, ← State.withSeat_eq] at hout
    rw [hout] at hrecords
    have hs : p.records.seats = (D.cancelAll f).records.seats := (congrArg Records.seats hrecords).trans rfl
    have hf : p.floors = (D.cancelAll f).floors := (congrArg Records.floors hrecords).trans rfl
    have hq : p.queues = (D.cancelAll f).queues := (congrArg Records.queues hrecords).trans rfl
    rw [hs, hf, hq]
    exact hrecords

end

end Sys2Proof.Machine
end

section
/-! The chair's buttons settled, clause by clause (O36). -/

namespace Sys2Proof.Machine

/-! ### The levels' edges as events -/

section
variable {s : State} {seg : Segment} {n f : Nat} {img : Image} {rx : Reception} {up : Uplink} {x : Seat}

theorem State.goodPoll.rises (h : s.goodPoll seg n img rx up) (hno : s.part.noOperation) (hx : nth s.part.seats n = some x)
    (hspeak : up.speak = none) (hnext : up.next = none) (hcancel : up.cancelAll = none) (hdown : x.priorityUp = false)
    (hup : up.priorityUp = true) :
    ∃ D : Part, s.part.Pressed D n x { x.afterPoll img with priorityUp := true } ∧
      Leaves (.pollAnswer seg rx up) s (D.risingEdge n).records := by
  obtain ⟨D, hD, hleaves⟩ := h.edge hno hx hspeak hnext hcancel (by rw [hdown, hup]; decide)
  rw [hup] at hD hleaves
  exact ⟨D, hD, hleaves⟩

theorem State.goodPoll.falls (h : s.goodPoll seg n img rx up) (hno : s.part.noOperation) (hx : nth s.part.seats n = some x)
    (hspeak : up.speak = none) (hnext : up.next = none) (hcancel : up.cancelAll = none) (hwas : x.priorityUp = true)
    (hup : up.priorityUp = false) :
    ∃ D : Part, s.part.Pressed D n x { x.afterPoll img with priorityUp := false } ∧
      Leaves (.pollAnswer seg rx up) s (D.stopHold n).records := by
  obtain ⟨D, hD, hleaves⟩ := h.edge hno hx hspeak hnext hcancel (by rw [hwas, hup]; decide)
  rw [hup] at hD hleaves
  exact ⟨D, hD, hleaves⟩

/-- A refused edge of the level (R85). -/
theorem State.goodPoll.rises_refused (h : s.goodPoll seg n img rx up) (hno : s.part.noOperation) (hx : nth s.part.seats n = some x)
    (hspeak : up.speak = none) (hnext : up.next = none) (hcancel : up.cancelAll = none) (hdown : x.priorityUp = false)
    (hup : up.priorityUp = true)
    (hflash : ∀ D y, s.part.Pressed D n x y → D.risingEdge n = D.flash n) :
    Leaves (.pollAnswer seg rx up) s (s.withSeat n { x.afterPoll img with priorityUp := true, flashDue := true }) := by
  obtain ⟨D, hD, hleaves⟩ := h.rises hno hx hspeak hnext hcancel hdown hup
  refine leaves_congr hleaves ?_
  rw [hflash D _ hD, hD.flash (h.present hx), State.withSeat_eq]

end

section
variable {p D : Part} {n f : Nat} {x y : Seat}

theorem Part.Pressed.notChair (h : p.Pressed D n x y)
    (hno : p.floorOf n = none ∨ x.unitKind ≠ some .chair ∨ x.role ≠ .chair) :
    D.floorOf n = none ∨ D.chairButtons n = false := by
  rw [← h.kind, ← h.role, ← h.doors.floorOf n] at hno
  exact hno.imp_right Part.chairButtons_not

theorem Part.Pressed.chair (h : p.Pressed D n x y) (hk : x.unitKind = some .chair) (hr : x.role = .chair) :
    D.chairButtons n = true :=
  Part.chairButtons_of (h.kind.trans hk) (h.role.trans hr)

/-- The tests of a chair button at its floor, as they stood before the POLL. -/
theorem Part.Pressed.chairTaken_not {fl : Floor} {w : Queue} {q : FloorParams} (h : p.Pressed D n x y) (hp : p.Holds n f fl w q)
    (whileSuspended : Bool)
    (hno : fl.state ≠ .live ∨ (whileSuspended = false ∧ fl.suspended = true) ∨ (p.isPrivate f = true ∧ p.admitted n = false)) :
    D.chairTaken f n whileSuspended = false :=
  Part.chairTaken_not _ (by rw [(h.floorHolds hp).floorAt, h.doors.isPrivate, h.doors.admitted]; exact hno)

theorem Part.Pressed.chairTaken_of {fl : Floor} {w : Queue} {q : FloorParams} (h : p.Pressed D n x y) (hp : p.Holds n f fl w q)
    (whileSuspended : Bool) (hlive : fl.state = .live) (hgo : whileSuspended = true ∨ fl.suspended = false)
    (hin : p.isPrivate f = false ∨ p.admitted n = true) : D.chairTaken f n whileSuspended = true :=
  Part.chairTaken_of _ (by rw [(h.floorHolds hp).floorAt]; exact hlive) (by rw [(h.floorHolds hp).floorAt]; exact hgo)
    (by rw [h.doors.isPrivate, h.doors.admitted]; exact hin)

theorem Part.Pressed.inService (h : p.Pressed D n x y) (hpresent : x.health.presence = .present) : D.inService n = true := by
  rw [h.doors.inService, Part.inService, p.seatAt_of_nth n x h.seat, hpresent]
  rfl

/-- A rising edge of a chair at its floor (R85, R96). -/
theorem Part.Pressed.risingEdge {fl : Floor} {w : Queue} {q : FloorParams} (h : p.Pressed D n x y) (hp : p.Holds n f fl w q)
    (hpresent : x.health.presence = .present) (hk : x.unitKind = some .chair) (hr : x.role = .chair) :
    D.risingEdge n = if D.chairTaken f n false then D.startHold f n else D.flash n := by
  simp only [Part.risingEdge, (h.floorHolds hp).holds, h.inService hpresent, h.chair hk hr, Bool.and_self, if_true, Part.priorityPress]

theorem Part.Pressed.stopHold {fl : Floor} {w : Queue} {q : FloorParams} (h : p.Pressed D n x y) (hp : p.Holds n f fl w q) :
    D.stopHold n = D.endHold f n := by
  simp only [Part.stopHold, (h.floorHolds hp).holds]

end

/-- Settles O36: each button dispatched in the part with the seat scored and read; NEXT by the limit, CANCEL_ALL by closing every
delegate, and the edges of PRIORITY by the holds that start and end. -/
theorem chairButtonsActOnTheFloor : Obligations.ChairButtonsActOnTheFloor := by
  intro s seg n img rx up e x c hpoll hno hx hawake hc
  subst hc
  have hpresent := hpoll.present hx
  refine ⟨fun b hb hup hrefused => ?button, fun hspeak hnext hcancel hdown hlevel hrefused => ?edge,
    fun f fl q w hf hfl hw hq hk hr => ⟨fun hup => ?next, fun hup => ?cancel, fun hspeak hnext hcancel =>
      ⟨fun hdown hlevel => ?rises, fun hwas hlevel => ?falls⟩⟩⟩
  case button =>
    obtain ⟨D, h⟩ := hpoll.dispatches hno hx hup hawake
    exact h.flashes (h.dispatch.trans (Part.pressAt_refused b hb (h.pressed.notChair hrefused)))
  case edge =>
    exact hpoll.rises_refused hno hx hspeak hnext hcancel hdown hlevel fun D y hD => Part.risingEdge_refused (hD.notChair hrefused)
  case next =>
    have hp : s.part.Holds n f fl w q := ⟨hf, hfl, hw, hq⟩
    obtain ⟨D, h⟩ := hpoll.dispatches hno hx hup hawake
    have hD := h.pressed.floorHolds hp
    have hdoors := h.pressed.doors
    have hd : D.dispatch n .next = D.nextPress f n := by
      rw [h.dispatch]
      simp only [Part.pressAt, hD.holds, h.pressed.chair hk hr, if_true]
    refine ⟨fun hwhy => h.flashes (hd.trans (hD.nextPress_refused ?_)), ?granted⟩
    · rcases hwhy with hl | hs | hout | hempty
      · exact .inl (h.pressed.chairTaken_not hp false (.inl hl))
      · exact .inl (h.pressed.chairTaken_not hp false (.inr (.inl ⟨rfl, hs⟩)))
      · exact .inl (h.pressed.chairTaken_not hp false (.inr (.inr hout)))
      · exact .inr hempty
    case granted =>
      intro m a rest hlive hgo hin hentries ha hrest hserve hrole hclosed
      have hnext := hd.trans (hD.nextPress_taken (h.pressed.chairTaken_of hp false hlive (.inr hgo) (.inl hin))
        (by rw [hentries]; exact List.cons_ne_nil _ _))
      have hserve' : D.inService m = true := (hdoors.inService m).trans hserve
      have hrole' : (D.seatAt m).role ≠ .chair := by rw [hdoors.role]; exact hrole
      have hclosed' : ∀ g, D.openEntry g m = none := fun g => (h.pressed.openEntry g m).trans (hclosed g)
      have hin' : D.isPrivate f = false := (hdoors.isPrivate f).trans hin
      refine ⟨fun hroom => h.writesBoth (hnext.trans ?_), fun d hfull hd' hfree _ hplace => ?_⟩
      · rw [hD.nextSpeaker_grants hroom]
        exact Part.grantHead_delegate hD.floor hD.queue hD.params hentries ha hrest hserve' hrole' hclosed' (.inl hin')
      · have hguards := h.guards (m := d) _ _ (hnext.trans (hD.nextSpeaker_replaces hfull hd' (by rw [h.pressed.held]; exact hfree)
          hplace hentries ha hrest hserve' hrole' hclosed' hin'))
        rw [h.pressed.floors, h.pressed.queues] at hguards
        exact hguards
  case cancel =>
    have hp : s.part.Holds n f fl w q := ⟨hf, hfl, hw, hq⟩
    obtain ⟨D, h⟩ := hpoll.dispatches hno hx hup hawake
    have hd : D.dispatch n .cancelAll = if D.chairTaken f n true then D.cancelAll f else D.flash n := by
      rw [h.dispatch]
      simp only [Part.pressAt, (h.pressed.floorHolds hp).holds, h.pressed.chair hk hr, if_true, Part.cancelAllPress]
    refine ⟨fun hwhy => h.flashes ?_, fun hlive hin hfree hnodup => h.cancels hfl hw ?_ hfree hnodup⟩
    · rw [hd, h.pressed.chairTaken_not hp true (hwhy.imp_right .inr)]
      rfl
    · rw [hd, h.pressed.chairTaken_of hp true hlive (.inl rfl) hin]
      rfl
  case rises =>
    have hp : s.part.Holds n f fl w q := ⟨hf, hfl, hw, hq⟩
    refine ⟨fun hwhy => ?_, fun mute hmute hlive hgo hin => ?_⟩
    · refine hpoll.rises_refused hno hx hspeak hnext hcancel hdown hlevel fun D y hD => ?_
      rw [hD.risingEdge hp hpresent hk hr, hD.chairTaken_not hp false (hwhy.imp_right fun h => h.imp_left fun hs => ⟨rfl, hs⟩)]
      rfl
    · subst hmute
      obtain ⟨D, hD, hleaves⟩ := hpoll.rises hno hx hspeak hnext hcancel hdown hlevel
      rw [hD.risingEdge hp hpresent hk hr, hD.chairTaken_of hp false hlive (.inr hgo) hin, if_pos rfl] at hleaves
      have hDp := hD.floorHolds hp
      refine ⟨fun hopen => leaves_congr hleaves ?_, fun hclosed => leaves_congr hleaves ?_⟩
      · rw [hDp.startHold_open (by rw [hD.openEntry]; exact hopen)]
        refine (hD.heldWritten true _ _).trans ?_
        rw [State.withSeat_eq, hD.floors]
        exact congrArg (fun W => ({ s.part.records.seat n _ with floors := _, queues := W } : Records)) hD.queues
      · rw [hDp.startHold_closed (fun g => (hD.openEntry g n).trans (hclosed g)) (hD.inService hpresent) (hD.role.trans hr)
          (by rw [hD.doors.isPrivate, hD.doors.admitted]; exact hin)]
        refine (hD.heldWritten true _ _).trans ?_
        rw [State.withSeat_eq, hD.floors, hD.queues]
        rfl
  case falls =>
    have hp : s.part.Holds n f fl w q := ⟨hf, hfl, hw, hq⟩
    obtain ⟨D, hD, hleaves⟩ := hpoll.falls hno hx hspeak hnext hcancel hwas hlevel
    rw [hD.stopHold hp] at hleaves
    have hheld : (D.seatAt n).priorityHeld = x.priorityHeld := by rw [hD.held, s.part.seatAt_of_nth n x hx]
    refine ⟨fun hfree => leaves_congr hleaves ?_, fun hholds => leaves_congr hleaves ?_⟩
    · rw [Part.endHold, hheld, hfree, State.withSeat_eq]
      exact hD.records
    · rw [(hD.floorHolds hp).endHold_held (hheld.trans hholds)]
      refine (hD.heldWritten false _ _).trans ?_
      rw [State.withSeat_eq, hD.floors]
      exact congrArg (fun W => ({ s.part.records.seat n _ with floors := _, queues := W } : Records)) hD.queues

end Sys2Proof.Machine
end

section
/-! A POLL of the seat of the last AWAITING entry of an operation: the attempt, and the phase that goes on (R47, R48). -/

namespace Sys2Proof.Machine

/-! ### A part with one seat written -/

/-- The part in which seat `n` is `y`. -/
def Part.withSeat (p : Part) (n : Nat) (y : Seat) : Part := { p with seats := upd p.seats n (fun _ => y) }

theorem Part.withSeat_records (p : Part) (n : Nat) (y : Seat) : (p.withSeat n y).records = p.records.seat n y :=
  congrArg (fun seats => ({ p.records with seats := seats } : Records)) (map_upd_const Seat.quiet p.seats n y)

theorem Part.withSeat_inService (p : Part) (n : Nat) (x y : Seat) (hx : nth p.seats n = some x)
    (hy : y.health.presence = x.health.presence) (m : Nat) : (p.withSeat n y).inService m = p.inService m := by
  rw [Part.inService, Part.inService, Part.seatAt, Part.seatAt, Part.withSeat]
  by_cases hm : m = n
  · subst hm
    rw [nth_upd_same, hx]
    exact congrArg Presence.inService hy
  · rw [nth_upd_ne _ _ _ _ (Ne.symm hm)]

/-! ### The last AWAITING entry -/

/-- The one operation in flight is on floor `f`, in `phase` for booking `h`; its one AWAITING entry `v` is that of seat `n`, and
no POLL of it was on the line before. -/
structure Part.LastEntry (p : Part) (n f h : Nat) (phase : OpPhase) (v : WorkEntry) (others : List WorkEntry) : Prop where
  low : 1 ≤ f
  high : f ≤ 4
  length : p.contexts.length = 4
  context : p.contextAt f = some { booking := h, phase := phase, work := v :: others }
  alone : ∀ g, g ≠ f → p.contextAt g = none
  seat : v.seat = n
  awaiting : v.status = .awaiting
  unsent : v.sentBefore = false
  others : ∀ u ∈ others, u.seat ≠ n ∧ u.status ≠ .awaiting

section
variable {s p : Part} {n f h : Nat} {phase : OpPhase} {v : WorkEntry} {others : List WorkEntry}

theorem Part.LastEntry.of_contexts (l : s.LastEntry n f h phase v others) (hc : p.contexts = s.contexts) :
    p.LastEntry n f h phase v others := by
  have hat : ∀ g, p.contextAt g = s.contextAt g := fun g => by rw [Part.contextAt, Part.contextAt, hc]
  exact ⟨l.low, l.high, by rw [hc]; exact l.length, by rw [hat]; exact l.context, fun g hg => by rw [hat]; exact l.alone g hg,
    l.seat, l.awaiting, l.unsent, l.others⟩

/-- The operation that a POLL of the seat is reported to (R61). -/
theorem Part.LastEntry.workFloor (l : p.LastEntry n f h phase v others) : p.workFloor n = some f := by
  have hyes : ((p.contextAt f).map (fun c => c.work.any (fun w => w.seat == n && decide (w.status = .awaiting)))).getD false =
      true := by
    simp [l.context, l.seat, l.awaiting]
  have hno : ∀ g, g ≠ f →
      ((p.contextAt g).map (fun c => c.work.any (fun w => w.seat == n && decide (w.status = .awaiting)))).getD false = false :=
    fun g hg => by simp [l.alone g hg]
  rw [Part.workFloor]
  cases hfind : floorNumbers.find? (fun f =>
      ((p.contextAt f).map (fun c => c.work.any (fun w => w.seat == n && decide (w.status = .awaiting)))).getD false) with
  | none => exact absurd hyes (List.find?_eq_none.1 hfind f (Part.Told.mem_floorNumbers l.low l.high))
  | some g =>
    by_cases hgf : g = f
    · rw [hgf]
    · have hfound := List.find?_some hfind
      rw [hno g hgf] at hfound
      cases hfound

/-- The work of the operation with the entry written. -/
def workContext (h : Nat) (phase : OpPhase) (v : WorkEntry) (others : List WorkEntry) : OpContext :=
  { booking := h, phase := phase, work := v :: others }

theorem Part.LastEntry.updWork (l : p.LastEntry n f h phase v others) (g : WorkEntry → WorkEntry) :
    (workContext h phase v others).updWork n g = workContext h phase (g v) others := by
  have hkeep : others.map (fun w => if w.seat = n ∧ w.status = .awaiting then g w else w) = others :=
    (List.map_congr_left fun u hu => if_neg fun hu' => (l.others u hu).1 hu'.1).trans (List.map_id _)
  rw [OpContext.updWork, workContext, List.map_cons, hkeep, if_pos ⟨l.seat, l.awaiting⟩]
  rfl

theorem Part.afterAttempt_awaiting (q : Part) (c : OpContext) (w : WorkEntry) (hc : c.workOf n = some w) (hw : w.status = .awaiting) :
    q.afterAttempt c n = q.requestSeat n := by
  simp only [Part.afterAttempt, hc, hw]

theorem Part.afterAttempt_failed (q : Part) (c : OpContext) (w : WorkEntry) (hc : c.workOf n = some w) (hw : w.status = .failed) :
    q.afterAttempt c n = q.workFailed c := by
  simp only [Part.afterAttempt, hc, hw]

theorem Part.afterAttempt_confirmed (q : Part) (c : OpContext) (w : WorkEntry) (hc : c.workOf n = some w)
    (hw : w.status = .confirmed) : q.afterAttempt c n = q := by
  simp only [Part.afterAttempt, hc, hw]

/-- A POLL of the seat is an attempt of the entry (R48): the operation's work `c`, whose entry of the seat is `w` by now. -/
theorem Part.LastEntry.workOutcome (l : p.LastEntry n f h phase v others) (good echo : Bool) (w : WorkEntry)
    (hw : v.attempt (good && (decide (phase ≠ .close) || echo)) = w) (hseat : w.seat = n) (c : OpContext)
    (hc : workContext h phase w others = c) :
    p.workOutcome n good echo = ((p.setContext f (some c)).afterAttempt c n).runTasks [.advance f] ∧ c.workOf n = some w := by
  have hupd := l.updWork (fun w => w.attempt (good && (decide (phase ≠ .close) || echo)))
  rw [hw, hc] at hupd
  refine ⟨?_, by simp [← hc, OpContext.workOf, workContext, hseat]⟩
  rw [Part.workOutcome, l.workFloor]
  simp only [l.context]
  exact congrArg (fun c => ((p.setContext f (some c)).afterAttempt c n).runTasks [.advance f]) hupd

theorem Part.Like.setContext (hl : s.Like p) (f : Nat) (c : Option OpContext) : (s.setContext f c).Like (p.setContext f c) :=
  show (p.setContext f c).records = (s.setContext f c).records from
    congrArg (fun r : Records => { r with contexts := upd r.contexts f (fun _ => c) }) hl

theorem WorkEntry.attempt_of (v : WorkEntry) (confirms : Bool) (h : v.sentBefore = false) :
    v.attempt confirms = { v with
      attempts := v.attempts + 1
      status := if confirms then .confirmed else if 3 ≤ v.attempts + 1 then .failed else .awaiting } := by
  cases confirms <;> simp [WorkEntry.attempt, h]

/-- The entry is confirmed (R48). -/
theorem Part.LastEntry.confirms (l : s.LastEntry n f h phase v others) (hl : s.Like p) (good echo : Bool)
    (hyes : (good && (decide (phase ≠ .close) || echo)) = true) :
    ∃ q w, p.workOutcome n good echo = q.runTasks [.advance f] ∧ (s.setContext f (some (workContext h phase w others))).Like q ∧
      settledWork (w :: others) = true := by
  have hattempt := v.attempt_of (good && (decide (phase ≠ .close) || echo)) l.unsent
  rw [hyes, if_pos rfl, ← hyes] at hattempt
  obtain ⟨hout, hof⟩ := (l.of_contexts hl.contexts).workOutcome good echo _ hattempt l.seat _ rfl
  rw [Part.afterAttempt_confirmed _ _ _ hof rfl] at hout
  refine ⟨_, { v with attempts := v.attempts + 1, status := .confirmed }, hout, hl.setContext f _, ?_⟩
  simpa [settledWork] using fun u hu => (l.others u hu).2

/-- The attempt failed, and the entry goes on AWAITING (R48). -/
theorem Part.LastEntry.waits (l : s.LastEntry n f h phase v others) (hl : s.Like p) (good echo : Bool)
    (hno : (good && (decide (phase ≠ .close) || echo)) = false) (hleft : v.attempts + 1 < 3) :
    ∃ q, p.workOutcome n good echo = q.runTasks [.advance f] ∧
      (s.setContext f (some (workContext h phase { v with attempts := v.attempts + 1 } others))).Like q ∧
      settledWork ({ v with attempts := v.attempts + 1 } :: others) = false := by
  have hattempt := v.attempt_of (good && (decide (phase ≠ .close) || echo)) l.unsent
  rw [hno, if_neg (by decide), if_neg (by omega), ← l.awaiting, ← hno] at hattempt
  obtain ⟨hout, hof⟩ := (l.of_contexts hl.contexts).workOutcome good echo _ hattempt l.seat _ rfl
  rw [Part.afterAttempt_awaiting _ _ _ hof l.awaiting] at hout
  exact ⟨_, hout, (Part.requestSeat_records _ _).trans (hl.setContext f _), by simp [settledWork, l.awaiting]⟩

/-- The third attempt failed: the phase's flag is added (R48, R50, R57). -/
theorem Part.LastEntry.fails (l : s.LastEntry n f h phase v others) (hl : s.Like p) (good echo : Bool)
    (hno : (good && (decide (phase ≠ .close) || echo)) = false) (hlast : 3 ≤ v.attempts + 1) (k : Nat) (b : Booking)
    (hk : s.slotOf h = some k) (hb : s.slotAt k = some b) (g : Booking → Booking)
    (hg : ∀ q : Part, ∀ c : OpContext, c.phase = phase → q.workFailed c = q.addFlag c.booking g) :
    ∃ q w, p.workOutcome n good echo = q.runTasks [.advance f] ∧
      ({ s.setContext f (some (workContext h phase w others)) with slots := upd s.slots k (fun _ => some (g b)) } : Part).Like q ∧
      settledWork (w :: others) = true := by
  have hattempt := v.attempt_of (good && (decide (phase ≠ .close) || echo)) l.unsent
  rw [hno, if_neg (by decide), if_pos hlast, ← hno] at hattempt
  obtain ⟨hout, hof⟩ := (l.of_contexts hl.contexts).workOutcome good echo _ hattempt l.seat _ rfl
  rw [Part.afterAttempt_failed _ _ _ hof rfl] at hout
  refine ⟨_, { v with attempts := v.attempts + 1, status := .failed }, hout, ?_, ?_⟩
  · have hset := hl.setContext f (some (workContext h phase { v with attempts := v.attempts + 1, status := .failed } others))
    refine (congrArg Part.records (hg _ _ rfl)).trans ?_
    refine ((Part.addFlag_records _ h k g b ((hset.slotOf h).trans hk) ((hset.slotAt k).trans hb)).trans ?_)
    exact congrArg (fun r : Records => r.put k (g b)) hset
  · simpa [settledWork] using fun u hu => (l.others u hu).2

theorem Part.LastEntry.written (l : s.LastEntry n f h phase v others) (c : Option OpContext) : (s.setContext f c).contextAt f = c :=
  Part.contextAt_written (p := s) rfl l.length l.low l.high

end

/-! ### The one booking -/

section
variable {p : Part} {k : Nat} {b : Booking}

theorem Part.onlyBooking_slotOf (h : p.onlyBooking k b) : p.slotOf b.handle = some k := by
  have hstands : p.stands p.records k b p.clock.minute := ⟨rfl, p.onlyOneMoves_of_onlyBooking k b _ h, rfl⟩
  exact hstands.slotOf

end

/-! ### The score step of a POLL as a part -/

section
variable {s : State} {seg : Segment} {n : Nat} {img : Image} {rx : Reception} {up : Uplink} {x : Seat}

theorem State.scored_like (s : State) (seg : Segment) (n : Nat) (x : Seat) (hx : nth s.part.seats n = some x) :
    (s.part.withSeat n x.scored).Like (s.scored seg n) :=
  (s.scored_records seg n x hx).trans (s.part.withSeat_records n x.scored).symm

/-- What the operation leaves besides the polled seat is what the POLL leaves (R86). -/
theorem State.goodPoll.leaves (h : s.goodPoll seg n img rx up) (hx : nth s.part.seats n = some x) (hup : uplinkSilent up x)
    (R : Part) (hR : nth R.seats n = some x) (hw : (R.withSeat n x.scored).Like (s.worked seg n up)) :
    Leaves (.pollAnswer seg rx up) s (R.records.seat n (x.afterPoll img)) := by
  have hn : nth R.records.seats n = some x.quiet := by rw [Part.records, nth_map, hR]; rfl
  obtain ⟨q, ⟨hexec, hanswer⟩, hq⟩ := h.silent hx hup R.records x.quiet x.scored hn (hw.trans (R.withSeat_records n _))
    ⟨rfl, rfl, rfl, rfl⟩
  exact ⟨q, hexec, hanswer, hq⟩

end

end Sys2Proof.Machine
end

section
/-! The close and clear phases at the POLL of their last AWAITING entry (O23). -/

namespace Sys2Proof.Machine

/-! ### The polled seat among what an operation leaves -/

theorem nth_upd_const {α : Type} (l : List α) (n m : Nat) (y x : α) (hx : nth l n = some x) :
    nth (upd l n (fun _ => y)) m = if m = n then some y else nth l m := by
  by_cases hm : m = n
  · rw [if_pos hm, hm, nth_upd_same, hx]; rfl
  · rw [if_neg hm, nth_upd_ne _ _ _ _ (Ne.symm hm)]

theorem Part.withSeat_nth (p : Part) (n m : Nat) (y : Seat) (x : Seat) (hx : nth p.seats n = some x) :
    nth (p.withSeat n y).seats m = if m = n then some y else nth p.seats m := nth_upd_const p.seats n m y x hx

section
variable {s : State} {seg : Segment} {n f h : Nat} {img : Image} {rx : Reception} {up : Uplink} {x : Seat} {phase : OpPhase}
  {v : WorkEntry} {others : List WorkEntry}

/-- What the operation makes of a POLL's outcome, by a run of its tasks. -/
theorem State.worked_of {q S : Part} {Q : Part → Prop} {m : Nat}
    (hout : (s.scored seg n).workOutcome n true (decide (up.echo = .closed)) = q.runTasks [.advance f]) (hq : S.Like q)
    (hm : m ≤ taskFuel) (hrun : Runs m [.advance f] S.Like Q) : Q (s.worked seg n up) := by
  rw [State.worked, hout]
  exact hrun.runTasks hm q hq

/-- An operation that wrote the polled seat too, in a part like `W`: what the POLL leaves (R86). -/
theorem State.goodPoll.endsAt (h : s.goodPoll seg n img rx up) (hx : nth s.part.seats n = some x) (hup : uplinkSilent up x)
    (W : Part) (z : Seat) (hz : nth W.seats n = some z) (hw : W.Like (s.worked seg n up)) (hkeeps : x.keepsPolled z) :
    ∃ p, Ends (.pollAnswer seg rx up) s p ∧ (W.withSeat n (z.carriedOn img)).Like p := by
  have hn : nth W.records.seats n = some z.quiet := by rw [Part.records, nth_map, hz]; rfl
  have hself : upd W.records.seats n (fun _ => z.quiet) = W.records.seats := upd_self _ _ _ hn
  have hrecords : (s.worked seg n up).records = W.records.seat n z := by rw [Records.seat, hself]; exact hw
  obtain ⟨p, hends, hp⟩ := h.silent hx hup W.records z.quiet z hn hrecords hkeeps
  exact ⟨p, hends, hp.trans (W.withSeat_records n _).symm⟩

end

theorem Part.Like.slots {s p : Part} (h : s.Like p) : p.slots = s.slots := congrArg Records.slots h

/-! ### The phases of close-out -/

/-- What the last attempt of a close phase adds to the booking (R44, R57). -/
def Booking.closeAttempted (b : Booking) (confirmed : Bool) : Booking :=
  { b with flags := { b.flags with closeUnconfirmed := b.flags.closeUnconfirmed || !confirmed } }

section
variable {S p : Part} {n f k h : Nat} {v : WorkEntry} {others : List WorkEntry} {b : Booking}

/-- The close phase at its last entry: confirmed, or given up at the third attempt (R48, R57). -/
theorem Part.LastEntry.closes (l : S.LastEntry n f h .close v others) (hl : S.Like p) (hk : S.slotOf h = some k)
    (hb : S.slotAt k = some b) (echo : Bool) (hlast : echo = true ∨ 3 ≤ v.attempts + 1) :
    ∃ q w, p.workOutcome n true echo = q.runTasks [.advance f] ∧
      ({ S.setContext f (some (workContext h .close w others)) with
        slots := upd S.slots k (fun _ => some (b.closeAttempted echo)) } : Part).Like q ∧
      settledWork (w :: others) = true := by
  cases echo with
  | true =>
    obtain ⟨q, w, hout, hq, hdone⟩ := l.confirms hl true true (by simp)
    refine ⟨q, w, hout, ?_, hdone⟩
    have hsame : b.closeAttempted true = b := by simp [Booking.closeAttempted]
    rw [hsame, upd_self _ _ _ (S.slotAt_some k b hb)]
    exact hq
  | false =>
    have hno : (true && (decide (OpPhase.close ≠ .close) || false)) = false := rfl
    obtain ⟨q, w, hout, hq, hdone⟩ := l.fails hl true false hno (hlast.resolve_left (by decide)) k b hk hb Booking.unconfirmed
      fun q c hc => by rw [Part.workFailed, hc]
    refine ⟨q, w, hout, ?_, hdone⟩
    have hsame : b.closeAttempted false = b.unconfirmed := by simp [Booking.closeAttempted, Booking.unconfirmed]
    rw [hsame]
    exact hq

/-- After the close phase the clear phase begins, and waits for the seats it serves (R57, R58). -/
theorem runs_clear_waits {s : Part} {work : List WorkEntry}
    (hctx : s.contextAt f = some { booking := b.handle, phase := .close, work := work }) (hdone : settledWork work = true)
    (hk : s.slotOf b.handle = some k) (hb : s.slotAt k = some b) (hl : s.contexts.length = 4) (h1 : 1 ≤ f) (h4 : f ≤ 4)
    (hserved : s.servedSeats b.zones ≠ []) :
    Runs 2 [.advance f] s.Like (fun p => ∃ w, freshWork (s.servedSeats b.zones) w ∧ (s.inClear f b w).Like p) := by
  have hbook : s.bookingOf b.handle = some b := by rw [Part.bookingOf, hk]; exact hb
  refine runs_clear (b := b) hctx hdone hbook fun w hw => ?_
  have hcontext : (s.inClear f b w).contextAt f = some { booking := b.handle, phase := .clear, work := w } :=
    Part.contextAt_written (p := s) rfl hl h1 h4
  have hwait : settledWork w = false := by
    rw [← Bool.not_eq_true]
    exact fun hs => hserved (hw.settled.1 hs)
  exact (runs_advance_waits hcontext hbook hwait).mono (fun _ hp => hp) fun p hp => ⟨w, hw, hp⟩

end

/-- What a cleared seat holds (R58). -/
theorem Part.inClear_nth (s : Part) (f : Nat) (b : Booking) (work : List WorkEntry) (n : Nat) (x : Seat)
    (hx : nth s.seats n = some x) :
    nth (s.inClear f b work).seats n = some (if s.seatIn b.zones n then { x with occupant := none, role := .ordinary } else x) := by
  change nth (s.writeSeats b.zones (fun _ => none)).seats n = _
  rw [s.writeSeats_seat, hx]
  rfl

theorem Seat.carriedOn_cleared (img : Image) (x : Seat) (inside : Bool) :
    (if inside then { x.scored with occupant := none, role := .ordinary } else x.scored : Seat).carriedOn img =
      if inside then { x.afterPoll img with occupant := none, role := .ordinary } else x.afterPoll img := by
  cases inside <;> rfl

theorem Seat.keepsPolled_cleared (x : Seat) (inside : Bool) :
    x.keepsPolled (if inside then { x.scored with occupant := none, role := .ordinary } else x.scored : Seat) := by
  cases inside <;> exact ⟨rfl, rfl, rfl, rfl⟩

/-- What a release leaves, seen in a part like it with one seat written. -/
theorem Part.released_like {Q p : Part} {n f k : Nat} {y : Seat} {c : Option Booking} {b : Booking} {fl : Floor}
    (hp : ((Q.released f k c).withSeat n y).Like p) (hb : Q.slotAt k = some b) (hfl : nth Q.floors f = some fl)
    (hlen : Q.contexts.length = 4) (h1 : 1 ≤ f) (h4 : f ≤ 4) :
    p.slotAt k = c ∧ p.floorAt f = fl.freed ∧ (p.queueAt f).entries = [] ∧ p.contextAt f = none ∧
      ∀ g, g ≠ f → p.floorAt g = Q.floorAt g ∧ p.queueAt g = Q.queueAt g := by
  refine ⟨(hp.slotAt k).trans (Q.released_slotAt f k c b hb), (hp.floorAt f).trans (Q.released_floorAt f k c fl hfl),
    (congrArg Queue.entries (hp.queueAt f)).trans (Q.released_queueAt f k c),
    (hp.contextAt f).trans (Q.released_contextAt f k c hlen h1 h4), fun g hg => ?_⟩
  obtain ⟨hfloor, hqueue, -⟩ := Q.released_others f k c g hg
  exact ⟨(hp.floorAt g).trans hfloor, (hp.queueAt g).trans hqueue⟩

/-- Settles O23: the attempt of the last entry, then the tasks of the operation: it waits, clears the seats, or releases the
floor. -/
theorem closeOutEndsAtTheLastEntry : Obligations.CloseOutEndsAtTheLastEntry := by
  intro s seg n k f img rx up x b fl phase v others served hpoll hx hup honly hcalm hawake h1 h4 hstate hfloor hfl hclosing hlen hctx
    halone hseat hawaiting hunsent hothers hserved
  have hl := s.scored_like seg n x hx
  have hkey : s.part.slotOf b.handle = some k := s.part.onlyBooking_slotOf honly
  obtain ⟨-, hb, honlyk⟩ := honly
  have hk : (s.part.withSeat n x.scored).slotOf b.handle = some k := hkey
  have hbook : (s.part.withSeat n x.scored).bookingOf b.handle = some b := by rw [Part.bookingOf, hk]; exact hb
  have hserves : (s.part.withSeat n x.scored).servedSeats b.zones = served := by
    rw [Part.servedSeats_eq, hserved]
    exact congrArg (fun g : Nat → Bool => seatNumbers.filter g) (funext fun m =>
      congrArg (fun c => s.part.seatIn b.zones m && c) (s.part.withSeat_inService n x x.scored hx rfl m))
  have le : (s.part.withSeat n x.scored).LastEntry n f b.handle phase v others :=
    ⟨h1, h4, hlen, hctx, halone, hseat, hawaiting, hunsent, hothers⟩
  refine ⟨fun hphase hecho hleft => ?waits, fun hphase hlast hsome => ?clears, fun hphase => ?releases⟩ <;> subst hphase
  case waits =>
    obtain ⟨q, hout, hq, hwait⟩ := le.waits hl true (decide (up.echo = .closed)) (by simp [hecho]) hleft
    have hw := State.worked_of hout hq (by decide)
      (runs_advance_waits (le.written _) hbook hwait)
    refine leaves_congr (hpoll.leaves hx hup (s.part.setContext f _) hx hw) ?_
    rw [State.withSeat_eq]
    rfl
  case clears =>
    obtain ⟨q, w, hout, hq, hdone⟩ := le.closes hl hk hb (decide (up.echo = .closed)) (hlast.imp_left fun he => by simp [he])
    generalize hb' : b.closeAttempted (decide (up.echo = .closed)) = b' at hq
    generalize hS : ({ (s.part.withSeat n x.scored).setContext f (some (workContext b.handle .close w others)) with
      slots := upd (s.part.withSeat n x.scored).slots k (fun _ => some b') } : Part) = S at hq
    have hhandle : b'.handle = b.handle := by rw [← hb']; rfl
    have hzones : b'.zones = b.zones := by rw [← hb']; rfl
    have hkS : S.slotOf b'.handle = some k := by
      rw [hhandle]
      exact Part.slotOf_written (s.part.withSeat n x.scored) S k b b' hk hb hhandle (by rw [← hS])
    have hbS : S.slotAt k = some b' := by
      rw [← hS, Part.slotAt, nth_upd_same, Part.slotAt_some (s.part.withSeat n x.scored) k b hb]; rfl
    have hserved' : S.servedSeats b'.zones = served := by rw [hzones, ← hserves, ← hS]; rfl
    have hctxS : S.contextAt f = some { booking := b'.handle, phase := .close, work := w :: others } := by
      rw [hhandle, ← hS]; exact le.written _
    have hlenS : S.contexts.length = 4 := by rw [← hS]; exact (length_upd _ _ _).trans hlen
    have hrun := runs_clear_waits hctxS hdone hkS hbS hlenS h1 h4 (by rw [hserved']; exact hsome)
    obtain ⟨work, hwork, hlike⟩ := State.worked_of hout hq (by decide) hrun
    have hnS : ∀ m, nth S.seats m = if m = n then some x.scored else nth s.part.seats m := fun m => by
      rw [← hS]; exact s.part.withSeat_nth n m _ x hx
    have hin : ∀ m, S.seatIn b'.zones m = s.part.seatIn b.zones m := fun m => by rw [hzones, ← hS]; rfl
    have hpolled := S.inClear_nth f b' work n x.scored (by rw [hnS, if_pos rfl])
    obtain ⟨p, hends, hp⟩ := hpoll.endsAt hx hup _ _ hpolled hlike (x.keepsPolled_cleared _)
    rw [x.carriedOn_cleared] at hp
    refine ⟨p, hends, ?_, ⟨_, (hp.contextAt f).trans (Part.contextAt_written (p := S) rfl hlenS h1 h4), hhandle, rfl,
      by rw [← hserved']; exact hwork⟩, fun m z hz => ?_, ?_⟩
    · refine (hp.slotAt k).trans (hbS.trans ?_)
      rw [← hb']
      simp [Booking.closeAttempted]
    · rw [hp.seatAt m, Part.seatAt, Part.withSeat_nth _ n m _ _ hpolled, hin n]
      rw [nth_upd_const s.part.seats n m _ x hx] at hz
      by_cases hm : m = n
      · rw [if_pos hm] at hz ⊢
        cases hz
        rw [hm]; rfl
      · rw [if_neg hm] at hz ⊢
        rw [S.inClear_nth f b' work m z (by rw [hnS, if_neg hm]; exact hz), hin m]
        rfl
    · rw [hp.slots, hp.contexts, show p.records = _ from hp, ← hS]
      rfl
  case releases =>
    obtain ⟨q, w, hout, hq, hdone⟩ := le.confirms hl true (decide (up.echo = .closed)) (by simp)
    have hrun := runs_complete (f := f) (k := k) (b := b) (le.written (some (workContext b.handle .clear w others))) hdone rfl hk hb
      (Part.calmBut_of_calm _ f hcalm) fun j c hj hc => absurd (honlyk j c hc) hj
    have hw := State.worked_of hout hq (by decide) hrun
    obtain ⟨p, hexec, hanswer, hrecords⟩ := hpoll.leaves hx hup
      ((s.part.setContext f (some (workContext b.handle .clear w others))).released f k b.gone) hx hw
    obtain ⟨hslot, hfree, hqueue, hcontext, hrest⟩ := Part.released_like (hrecords.trans (Part.withSeat_records _ n _).symm) hb hfl
      ((length_upd _ _ _).trans hlen) h1 h4
    refine ⟨p, ⟨hexec, hanswer⟩, hslot, by rw [hfree]; rfl, by rw [hfree]; rfl, by rw [hfree]; rfl, by rw [hfree]; rfl,
      by rw [hfree]; rfl, hqueue, hcontext, hrest, ?_⟩
    rw [show p.slots = _ from congrArg Records.slots hrecords, show p.floors = _ from congrArg Records.floors hrecords,
      show p.queues = _ from congrArg Records.queues hrecords, show p.contexts = _ from congrArg Records.contexts hrecords, hrecords,
      State.withPress, State.withSeat_eq]
    rfl

end Sys2Proof.Machine
end

section
/-! The push phase at the POLL of its last AWAITING entry, good or failed (O22). -/

namespace Sys2Proof.Machine

/-! ### Apply completes (R51, R52) -/

/-- The booking as apply completes with `start` noted (R51, R52). -/
def Booking.lateLive (b : Booking) : Booking :=
  { b with state := .live, flags := { b.flags with lateApply := true }, pendingSeat := none }

/-- The part in which the operation of floor `f` is over, the booking in slot `k` is `c` and its floor is `fl'`. -/
def Part.applied (S : Part) (f k : Nat) (c : Booking) (fl' : Floor) : Part :=
  { S with
    contexts := upd S.contexts f (fun _ => none)
    slots := upd S.slots k (fun _ => some c)
    floors := upd S.floors f (fun _ => fl') }

section
variable {S p : Part} {f k n : Nat} {b : Booking} {fl : Floor} {q : FloorParams} {work : List WorkEntry}

theorem Part.takeAdvance_push (hctx : p.contextAt f = some { booking := b.handle, phase := .push, work := work })
    (hdone : settledWork work = true) (hb : p.bookingOf b.handle = some b) (hopen : (b.startNoted && b.closeNoted) = false) :
    p.takeAdvance f = (p.completeApply f b, []) := by
  simp [Part.takeAdvance, hctx, hb, hdone, hopen]

/-- The push is complete, and `start` is not noted: READY (R51). -/
theorem runs_push_ready (hctx : S.contextAt f = some { booking := b.handle, phase := .push, work := work })
    (hdone : settledWork work = true) (hk : S.slotOf b.handle = some k) (hb : S.slotAt k = some b) (hfl : nth S.floors f = some fl)
    (hs : b.startNoted = false) :
    Runs 1 [.advance f] S.Like (S.applied f k { b with state := .ready } { fl with state := .ready }).Like := by
  refine Runs.single fun p hp => ⟨p.completeApply f b, ?_, Part.Like.follow ?_ p⟩
  · refine Part.takeAdvance_push (hp.contextAt f ▸ hctx) hdone ?_ (by rw [hs]; rfl)
    rw [hp.bookingOf, Part.bookingOf, hk]
    exact hb
  · refine (p.completeApply_records f k b fl ((hp.slotOf _).trans hk) ((hp.slotAt k).trans hb) (by rw [hp.floors]; exact hfl) hs).trans ?_
    exact congrArg (fun r : Records => { r with
      contexts := upd r.contexts f (fun _ => none)
      slots := upd r.slots k (fun _ => some { b with state := .ready })
      floors := upd r.floors f (fun _ => { fl with state := .ready }) }) hp

/-- The booking and its floor become LIVE (R51, R140). -/
theorem Part.Like.goesLive (hp : S.Like p) (hk : S.slotOf b.handle = some k) (hb : S.slotAt k = some b)
    (hfl : nth S.floors f = some fl) (hcalm : S.calm) (c : Booking) (g : Booking → Booking) (hc : g b = c) :
    (S.applied f k c { fl with state := .live }).Like (((p.setContext f none).updBooking b.handle g).floorLive f) := by
  have hnoted := Part.updBooking_eq (p.setContext f none) b.handle k g b ((hp.slotOf _).trans hk) ((hp.slotAt k).trans hb)
  rw [hnoted, hc]
  have hcalm' : ({ p.setContext f none with slots := upd (p.setContext f none).slots k (fun _ => some c) } : Part).calm :=
    p.calm_of_eq _ rfl rfl (S.calm_of_records p hp hcalm)
  refine (Part.floorLive_records _ f fl hcalm' (by rw [← hp.floors] at hfl; exact hfl)).trans ?_
  exact congrArg (fun r : Records => { r with
    contexts := upd r.contexts f (fun _ => none)
    slots := upd r.slots k (fun _ => some c)
    floors := upd r.floors f (fun _ => { fl with state := .live }) }) hp

/-- The push is complete with `start` noted: LIVE, and then the pending press, which changes the floor alone (R51, R52). -/
theorem runs_push_live (hctx : S.contextAt f = some { booking := b.handle, phase := .push, work := work })
    (hdone : settledWork work = true) (hk : S.slotOf b.handle = some k) (hb : S.slotAt k = some b) (hfl : nth S.floors f = some fl)
    (hcalm : S.calm) (hs : b.startNoted = true) (hc : b.closeNoted = false) (live : Booking)
    (hlive : live = { b with state := .live, flags := { b.flags with lateApply := true } }) (fl' : Floor)
    (hpress : ∀ q, (S.applied f k live { fl with state := .live }).Like q → (S.applied f k live fl').Like (q.takePending f b)) :
    Runs 1 [.advance f] S.Like (S.applied f k b.lateLive fl').Like := by
  refine Runs.single fun p hp => ⟨p.completeApply f b, ?_, Part.Like.follow ?_ p⟩
  · refine Part.takeAdvance_push (hp.contextAt f ▸ hctx) hdone ?_ (by rw [hc, Bool.and_false])
    rw [hp.bookingOf, Part.bookingOf, hk]
    exact hb
  · have hpressed := hpress _ (hp.goesLive hk hb hfl hcalm live
      (fun b => { b with state := .live, flags := { b.flags with lateApply := true } }) hlive.symm)
    have hcomplete : p.completeApply f b = ((((p.setContext f none).updBooking b.handle
        (fun b => { b with state := .live, flags := { b.flags with lateApply := true } })).floorLive f).takePending f b).updBooking
          b.handle (fun b => { b with pendingSeat := none }) := by
      simp only [Part.completeApply, if_pos hs, Part.applyLive, hc, Bool.false_eq_true, if_false]
    rw [hcomplete]
    generalize (((p.setContext f none).updBooking b.handle _).floorLive f).takePending f b = P at hpressed ⊢
    have hkP : P.slotOf b.handle = some k :=
      (hpressed.slotOf _).trans (Part.slotOf_written S _ k b live hk hb (by rw [hlive]) rfl)
    have hbP : P.slotAt k = some live := by
      rw [hpressed.slotAt, Part.slotAt, Part.applied, nth_upd_same, S.slotAt_some k b hb]; rfl
    refine (P.updBooking_records b.handle k _ live hkP hbP).trans ?_
    rw [show P.records = _ from hpressed, Records.put]
    have hlate : ({ live with pendingSeat := none } : Booking) = b.lateLive := by rw [hlive]; rfl
    rw [hlate]
    refine congrArg (fun slots => ({ (S.applied f k live fl').records with slots := slots } : Records)) ?_
    exact upd_upd S.slots k _ _

/-- The pending press of a delegate at an OPEN_FLOOR below its limit opens (R52, R93). -/
theorem Part.takePending_opens (hn : b.pendingSeat = some n) (hserve : p.inService n = true) (hfl : nth p.floors f = some fl)
    (hq : fl.params = some q) (hlive : fl.state = .live) (hgo : fl.suspended = false) (hin : p.isPrivate f = false)
    (hr : (p.seatAt n).role ≠ .chair) (hmode : q.mode = .openFloor) (hroom : fl.delegates < q.limit)
    (hclosed : ∀ g, p.openEntry g n = none) (hqueued : p.isQueued f n = false) :
    p.takePending f b = { p with floors := upd p.floors f (fun _ => fl.opens (fl.delegateEntry q n)) } := by
  have hat := p.floorAt_of_nth f fl hfl
  have hspeak : p.takePending f b = p.speakDelegate f n := by
    simp only [Part.takePending, hn, if_pos hserve]
    rw [p.speakUnguarded_taken f n (by rw [hat]; exact hlive) (.inl (by rw [hat]; exact hgo)) (.inl hin), if_neg hr]
  have hopens : p.speakClosed f n = p.openSeat f n := by
    simp only [Part.speakClosed, hat, fl.par_some q hq, hmode, if_pos hroom]
  rw [hspeak, Part.speakDelegate_closed (hclosed f) hqueued, hopens,
    Part.openSeat_delegate hfl hq (p.mayOpen_of f n hserve hclosed (.inl hin)) hr, p.queues_without f n hqueued]

end

/-! ### A POLL that times out (R71, R86) -/

/-- A seat after the score step of a failed POLL (R69). -/
def Seat.failedOnce (x : Seat) : Seat := { x with health := { x.health with errorScore := x.health.errorScore + 8 } }

theorem exec_responseTimeout (seg : Segment) (s : State) : exec (.responseTimeout seg) s = s.become (s.part.timedOut seg) := rfl

/-- A seat that stays PRESENT at a failed POLL is moved by nothing but its score. -/
theorem Part.moveSeat_failed (p : Part) (n : Nat) (z : Seat) (hz : nth p.seats n = some z) (hp : z.health.presence = .present)
    (hscore : z.health.errorScore < 96) : p.moveSeat n false = p := by
  have hmove : z.health.move false p.settings.presenceSettle = z.health := by
    simp only [Health.move, hp, if_neg (show ¬ 256 ≤ z.health.errorScore by omega), if_neg (show ¬ 96 ≤ z.health.errorScore by omega)]
    rw [← hp]
  have hsame : p.updSeat n (fun s => { s with health := s.health.move false p.settings.presenceSettle }) = p := by
    rw [p.updSeat_eq n _ z hz, hmove, upd_self p.seats n z hz]
  rw [Part.moveSeat, hsame, Part.presenceMoved, p.seatAt_of_nth n z hz, hp]
  rfl

/-- A seat without a hold has none to end (R85). -/
theorem Part.stopHold_free (p : Part) (n : Nat) (h : (p.seatAt n).priorityHeld = false) : p.stopHold n = p := by
  rw [Part.stopHold]
  cases p.floorOf n with
  | none => rfl
  | some f => simp [Part.endHold, h]

/-- The part in which the owner of a POLL that timed out begins. -/
def State.missed (s : State) (seg : Segment) (n : Nat) : Part := (s.part.lineEnds seg .timeout).scoreSeat n false

section
variable {s : State} {seg : Segment} {n pos : Nat} {img : Image} {x : Seat}

theorem State.missed_like (hx : nth s.part.seats n = some x) (hscore : x.health.errorScore + 8 < 96) :
    (s.part.withSeat n x.failedOnce).Like (s.missed seg n) := by
  have hended : nth (s.part.lineEnds seg .timeout).seats n = some x := by rw [Part.lineEnds_seats]; exact hx
  rw [Part.Like, State.missed, Part.scoreSeat, Part.updSeat_records _ n _ x hended, Part.lineEnds_records, Part.withSeat_records]
  have hsat : x.health.score false = { x.health with errorScore := x.health.errorScore + 8 } := by
    have : sat 65535 (x.health.errorScore + 8) = x.health.errorScore + 8 := by rw [sat]; omega
    simp [Health.score, this]
  rw [hsat]
  rfl

/-- A POLL that times out for a seat that stays PRESENT: what the operation leaves besides the score (R86). -/
theorem State.timeout_leaves (hr : s.runs) (hline : (s.part.engine seg).line = some { exchange := .poll pos img, orphan := false })
    (hn : n = seatOn seg pos) (hx : nth s.part.seats n = some x) (hp : x.health.presence = .present)
    (hscore : x.health.errorScore + 8 < 96) (hfree : x.priorityHeld = false) (R : Part) (hR : nth R.seats n = some x)
    (hw : (R.withSeat n x.failedOnce).Like ((s.missed seg n).workOutcome n false false)) :
    Leaves (.responseTimeout seg) s (R.records.seat n x.failedOnce) := by
  have hpolled : ((s.part.lineEnds seg .timeout).seatAt n).health.presence.polled = true := by
    rw [Part.lineEnds_seatAt, s.part.seatAt_of_nth n x hx, hp]; rfl
  have htimed : s.part.timedOut seg = s.part.settle ((s.part.lineEnds seg .timeout).pollMoves n false false) := by
    rw [Part.timedOut, s.part.lineOf_of seg _ hr hline]
    simp only [Part.pollReport, Bool.false_eq_true, if_false, ← hn, Part.pollEnd, hpolled, if_true, reduceCtorEq, Part.pollFailed]
  obtain ⟨z, hz, hzx⟩ := Part.nth_seat_of_records hw n x.failedOnce (by rw [R.withSeat_nth n n _ x hR, if_pos rfl])
  have hmoves : (s.part.lineEnds seg .timeout).pollMoves n false false = (s.missed seg n).workOutcome n false false := by
    have hpresent : z.health.presence = .present := (Seat.of_quiet (fun s => s.health.presence) (fun _ => rfl) hzx).trans hp
    have herror : z.health.errorScore = x.health.errorScore + 8 := Seat.of_quiet (fun s => s.health.errorScore) (fun _ => rfl) hzx
    have hheld : z.priorityHeld = false := (Seat.of_quiet Seat.priorityHeld (fun _ => rfl) hzx).trans hfree
    have hmoved : ((s.missed seg n).workOutcome n false false).moveSeat n false = (s.missed seg n).workOutcome n false false :=
      Part.moveSeat_failed _ n z hz hpresent (by rw [herror]; exact hscore)
    rw [State.missed] at hmoved hz ⊢
    simp only [Part.pollMoves, hmoved, Bool.false_eq_true, if_false]
    exact Part.stopHold_free _ n (by rw [Part.seatAt_of_nth _ n z hz]; exact hheld)
  refine leaves_of_settle _ s _ _ ((exec_responseTimeout seg s).trans (congrArg s.become htimed)) ?_ ?_
  · have hanswer := congrArg Base.answer ((s.part.lineEnds seg .timeout).pollMoves_base n false false)
    exact hanswer.trans (s.part.lineEnds_answer seg .timeout)
  · rw [hmoves]
    exact hw.trans (R.withSeat_records n _)

end

end Sys2Proof.Machine
end

section
/-! The end of the push phase settled, clause by clause (O22). -/

namespace Sys2Proof.Machine

/-- What the statement of O22 says of the apply in flight before the POLL. -/
structure State.Pushing (s : State) (n k f : Nat) (x : Seat) (b : Booking) (fl : Floor) (v : WorkEntry) (others : List WorkEntry) :
    Prop where
  seat : nth s.part.seats n = some x
  key : s.part.slotOf b.handle = some k
  slot : s.part.slotAt k = some b
  floor : nth s.part.floors f = some fl
  calm : s.part.calm
  entry : s.part.LastEntry n f b.handle .push v others

section
variable {s : State} {seg : Segment} {n k f : Nat} {img : Image} {rx : Reception} {up : Uplink} {x y : Seat} {b : Booking}
  {fl : Floor} {q : FloorParams} {v : WorkEntry} {others : List WorkEntry}

/-- The part in which the operation goes on, the polled seat being `y`. -/
def State.pushOn (s : State) (n f : Nat) (y : Seat) (b : Booking) (w : WorkEntry) (others : List WorkEntry) : Part :=
  (s.part.withSeat n y).setContext f (some (workContext b.handle .push w others))

theorem State.Pushing.pushOn_context (h : s.Pushing n k f x b fl v others) (w : WorkEntry) :
    (s.pushOn n f y b w others).contextAt f = some { booking := b.handle, phase := .push, work := w :: others } :=
  (h.entry.of_contexts (p := s.part.withSeat n y) rfl).written _

/-- A GOOD POLL confirms the last entry, and apply completes as `hrun` says (R48, R51). -/
theorem State.Pushing.confirmed (h : s.Pushing n k f x b fl v others) (hpoll : s.goodPoll seg n img rx up)
    (hup : uplinkSilent up x) (c : Booking) (fl' : Floor)
    (hrun : ∀ w, settledWork (w :: others) = true →
      Runs 1 [.advance f] (s.pushOn n f x.scored b w others).Like ((s.pushOn n f x.scored b w others).applied f k c fl').Like) :
    Leaves (.pollAnswer seg rx up) s { s.withSeat n (x.afterPoll img) with
      contexts := upd s.part.contexts f (fun _ => none)
      slots := upd s.part.slots k (fun _ => some c)
      floors := upd s.part.floors f (fun _ => fl') } := by
  have le := h.entry.of_contexts (p := s.part.withSeat n x.scored) rfl
  obtain ⟨p, w, hout, hp, hdone⟩ := le.confirms (s.scored_like seg n x h.seat) true (decide (up.echo = .closed)) (by simp)
  have hw := State.worked_of hout hp (by decide) (hrun w hdone)
  refine leaves_congr (hpoll.leaves h.seat hup
    ((s.part.setContext f (some (workContext b.handle .push w others))).applied f k c fl') h.seat hw) ?_
  rw [State.withSeat_eq]
  exact congrArg (fun contexts => ({ s.part.records.seat n (x.afterPoll img) with
    contexts := contexts
    slots := upd s.part.slots k (fun _ => some c)
    floors := upd s.part.floors f (fun _ => fl') } : Records)) (upd_upd s.part.contexts f _ _)

/-- What a late apply's pending press needs to open (R52, R90, R93). -/
theorem State.Pushing.press (h : s.Pushing n k f x b fl v others) (hpresent : x.health.presence = .present)
    (hpending : b.pendingSeat = some n) (hopen : b.confidentiality = .openMeeting) (hbook : fl.booking = some b.handle)
    (hrole : x.role ≠ .chair) (hq : fl.params = some q) (hmode : q.mode = .openFloor) (hroom : fl.delegates < q.limit)
    (hclosed : ∀ g, s.part.openEntry g n = none) (hqueued : ∀ g, s.part.isQueued g n = false) (w : WorkEntry) (live : Booking)
    (hlive : live = { b with state := .live, flags := { b.flags with lateApply := true } }) (p : Part)
    (hp : ((s.pushOn n f x.scored b w others).applied f k live { fl with state := .live }).Like p) :
    ((s.pushOn n f x.scored b w others).applied f k live ({ fl with state := .live }.opens (fl.delegateEntry q n))).Like
      (p.takePending f b) := by
  have hfloors : p.floors = upd s.part.floors f (fun _ => { fl with state := .live }) := hp.floors
  have hnth : nth p.floors f = some { fl with state := .live } := by rw [hfloors, nth_upd_same, h.floor]; rfl
  have hseat : (p.seatAt n).quiet = x.scored.quiet := by
    rw [hp.seatAt n, Part.seatAt]
    change ((nth (s.part.withSeat n x.scored).seats n).getD startSeat).quiet = _
    rw [s.part.withSeat_nth n n x.scored x h.seat, if_pos rfl]
    rfl
  have hserve : p.inService n = true := by
    have hpres : (p.seatAt n).health.presence = .present :=
      (Seat.of_quiet (fun s => s.health.presence) (fun _ => rfl) hseat).trans hpresent
    rw [Part.inService, hpres]
    rfl
  have hslots : p.slots = upd s.part.slots k (fun _ => some live) := hp.slots
  have hbooking : p.bookingOf b.handle = some live := by
    rw [Part.bookingOf, Part.slotOf_written s.part p k b live h.key h.slot (by rw [hlive]) hslots, Option.bind_some, Part.slotAt, hslots,
      nth_upd_same, s.part.slotAt_some k b h.slot]
    rfl
  have hpublic : p.isPrivate f = false := by
    have hserved : p.served f = some live := by
      rw [Part.served, p.floorAt_of_nth f _ hnth]
      exact (congrArg (fun o : Option Nat => o.bind p.bookingOf) hbook).trans hbooking
    rw [Part.isPrivate, hserved, hlive]
    simp [hopen]
  have hgone : ∀ g, p.openEntry g n = none := fun g => by
    by_cases hg : g = f
    · rw [hg, Part.openEntry, p.floorAt_of_nth f _ hnth]
      have hnone := hclosed f
      rwa [Part.openEntry, s.part.floorAt_of_nth f fl h.floor] at hnone
    · rw [Part.openEntry, Part.floorAt_other hfloors hg]
      exact hclosed g
  have hout : p.isQueued f n = false := by
    rw [Part.isQueued, hp.queueAt f]
    exact hqueued f
  have hgo : ({ fl with state := .live } : Floor).suspended = false := by
    have hcalm := h.calm.2 f
    rwa [s.part.floorAt_of_nth f fl h.floor] at hcalm
  rw [Part.takePending_opens hpending hserve hnth hq rfl hgo hpublic
    (by rw [Seat.of_quiet Seat.role (fun _ => rfl) hseat]; exact hrole) hmode hroom hgone hout, hfloors, upd_upd]
  exact congrArg (fun r : Records => { r with
    floors := upd s.part.floors f (fun _ => ({ fl with state := .live } : Floor).opens (fl.delegateEntry q n)) }) hp

/-- A failed attempt, and what the operation makes of it (R48). -/
theorem State.Pushing.missed {pos : Nat} (h : s.Pushing n k f x b fl v others) (hr : s.runs)
    (hline : (s.part.engine seg).line = some { exchange := .poll pos img, orphan := false }) (hn : n = seatOn seg pos)
    (hp : x.health.presence = .present) (hscore : x.health.errorScore + 8 < 96) (hfree : x.priorityHeld = false) :
    (v.attempts + 1 < 3 →
      Leaves (.responseTimeout seg) s { s.withSeat n x.failedOnce with
        contexts := upd s.part.contexts f (fun _ => some
          { booking := b.handle, phase := .push, work := { v with attempts := v.attempts + 1 } :: others }) }) ∧
    (3 ≤ v.attempts + 1 → b.startNoted = false →
      Leaves (.responseTimeout seg) s { s.withSeat n x.failedOnce with
        contexts := upd s.part.contexts f (fun _ => none)
        slots := upd s.part.slots k (fun _ => some
          { b with state := .ready, flags := { b.flags with rosterUnseated := true } })
        floors := upd s.part.floors f (fun _ => { fl with state := .ready }) }) := by
  have hlike := s.missed_like (seg := seg) h.seat hscore
  have le := h.entry.of_contexts (p := s.part.withSeat n x.failedOnce) rfl
  refine ⟨fun hleft => ?_, fun hlast hs => ?_⟩
  · obtain ⟨p, hout, hp', hwait⟩ := le.waits hlike false false rfl hleft
    have hbook : (s.part.withSeat n x.failedOnce).bookingOf b.handle = some b := by
      rw [Part.bookingOf, show (s.part.withSeat n x.failedOnce).slotOf b.handle = some k from h.key]
      exact h.slot
    have hw := (runs_advance_waits (s := (s.part.withSeat n x.failedOnce).setContext f (some (workContext b.handle .push
      { v with attempts := v.attempts + 1 } others))) (le.written _) hbook hwait).runTasks (by decide) p hp'
    rw [← hout] at hw
    refine leaves_congr (s.timeout_leaves hr hline hn h.seat hp hscore hfree (s.part.setContext f _) h.seat hw) ?_
    rw [State.withSeat_eq]
    rfl
  · obtain ⟨p, w, hout, hp', hdone⟩ := le.fails hlike false false rfl hlast k b h.key h.slot Booking.unseated
      fun q c hc => by rw [Part.workFailed, hc]
    have hw := (runs_push_ready (S := { (s.part.withSeat n x.failedOnce).setContext f (some (workContext b.handle .push w others)) with
        slots := upd s.part.slots k (fun _ => some b.unseated) }) (b := b.unseated) (k := k) (fl := fl)
      (le.written (some (workContext b.handle .push w others))) hdone
      (Part.slotOf_written s.part _ k b b.unseated h.key h.slot rfl rfl)
      (by rw [Part.slotAt, nth_upd_same, s.part.slotAt_some k b h.slot]; rfl) h.floor hs).runTasks
      (by decide) p hp'
    rw [← hout] at hw
    refine leaves_congr (s.timeout_leaves hr hline hn h.seat hp hscore hfree
      (({ s.part.setContext f (some (workContext b.handle .push w others)) with
        slots := upd s.part.slots k (fun _ => some b.unseated) } : Part).applied f k { b.unseated with state := .ready }
          { fl with state := .ready }) h.seat hw) ?_
    rw [State.withSeat_eq]
    simp only [Part.applied, Part.setContext, upd_upd]
    rfl

end

/-- Settles O22: the last entry confirmed, tried again or given up; then the tasks of apply, with the pending press of a late
one. -/
theorem pushEndsAtTheLastEntry : Obligations.PushEndsAtTheLastEntry := by
  intro s seg n k f x b fl q v others honly hcalm hawake h1 h4 hstate hfloor hx hfl hq hlen hctx halone hseat hawaiting hunsent hothers
  have hkey := s.part.onlyBooking_slotOf honly
  obtain ⟨-, hb, -⟩ := honly
  have h : s.Pushing n k f x b fl v others :=
    ⟨hx, hkey, hb, hfl, hcalm, h1, h4, hlen, hctx, halone, hseat, hawaiting, hunsent, hothers⟩
  refine ⟨fun img rx up r hpoll hup hr => ?_, fun pos img hrun hline hn hp hscore hfree r hr => ?_⟩
  · subst hr
    refine ⟨fun hs => ?_, fun hs hc hpending => ?_, fun hs hc hpending hopen hbook hrole hmode hroom hclosed hqueued => ?_⟩
    · exact h.confirmed hpoll hup _ _ fun w hdone => runs_push_ready (h.pushOn_context w) hdone hkey hb hfl hs
    · have hlate : b.lateLive = { b with state := .live, flags := { b.flags with lateApply := true } } := by
        rw [Booking.lateLive, ← hpending]
      rw [← hlate]
      refine h.confirmed hpoll hup _ _ fun w hdone =>
        runs_push_live (h.pushOn_context w) hdone hkey hb hfl hcalm hs hc _ rfl _ fun p hp => ?_
      have hkeeps : p.takePending f b = p := by simp only [Part.takePending, hpending]
      rw [hkeeps]
      exact hp
    · exact h.confirmed hpoll hup b.lateLive _ fun w hdone =>
        runs_push_live (h.pushOn_context w) hdone hkey hb hfl hcalm hs hc _ rfl _ fun p hp =>
          h.press (hpoll.present hx) hpending hopen hbook hrole hq hmode hroom hclosed hqueued w _ rfl p hp
  · subst hr
    exact h.missed hrun hline hn hp hscore hfree

end Sys2Proof.Machine
end

section
/-! RETIRE_BOOKING of a PREPARING booking: the apply aborted, its floor released, and the booking that begins on it (O24). -/

namespace Sys2Proof.Machine

/-! ### The abort -/

/-- What becomes of the record of a booking whose apply is aborted (R55). -/
def Booking.aborted (b : Booking) (keep : Bool) : Option Booking := if keep then some (b.finish .endedEarly) else none

/-- The part after an aborted apply: the seats of the zones cleared and the floor released (R55, R12). -/
def Part.abortedAt (p : Part) (f k : Nat) (b : Booking) (keep : Bool) : Part :=
  (p.writeSeats b.zones (fun _ => none)).released f k (b.aborted keep)

section
variable {p : Part} {f k : Nat} {b : Booking} {keep : Bool}

theorem Part.abortApply_like (hk : p.slotOf b.handle = some k) (hb : p.slotAt k = some b) (hpending : b.pendingSeat = none)
    (hcalm : p.calm) : (p.abortedAt f k b keep).Like (p.abortApply f b keep) := by
  have hdrop : ((p.setContext f none).writeSeats b.zones (fun _ => none)).dropPending b =
      (p.setContext f none).writeSeats b.zones (fun _ => none) := by simp only [Part.dropPending, hpending]
  have hended : (if keep then ((p.setContext f none).writeSeats b.zones (fun _ => none)).updBooking b.handle (fun b => b.finish .endedEarly)
      else ((p.setContext f none).writeSeats b.zones (fun _ => none)).freeBooking b.handle) =
      { (p.setContext f none).writeSeats b.zones (fun _ => none) with slots := upd p.slots k (fun _ => b.aborted keep) } := by
    cases keep with
    | true => exact Part.updBooking_eq _ b.handle k (fun b => b.finish .endedEarly) b hk hb
    | false => exact Part.freeBooking_eq _ b.handle k hk
  rw [Part.Like, Part.abortApply]
  simp only [hdrop, hended]
  generalize hA : ({ (p.setContext f none).writeSeats b.zones (fun _ => none) with
    slots := upd p.slots k (fun _ => b.aborted keep) } : Part) = A
  have hcalm' : (A.requestSeats (p.clearedSeats b.zones)).calmBut f :=
    Part.calmBut_of_calm _ f (A.calm_of_records _ (A.requestSeats_records _) (p.calm_of_eq A (by rw [← hA]; rfl) (by rw [← hA]; rfl) hcalm))
  rw [Part.touchTable_records, Part.releaseFloor_eq _ f hcalm']
  refine (congrArg (fun r : Records => { r with
    floors := upd r.floors f Floor.freed
    queues := upd r.queues f (fun w => { w with entries := [] })
    control := { r.control with idleMark := r.now } }) (A.requestSeats_records (p.clearedSeats b.zones))).trans ?_
  rw [← hA]
  rfl

theorem Part.retire_preparing (p : Part) (hs : b.state = .preparing) (hf : b.floor = some f) :
    p.retire b keep = ((p.abortApply f b keep).runTasks [.chain 1]).done := by
  simp only [Part.retire, hs, Part.retirePreparing, hf]

theorem Booking.aborted_ended {c : Booking} (h : b.aborted keep = some c) : c.state = .ended := by
  cases keep with
  | true => cases h; rfl
  | false => cases h

theorem Part.abortedAt_slotAt (hb : p.slotAt k = some b) : (p.abortedAt f k b keep).slotAt k = b.aborted keep :=
  (p.writeSeats b.zones (fun _ => none)).released_slotAt f k _ b hb

theorem Part.abortedAt_slotAt_ne {j : Nat} (hj : j ≠ k) : (p.abortedAt f k b keep).slotAt j = p.slotAt j :=
  (p.writeSeats b.zones (fun _ => none)).released_slotAt_ne f k j _ hj

/-- No booking but those WAITING before waits after the abort. -/
theorem Part.abortedAt_waiting (hb : p.slotAt k = some b) (j : Nat) (c : Booking) (hc : (p.abortedAt f k b keep).slotAt j = some c)
    (hw : c.state = .waiting) : p.slotAt j = some c ∧ j ≠ k := by
  by_cases hj : j = k
  · rw [hj, Part.abortedAt_slotAt hb] at hc
    rw [Booking.aborted_ended hc] at hw
    cases hw
  · rw [Part.abortedAt_slotAt_ne hj] at hc
    exact ⟨hc, hj⟩

theorem Part.abortedAt_seat (n : Nat) (x : Seat) (hx : nth p.seats n = some x) :
    (p.abortedAt f k b keep).seatAt n = if p.seatIn b.zones n then { x with occupant := none, role := .ordinary } else x := by
  refine Part.seatAt_of_nth _ n _ ?_
  change nth (p.writeSeats b.zones (fun _ => none)).seats n = _
  rw [p.writeSeats_seat, hx]
  rfl

theorem Part.abortedAt_inService (n : Nat) : (p.abortedAt f k b keep).inService n = p.inService n := by
  cases hx : nth p.seats n with
  | some x =>
    rw [Part.inService, Part.inService, Part.abortedAt_seat n x hx, p.seatAt_of_nth n x hx]
    cases p.seatIn b.zones n <;> rfl
  | none =>
    have hnone : nth (p.abortedAt f k b keep).seats n = none := by
      change nth (p.writeSeats b.zones (fun _ => none)).seats n = _
      rw [p.writeSeats_seat, hx]
      rfl
    rw [Part.inService, Part.inService, Part.seatAt, Part.seatAt, hnone, hx]

end

/-! ### The booking that begins on the released floor -/

theorem find?_of_narrower {α : Type} {l : List α} {g g' : α → Bool} {a : α} (h : l.find? g = some a) (ha : g' a = true)
    (hle : ∀ x, g' x = true → g x = true) : l.find? g' = some a := by
  obtain ⟨-, front, back, hl, hfront⟩ := List.find?_eq_some_iff_append.1 h
  refine List.find?_eq_some_iff_append.2 ⟨ha, front, back, hl, fun x hx => ?_⟩
  have hno := hfront x hx
  cases hg : g' x with
  | false => rfl
  | true => rw [hle x hg] at hno; cases hno

section
variable {p : Part} {f k j : Nat} {b c : Booking} {keep : Bool}

/-- A release does not move the place of another booking. -/
theorem Part.abortedAt_slotOf (hb : p.slotAt k = some b) (hjk : j ≠ k)
    (hj : p.slotOf c.handle = some j) : (p.abortedAt f k b keep).slotOf c.handle = some j := by
  have hhas := List.find?_some hj
  refine find?_of_narrower hj (by rw [Part.abortedAt_slotAt_ne hjk]; exact hhas) fun i hi => ?_
  by_cases hik : i = k
  · rw [hik, Part.abortedAt_slotAt hb] at hi
    rw [hik, hb]
    cases keep with
    | true => exact hi
    | false => cases hi
  · rwa [Part.abortedAt_slotAt_ne hik] at hi

/-- The zones of a booking whose other holders none of the remaining floors is (R28). -/
theorem Part.abortedAt_unheld {fl : Floor} (hfl : nth p.floors f = some fl)
    (hzones : ∀ g z, 1 ≤ g → g ≤ 4 → g ≠ f → (p.floorAt g).holds z = true → c.zones.has z = false) :
    (p.abortedAt f k b keep).unheld c.zones = true := by
  refine List.all_eq_true.2 fun z _ => ?_
  cases hz : c.zones.has z with
  | false => rfl
  | true =>
    have hnone : (p.abortedAt f k b keep).floorOfZone z = none := by
      refine List.find?_eq_none.2 fun g hg hholds => ?_
      have hrange : 1 ≤ g ∧ g ≤ 4 := by
        simp only [floorNumbers, List.mem_cons, List.not_mem_nil, or_false] at hg
        omega
      by_cases hgf : g = f
      · rw [hgf, show (p.abortedAt f k b keep).floorAt f = fl.freed from
          (p.writeSeats b.zones (fun _ => none)).released_floorAt f k _ fl hfl] at hholds
        cases hholds
      · rw [show (p.abortedAt f k b keep).floorAt g = p.floorAt g from
          ((p.writeSeats b.zones (fun _ => none)).released_others f k _ g hgf).1] at hholds
        rw [hzones g z hrange.1 hrange.2 hgf hholds] at hz
        cases hz
    rw [hnone]
    rfl

theorem Part.abortedAt_freeFloor {fl : Floor} (hfl : nth p.floors f = some fl) (h1 : 1 ≤ f) (h4 : f ≤ 4)
    (hfull : ∀ g, 1 ≤ g → g ≤ 4 → g ≠ f → (p.floorAt g).state ≠ .free) : (p.abortedAt f k b keep).freeFloor = some f := by
  refine Part.freeFloor_of _ f h1 h4 ?_ fun g hg hlt => ?_
  · rw [show (p.abortedAt f k b keep).floorAt f = fl.freed from
      (p.writeSeats b.zones (fun _ => none)).released_floorAt f k _ fl hfl]
    rfl
  · rw [show (p.abortedAt f k b keep).floorAt g = p.floorAt g from
      ((p.writeSeats b.zones (fun _ => none)).released_others f k _ g (by omega)).1]
    exact hfull g hg (by omega) (by omega)

/-- The meeting stays calm at a release (R14). -/
theorem Part.abortedAt_calm (h : p.calm) : (p.abortedAt f k b keep).calm := by
  refine ⟨h.1, fun g => ?_⟩
  by_cases hg : g = f
  · subst hg
    change ((nth (upd p.floors g Floor.freed) g).getD startFloor).suspended = false
    rw [nth_upd_same]
    cases nth p.floors g <;> rfl
  · rw [show (p.abortedAt f k b keep).floorAt g = p.floorAt g from
      ((p.writeSeats b.zones (fun _ => none)).released_others f k _ g hg).1]
    exact h.2 g

end

/-- The push of the booking that begins on a released floor (R49, R50, R62). -/
structure ChainedAt (Q : Part) (f j : Nat) (c : Booking) (work : List WorkEntry) (q : Part) : Prop where
  records : q.records = { Q.records with
    slots := upd Q.slots j (fun _ => some (c.onFloor .preparing f (Q.unseats c)))
    floors := upd Q.floors f (fun _ => c.floorIn .preparing)
    queues := upd Q.queues f (fun _ => startQueue)
    seats := q.records.seats
    contexts := upd Q.contexts f (fun _ => some { booking := c.handle, phase := .push, work := work }) }
  work : freshWork (Q.servedSeats c.zones) work

section
variable {Q p q : Part} {f j : Nat} {c : Booking} {work : List WorkEntry}

theorem ChainedAt.of_records (h : ChainedAt Q f j c work p) (hq : q.records = p.records) : ChainedAt Q f j c work q :=
  ⟨by rw [hq]; exact h.records, h.work⟩

theorem ChainedAt.begins (hp : Q.Like p) (hj : Q.slotOf c.handle = some j) (hc : Q.slotAt j = some c) (hcalm : Q.calm) :
    ∃ work, ChainedAt Q f j c work (p.beginApply f c) := by
  obtain ⟨work, h⟩ := p.beginApply_applyingAt f j c ((hp.slotOf _).trans hj) ((hp.slotAt j).trans hc) (Q.calm_of_records p hp hcalm)
  have hrec := h.records
  rw [Part.unseats_of_records hp] at hrec
  refine ⟨work, ?_, by rw [← Part.servedSeats_of_records hp]; exact h.work⟩
  refine hrec.trans ?_
  exact congrArg (fun r : Records => ({ r with
    slots := upd r.slots j (fun _ => some (c.onFloor .preparing f (Q.unseats c)))
    floors := upd r.floors f (fun _ => c.floorIn .preparing)
    queues := upd r.queues f (fun _ => startQueue)
    seats := (p.beginApply f c).records.seats
    contexts := upd r.contexts f (fun _ => some { booking := c.handle, phase := .push, work := work }) } : Records)) hp

theorem ChainedAt.slotAt (h : ChainedAt Q f j c work q) (hc : Q.slotAt j = some c) :
    q.slotAt j = some (c.onFloor .preparing f (Q.unseats c)) := by
  rw [Part.slotAt, show q.slots = _ from congrArg Records.slots h.records, nth_upd_same, Q.slotAt_some j c hc]
  rfl

theorem ChainedAt.slotAt_ne (h : ChainedAt Q f j c work q) {i : Nat} (hi : i ≠ j) : q.slotAt i = Q.slotAt i := by
  rw [Part.slotAt, show q.slots = _ from congrArg Records.slots h.records, nth_upd_ne _ _ _ _ (Ne.symm hi)]
  rfl

/-- The release of a floor for which one booking waits: its apply begins there, and waits for its seats (R28, R62). -/
theorem runs_chain_begins (hj : Q.slotOf c.handle = some j) (hc : Q.slotAt j = some c) (hw : c.state = .waiting)
    (honly : ∀ i d, Q.slotAt i = some d → d.state = .waiting → i = j) (hcalm : Q.calm) (hun : Q.unheld c.zones = true)
    (hawake : Q.control.tableState = .awake) (hfree : Q.freeFloor = some f) (hl : Q.contexts.length = 4) (h1 : 1 ≤ f) (h4 : f ≤ 4)
    (hserved : Q.servedSeats c.zones ≠ []) :
    Runs 3 [.chain 1] Q.Like (fun q => ∃ work, ChainedAt Q f j c work q) := by
  obtain ⟨hj1, hj48, -⟩ := Q.slotOf_some c.handle j hj
  have hcan : ∀ p : Part, Q.Like p → p.canBegin c = true := fun p hp => by
    have hun' : p.unheld c.zones = true := (Part.unheld_of_records p Q hp c.zones).trans hun
    have hawake' : p.control.tableState = .awake := (congrArg (fun r : Records => r.control.tableState) hp).trans hawake
    simp [Part.canBegin, hw, hun', hawake']
  have hfree' : ∀ p : Part, Q.Like p → p.freeFloor = some f := fun p hp => by
    rw [← hfree, Part.freeFloor, Part.freeFloor]
    simp only [hp.floorAt]
  have hfind : ∀ p : Part, Q.Like p →
      slotNumbers.find? (fun i => decide (1 ≤ i) && ((p.slotAt i).map p.canBegin).getD false) = some j := fun p hp => by
    rw [slotNumbers, List.find?_range'_eq_some]
    refine ⟨by simp [hj1, hp.slotAt, hc, hcan p hp], by rw [List.mem_range'_1]; omega, fun i hi hij => ?_⟩
    rw [hp.slotAt]
    cases hd : Q.slotAt i with
    | none => simp
    | some d =>
      have hwait : d.state ≠ .waiting := fun hdw => by
        have := honly i d hd hdw
        omega
      simp [Part.canBegin, hwait]
  refine Runs.task (ts := [.advance f] ++ [.chain (j + 1)]) (P' := fun q => ∃ work, ChainedAt Q f j c work q) (fun p hp => ?begin)
    (Runs.append (m := 1) (n := 1) (Q := fun q => ∃ work, ChainedAt Q f j c work q)
      (Runs.single fun q hq => ?advance) (Runs.single fun q hq => ?rest))
  case begin =>
    obtain ⟨work, hwork⟩ := ChainedAt.begins (f := f) hp hj hc hcalm
    refine ⟨p.beginApply f c, ?_, work, hwork.of_records (Part.follow_records _ _)⟩
    have hslot : p.slotAt j = some c := (hp.slotAt j).trans hc
    simp [Part.doTask, Part.takeChain, hfind p hp, hslot, Part.startApply, hfree' p hp]
  case advance =>
    obtain ⟨work, h⟩ := hq
    have hctx : q.contextAt f = some { booking := c.handle, phase := .push, work := work } :=
      Part.contextAt_written (p := Q) (congrArg Records.contexts h.records) hl h1 h4
    have hbook : q.bookingOf c.handle = some (c.onFloor .preparing f (Q.unseats c)) := by
      rw [Part.bookingOf, Part.slotOf_written Q q j c (c.onFloor .preparing f (Q.unseats c)) hj hc rfl (congrArg Records.slots h.records)]
      exact h.slotAt hc
    have hwait : ¬ settledWork work = true := fun hs => hserved (h.work.settled.1 hs)
    exact ⟨q, by simp [Part.doTask, Part.takeAdvance, hctx, hbook, hwait], work, h.of_records (Part.follow_records _ _)⟩
  case rest =>
    obtain ⟨work, h⟩ := hq
    refine ⟨q, ?_, work, h.of_records (Part.follow_records _ _)⟩
    have hnone : slotNumbers.find? (fun i => decide (j + 1 ≤ i) && ((q.slotAt i).map q.canBegin).getD false) = none := by
      refine List.find?_eq_none.2 fun i _ => ?_
      by_cases hi : i = j
      · simp [hi]
      · rw [h.slotAt_ne hi]
        cases hd : Q.slotAt i with
        | none => simp
        | some d =>
          have hwait : d.state ≠ .waiting := fun hdw => hi (honly i d hd hdw)
          simp [Part.canBegin, hwait]
    simp only [Part.doTask, Part.takeChain, hnone]

end

/-! ### The statement -/

section
variable {s : State} {h k f : Nat} {b : Booking} {keep : Bool}

/-- RETIRE_BOOKING of a PREPARING booking: what the tasks after the abort leave. -/
theorem retire_preparing_replies {n : Nat} {Q : Part → Prop} (hr : s.runs) (hh : h < 65536) (hk : s.part.slotOf h = some k)
    (hb : s.part.slotAt k = some b) (hs : b.state = .preparing) (hf : b.floor = some f) (hpending : b.pendingSeat = none)
    (hcalm : s.part.calm) (hrun : Runs n [.chain 1] (s.part.abortedAt f k b keep).Like Q) (hn : n ≤ taskFuel)
    (hQ : ∀ p q, Q p → p.Like q → Q q) :
    ∃ p, Replies (.retireBooking (bytes 2 h ++ flagByte keep)) s 0x12 .done [] p ∧ Q p := by
  have hbook : s.part.bookingOf h = some b := by rw [Part.bookingOf, hk]; exact hb
  have hkb : s.part.slotOf b.handle = some k := by rw [s.part.bookingOf_handle h b hbook]; exact hk
  have hend := hrun.runTasks hn _ (Part.abortApply_like hkb hb hpending hcalm)
  have hretire := s.part.retire_preparing (keep := keep) hs hf
  generalize (s.part.abortApply f b keep).runTasks [.chain 1] = A at hend hretire
  obtain ⟨p, hexec, hanswer, hrecords⟩ := answersWith_retire s h keep b A.done hr hh hbook hretire rfl
  exact ⟨p, ⟨hexec, hanswer⟩, hQ A p hend hrecords⟩

end

/-- Settles O24: the abort releases the floor; with a booking WAITING for it, its apply begins there in the same step. -/
theorem abortedApplyIsReleasedAndChained : Obligations.AbortedApplyIsReleasedAndChained := by
  intro s h k f b fl w keep gone hr hh hk hb hs hf hpending h1 h4 hfl hw hl hcalm hgone
  have hgone' : gone = b.aborted keep := hgone
  subst hgone'
  have hslot := Part.abortedAt_slotAt (f := f) (keep := keep) hb
  refine ⟨fun hnone => ?alone, fun j c hc hcw hcj honly hawake hfull hzones hserved => ?chained⟩
  case alone =>
    have hno : ∀ j c, (s.part.abortedAt f k b keep).slotAt j = some c → c.state ≠ .waiting := fun j c hc hcw =>
      hnone j c (Part.abortedAt_waiting hb j c hc hcw).1 hcw
    obtain ⟨p, hreplies, hp⟩ := retire_preparing_replies hr hh hk hb hs hf hpending hcalm (runs_chain_idle hno 1) (by decide)
      fun p q hp hq => hq.trans hp
    generalize hW : s.part.writeSeats b.zones (fun _ => none) = W
    have hp' : (W.released f k (b.aborted keep)).Like p := by rw [← hW]; exact hp
    have hfree : p.floorAt f = fl.freed :=
      (hp'.floorAt f).trans (W.released_floorAt f k _ fl (by rw [← hW]; exact hfl))
    refine ⟨p, hreplies, (hp.slotAt k).trans hslot, by rw [hfree]; rfl, by rw [hfree]; rfl, by rw [hfree]; rfl, by rw [hfree]; rfl,
      by rw [hfree]; rfl, (congrArg Queue.entries (hp'.queueAt f)).trans (W.released_queueAt f k _),
      (hp'.contextAt f).trans (W.released_contextAt f k _ (by rw [← hW]; exact hl) h1 h4), fun n x hx => ?_, fun g hg => ?_,
      fun i hi => (hp.slotAt i).trans (Part.abortedAt_slotAt_ne hi), ?_⟩
    · rw [hp.seatAt n, Part.abortedAt_seat n x hx]
    · rw [hp'.floorAt g, hp'.queueAt g, hp'.contextAt g]
      have hrest := W.released_others f k (b.aborted keep) g hg
      rw [← hW] at hrest ⊢
      exact hrest
    · rw [hp.slots, hp.floors, hp.queues, hp.contexts, show p.records = _ from hp]
      rfl
  case chained =>
    obtain ⟨n, hn1, hn96, hin, hserve⟩ := hserved
    have hjk : j ≠ k := fun hjk => by
      rw [hjk, hb] at hc
      cases hc
      rw [hs] at hcw
      cases hcw
    have hhandle : b.handle = h := s.part.bookingOf_handle h b (by rw [Part.bookingOf, hk]; exact hb)
    have hseats : (s.part.abortedAt f k b keep).servedSeats c.zones =
        seatNumbers.filter (fun n => s.part.seatIn c.zones n && s.part.inService n) := by
      rw [Part.servedSeats_eq]
      exact congrArg (fun g : Nat → Bool => seatNumbers.filter g) (funext fun n =>
        congrArg (fun o => s.part.seatIn c.zones n && o) (Part.abortedAt_inService n))
    have hunseats : (s.part.abortedAt f k b keep).unseats c = s.part.unseats c := by
      rw [Part.unseats, Part.unseats]
      exact congrArg (fun g : RosterEntry → Bool => c.roster.any g) (funext fun e =>
        congrArg (fun o => !(s.part.seatIn c.zones e.seat && o)) (Part.abortedAt_inService e.seat))
    have hsome : (s.part.abortedAt f k b keep).servedSeats c.zones ≠ [] := by
      rw [hseats]
      exact List.ne_nil_of_mem (List.mem_filter.2 ⟨List.mem_range'_1.2 ⟨hn1, by omega⟩, by rw [hin, hserve]; rfl⟩)
    have hcQ : (s.part.abortedAt f k b keep).slotAt j = some c := (Part.abortedAt_slotAt_ne hjk).trans hc
    have hrun := runs_chain_begins (f := f) (Part.abortedAt_slotOf (f := f) (keep := keep) hb hjk hcj) hcQ hcw
      (fun i d hd hdw => honly i d (Part.abortedAt_waiting hb i d hd hdw).1 hdw) (Part.abortedAt_calm hcalm)
      (Part.abortedAt_unheld hfl hzones) hawake (Part.abortedAt_freeFloor hfl h1 h4 hfull) ((length_upd _ _ _).trans hl) h1 h4 hsome
    obtain ⟨p, hreplies, work, hp⟩ := retire_preparing_replies hr hh hk hb hs hf hpending hcalm hrun (by decide)
      fun p q ⟨work, hp⟩ hq => ⟨work, hp.of_records hq⟩
    refine ⟨p, hreplies, (hp.slotAt_ne (Ne.symm hjk)).trans hslot, (hp.slotAt hcQ).trans ?_, ?_, ?_, _,
      Part.contextAt_written (p := s.part.abortedAt f k b keep) (congrArg Records.contexts hp.records) ((length_upd _ _ _).trans hl) h1 h4,
      rfl, rfl, by rw [← hseats]; exact hp.work⟩
    · rw [hunseats]
      rfl
    · refine Part.floorAt_written (p := s.part.abortedAt f k b keep) (fl := fl.freed) (congrArg Records.floors hp.records) ?_
      change nth (upd s.part.floors f Floor.freed) f = _
      rw [nth_upd_same, hfl]
      rfl
    · refine Part.queueAt_written (p := s.part.abortedAt f k b keep) (F := fun _ => startQueue) (w := { w with entries := [] })
        (congrArg Records.queues hp.records) ?_
      change nth (upd s.part.queues f _) f = _
      rw [nth_upd_same, hw]
      rfl

end Sys2Proof.Machine
end

section
/-! A roster change that reaches its seat: the seat written, the floor told, and no admission lost (R37 to R39, R76, R77, R110). -/

namespace Sys2Proof.Machine

/-! ### The entry of a seat in a changed roster -/

theorem find_putEntry (e : RosterEntry) (l : List RosterEntry) : (putEntry e l).find? (fun a => a.seat == e.seat) = some e := by
  induction l with
  | nil => simp [putEntry]
  | cons x l ih =>
    rw [putEntry]
    split
    · simp
    · split
      · simp
      · next hne => rw [List.find?_cons_of_neg (by simpa using fun h : x.seat = e.seat => hne h.symm), ih]

theorem find_filter_ne (n : Nat) (l : List RosterEntry) : (l.filter (fun a => a.seat != n)).find? (fun a => a.seat == n) = none :=
  List.find?_eq_none.2 fun a ha => by simpa using (List.mem_filter.1 ha).2

/-! ### One seat written -/

/-- The part in which the record in slot `k` is `b` and seat `n` is `y`. -/
def Part.rostered (p : Part) (k : Nat) (b : Booking) (n : Nat) (y : Seat) : Part :=
  { p with slots := upd p.slots k (fun _ => some b), seats := upd p.seats n (fun _ => y) }

section
variable {p q : Part} {k n f : Nat} {b : Booking} {x y : Seat}

theorem mapFrom_one (l : List Seat) (n : Nat) (x : Seat) (hx : nth l n = some x) (g : Nat → Seat → Seat)
    (hg : ∀ m s, m ≠ n → g m s = s) : mapFrom g 1 l = upd l n (fun _ => g n x) := by
  apply List.ext_getElem?
  intro i
  have hnth := nth_mapFrom g l (i + 1)
  have hupd := nth_upd_const l n (i + 1) (g n x) x hx
  simp only [nth] at hnth hupd
  rw [hnth, hupd]
  by_cases hi : i + 1 = n
  · subst hi
    have hx' : l[i]? = some x := hx
    rw [if_pos rfl, hx']
    rfl
  · rw [if_neg hi]
    cases l[i]? with
    | none => rfl
    | some s => exact congrArg some (hg _ s hi)

/-- The one seat of a request, written from the new roster (R39). -/
theorem Part.seatsTakeRoster_one (hx : nth p.seats n = some x) (b : Booking) (hin : p.seatIn b.zones n = true) :
    (p.withSeat n (x.take (b.entryOf n))).Like (p.seatsTakeRoster b [n]) := by
  have hwritten : p.writeChanged b [n] = p.withSeat n (x.take (b.entryOf n)) := by
    have hmap := mapFrom_one p.seats n x hx (fun m s => if decide (m ∈ [n]) && p.seatIn b.zones m then s.take (b.entryOf m) else s)
      fun m s hm => by simp [hm]
    rw [Part.writeChanged, hmap]
    simp [hin, Part.withSeat]
  rw [Part.Like, Part.seatsTakeRoster, Part.follow_records, Part.requestSeats_records, hwritten]

/-- Parts with equal records and the same doors. -/
theorem Part.Like.sameDoors (h : p.Like q) : p.SameDoors q where
  settings := congrArg Records.settings h
  slots := h.slots
  shell g := by rw [h.floorAt]
  presence n := Seat.of_quiet (fun s => s.health.presence) (fun _ => rfl) (h.seatAt n)
  badge n := Seat.of_quiet Seat.badge (fun _ => rfl) (h.seatAt n)
  role n := Seat.of_quiet Seat.role (fun _ => rfl) (h.seatAt n)

/-- What a seat's admission reads, where one floor holds its zone (R79). -/
theorem Part.admitted_of_served (p q : Part) (n f : Nat) (hf : p.floorOf n = some f) (hf' : q.floorOf n = some f)
    (hpresence : (q.seatAt n).health.presence = (p.seatAt n).health.presence) (hbadge : (q.seatAt n).badge = (p.seatAt n).badge)
    (hstate : (q.floorAt f).state = (p.floorAt f).state) (hserved : q.served f = p.served f) : q.admitted n = p.admitted n := by
  simp only [Part.admitted, Part.inService, hf, hf', hpresence, hbadge]
  cases (p.seatAt n).badge with
  | none => rfl
  | some badge => simp only [hstate, hserved]

/-- A booking of another handle is not the one written. -/
theorem Part.rostered_bookingOf_ne (hk : p.slotOf b.handle = some k) (hb : p.slotAt k = some b) (c : Booking)
    (hc : c.handle = b.handle) (i : Nat) (hi : i ≠ b.handle) : (p.rostered k c n y).bookingOf i = p.bookingOf i := by
  have hslots : (p.rostered k c n y).slots = (p.updSlot k (fun _ => c)).slots := by
    rw [← p.updBooking_slot b.handle k (fun _ => c) hk]
    exact (p.updBooking_slots b.handle k (fun _ => c) b hk hb).symm
  have hhas : ∀ j, hasHandle i ((p.updSlot k (fun _ => c)).slotAt j) = hasHandle i (p.slotAt j) := fun j => by
    rw [← Part.slotAt_of_slots _ _ hslots, Part.slotAt]
    by_cases hj : j = k
    · subst hj
      rw [Part.rostered, nth_upd_same, p.slotAt_some j b hb, hb]
      simp [hasHandle, hc]
    · rw [Part.rostered, nth_upd_ne _ _ _ _ (Ne.symm hj)]
      rfl
  have hslotOf : (p.rostered k c n y).slotOf i = p.slotOf i := by
    rw [Part.slotOf_of_slots _ _ hslots, Part.slotOf, Part.slotOf]
    exact congrArg (fun g : Nat → Bool => slotNumbers.find? g) (funext hhas)
  rw [Part.bookingOf, Part.bookingOf, hslotOf]
  cases hj : p.slotOf i with
  | none => rfl
  | some j =>
    obtain ⟨-, -, d, hd, hdi⟩ := p.slotOf_some i j hj
    have hjk : j ≠ k := fun hjk => by
      rw [hjk, hb] at hd
      cases hd
      exact hi hdi.symm
    rw [Option.bind_some, Option.bind_some, Part.slotAt, Part.rostered, nth_upd_ne _ _ _ _ (Ne.symm hjk)]
    rfl

theorem Part.rostered_bookingOf (hk : p.slotOf b.handle = some k) (hb : p.slotAt k = some b) (c : Booking)
    (hc : c.handle = b.handle) : (p.rostered k c n y).bookingOf b.handle = some c := by
  rw [Part.bookingOf, Part.slotOf_written p _ k b c hk hb hc rfl, Option.bind_some, Part.slotAt, Part.rostered, nth_upd_same,
    p.slotAt_some k b hb]
  rfl

theorem Part.rostered_seatAt (hx : nth p.seats n = some x) : (p.rostered k b n y).seatAt n = y :=
  Part.seatAt_of_nth _ n y (by rw [Part.rostered, nth_upd_const p.seats n n y x hx, if_pos rfl])

/-- The roster of an OPEN booking takes no admission that counts (R79, R80): the seat's floor serves that booking, or one whose
roster is as it was. -/
theorem Part.reportAdmission_open (hk : p.slotOf b.handle = some k) (hb : p.slotAt k = some b) (c : Booking)
    (hc : c.handle = b.handle) (hopen : c.confidentiality = .openMeeting) (hx : nth p.seats n = some x)
    (hpresence : y.health.presence = x.health.presence) (hbadge : y.badge = x.badge) (hq : (p.rostered k c n y).SameDoors q) :
    q.reportAdmission n (p.admitted n) = q := by
  have hseat := p.rostered_seatAt (k := k) (b := c) (y := y) hx
  have hold := p.seatAt_of_nth n x hx
  rw [Part.reportAdmission]
  cases hf : q.floorOf n with
  | none => rfl
  | some g =>
    have hfloor : (p.rostered k c n y).floorOf n = some g := by rw [← hq.floorOf]; exact hf
    by_cases hserves : (p.floorAt g).booking = some b.handle
    · have hpublic : q.isPrivate g = false := by
        have hserved : (p.rostered k c n y).served g = some c := by
          rw [Part.served, show (p.rostered k c n y).floorAt g = p.floorAt g from rfl, hserves]
          exact p.rostered_bookingOf hk hb c hc
        rw [hq.isPrivate, Part.isPrivate, hserved]
        simp [hopen]
      simp [hpublic]
    · have hsame : q.admitted n = p.admitted n := by
        rw [hq.admitted]
        refine p.admitted_of_served _ n g hfloor hfloor (by rw [hseat, hold, hpresence]) (by rw [hseat, hold, hbadge]) rfl ?_
        rw [Part.served, Part.served, show (p.rostered k c n y).floorAt g = p.floorAt g from rfl]
        cases hbook : (p.floorAt g).booking with
        | none => rfl
        | some i => exact p.rostered_bookingOf_ne hk hb c hc i fun hi => hserves (by rw [hbook, hi])
      rw [hsame]
      cases p.admitted n <;> rfl

end

/-! ### A change of role -/

section
variable {p : Part} {n f : Nat} {old : Role} {fl : Floor} {w : Queue} {q : FloorParams}

theorem Part.roleChanged_free (hfree : (p.seatAt n).priorityHeld = false) (hne : old ≠ (p.seatAt n).role) :
    (p.openEntry f n = none → p.isQueued f n = false → p.roleChanged f n old = p) ∧
    (∀ e, p.openEntry f n = some e → p.roleChanged f n old = p.roleOfOpen f n e (p.seatAt n).role) ∧
    (p.openEntry f n = none → p.isQueued f n = true → p.roleChanged f n old = p.roleOfQueued f n (p.seatAt n).role) := by
  have hheld : (if old = .chair then p.endHold f n else p) = p := by simp [Part.endHold, hfree]
  refine ⟨fun ho hq => ?_, fun e ho => ?_, fun ho hq => ?_⟩
  · simp only [Part.roleChanged, if_neg hne, hheld, ho, hq, Bool.false_eq_true, if_false]
  · simp only [Part.roleChanged, if_neg hne, hheld, ho]
  · simp only [Part.roleChanged, if_neg hne, hheld, ho, hq, if_true]

/-- A delegate that becomes CHAIR, with no grant behind it (R110). -/
theorem Part.roleOfOpen_toChair (hfl : nth p.floors f = some fl) (hw : nth p.queues f = some w) (hq : fl.params = some q)
    (e : OpenEntry) (he : e.cls = .delegate) (hidle : q.mode = .moderated ∨ w.entries = []) :
    p.roleOfOpen f n e .chair = { p with floors := upd p.floors f (fun _ => fl.withEntry n OpenEntry.toChair) } := by
  have hwritten : p.updEntry f n OpenEntry.toChair =
      { p with floors := upd p.floors f (fun _ => fl.withEntry n OpenEntry.toChair) } := Part.updEntry_eq hfl _
  simp only [Part.roleOfOpen, he]
  rw [hwritten]
  refine Part.autoGrant_idle _ f (Part.grantReady_false _ f ?_)
  rw [Part.floorAt_written (p := p) rfl hfl, show (fl.withEntry n OpenEntry.toChair).par = q from Floor.par_some _ q hq]
  exact hidle.imp_right fun h => (congrArg Queue.entries (p.queueAt_of_nth f w hw)).trans h

/-- A CHAIR that becomes a delegate within the limit (R108, R110). -/
theorem Part.roleOfOpen_toDelegate (hfl : nth p.floors f = some fl) (hq : fl.params = some q) (e : OpenEntry) (he : e.cls = .chair)
    (role : Role) (hr : role ≠ .chair) (hroom : (fl.withEntry n (fun a => a.toDelegate fl)).delegates ≤ q.limit) :
    p.roleOfOpen f n e role = { p with floors := upd p.floors f (fun _ => fl.withEntry n (fun a => a.toDelegate fl)) } := by
  have hrole : p.roleOfOpen f n e role = (p.updFloor f (fun fl =>
      { fl with openList := fl.openList.map (fun e => if e.seat = n then e.toDelegate fl else e) })).enforceLimit f := by
    cases role with
    | chair => exact absurd rfl hr
    | ordinary => simp only [Part.roleOfOpen, he]
    | priority => simp only [Part.roleOfOpen, he]
  have hwritten := p.updFloor_eq f
    (fun fl => { fl with openList := fl.openList.map (fun e => if e.seat = n then e.toDelegate fl else e) }) fl hfl
  rw [hrole, hwritten]
  refine Part.enforceLimit_within _ f ?_
  rw [Part.floorAt_written (p := p) rfl hfl]
  exact hroom.trans_eq (congrArg FloorParams.limit (Floor.par_some (fl.withEntry n (fun a => a.toDelegate fl)) q hq)).symm

/-- One CHAIR entry that becomes a delegate is one delegate more. -/
theorem Floor.delegates_toDelegate (fl : Floor) (e : OpenEntry) (he : fl.openList.find? (fun a => a.seat == n) = some e)
    (hnodup : (fl.openList.map (fun a => a.seat)).Nodup) :
    (fl.withEntry n (fun a => a.toDelegate fl)).delegates ≤ fl.delegates + 1 := by
  have hseat : e.seat = n := by simpa using List.find?_some he
  obtain ⟨front, back, hl⟩ := List.append_of_mem (List.mem_of_find?_eq_some he)
  rw [hl, List.map_append, List.map_cons, List.nodup_append, List.nodup_cons] at hnodup
  obtain ⟨-, ⟨hback, -⟩, hfront⟩ := hnodup
  have keep : ∀ l : List OpenEntry, (∀ a ∈ l, a.seat ≠ n) → l.map (fun a => if a.seat = n then a.toDelegate fl else a) = l :=
    fun l hl => (List.map_congr_left fun a ha => if_neg (hl a ha)).trans (List.map_id _)
  have hf := keep front fun a ha h => hfront a.seat (List.mem_map_of_mem ha) e.seat (by simp) (h.trans hseat.symm)
  have hb := keep back fun a ha h => hback (hseat.trans h.symm ▸ List.mem_map_of_mem ha)
  have htold : (if e.seat = n then e.toDelegate fl else e).cls = .delegate := by rw [if_pos hseat]; rfl
  have hback' : (back.filter (fun a => decide (a.cls = .delegate))).length ≤
      ((e :: back).filter (fun a => decide (a.cls = .delegate))).length := ((List.sublist_cons_self e back).filter _).length_le
  simp only [Floor.delegates, Floor.withEntry, hl, List.map_append, List.map_cons, hf, hb, List.filter_append, List.length_append]
  rw [List.filter_cons_of_pos (by rw [htold]; rfl), List.length_cons]
  omega

/-- A queued seat that becomes PRIORITY is placed anew (R127). -/
theorem Part.roleOfQueued_priority (hw : nth p.queues f = some w) (a : QueueEntry)
    (ha : w.entries.find? (fun e => e.seat == n) = some a) (moved : QueueEntry)
    (hm : moved = { a with cls := .priority, arrival := nextNumber w.lastArrival }) (others : List QueueEntry)
    (ho : others = w.entries.filter (fun e => e.seat != n)) :
    p.roleOfQueued f n .priority = { p with queues := upd p.queues f (fun _ =>
      { entries := others.takeWhile (fun e => decide (e.cls = .priority)) ++
          moved :: others.dropWhile (fun e => decide (e.cls = .priority))
        lastArrival := nextNumber w.lastArrival }) } := by
  subst hm ho
  simp only [Part.roleOfQueued, Part.reclassQueued]
  rw [p.updQueue_eq f _ w hw]
  simp only [ha, wrapNext_eq, placeEntry]

end

end Sys2Proof.Machine
end

section
/-! ROSTER_PUT and ROSTER_DROP at a READY or LIVE booking, for one seat (O26). -/

namespace Sys2Proof.Machine

/-! ### The doors after a written floor -/

/-- A floor written so that all but its holds and open list stays. -/
theorem Part.SameDoors.writeFloor {p q : Part} {f : Nat} {fl fl' : Floor} (h : p.SameDoors q) (hfl : nth q.floors f = some fl)
    (hshell : fl'.shell = fl.shell) : p.SameDoors { q with floors := upd q.floors f (fun _ => fl') } where
  settings := h.settings
  slots := h.slots
  shell g := by
    refine Eq.trans ?_ (h.shell g)
    by_cases hg : g = f
    · subst hg
      rw [Part.floorAt_written (p := q) rfl hfl, q.floorAt_of_nth g fl hfl, hshell]
    · rw [Part.floorAt_other (p := q) rfl hg]
  presence := h.presence
  badge := h.badge
  role := h.role

/-! ### A request for one seat -/

theorem seatNumbers_one (n : Nat) (h1 : 1 ≤ n) (h96 : n ≤ 96) : seatNumbers.filter (fun m => decide (m ∈ [n])) = [n] := by
  have hmem : n ∈ seatNumbers := List.mem_range'_1.2 ⟨h1, by omega⟩
  have hsame : (fun m => decide (m ∈ [n])) = fun m => decide (m = n) := funext fun m => by simp
  have hnodup : seatNumbers.Nodup := List.nodup_range'
  have honce : List.count n seatNumbers = 1 := List.count_eq_one_of_mem hnodup hmem
  rw [hsame, List.filter_eq, honce]
  rfl

theorem Part.reportOrder_one (old p : Part) (n : Nat) : old.reportOrder p [n] = [n] := by
  rw [Part.reportOrder]
  cases h : decide ((old.seatAt n).role = .chair) && decide ((p.seatAt n).role ≠ .chair) <;> simp only [List.filter, h] <;> rfl

section
variable {p : Part} {k n f : Nat} {b : Booking} {x : Seat} {fl : Floor} {w : Queue}

/-- A request for one seat of an OPEN booking, whose seat is in the booking's zones: once the floor is told of the new role, no
admission falls (R39, R77, R80). -/
theorem Part.setRoster_reaches (hk : p.slotOf b.handle = some k) (hb : p.slotAt k = some b) (hf : b.floor = some f)
    (hs : b.state = .ready ∨ b.state = .live) (hopen : b.confidentiality = .openMeeting) (h1 : 1 ≤ n) (h96 : n ≤ 96)
    (hin : p.seatIn b.zones n = true) (hx : nth p.seats n = some x) (c : Booking) (roster : List RosterEntry)
    (hc : c = { b with roster := roster }) (y : Seat) (hy : y = x.take (c.entryOf n)) (r : Records)
    (htold : ∀ W, (p.rostered k c n y).Like W →
      (p.tellRole W f n).records = r ∧ (p.rostered k c n y).SameDoors (p.tellRole W f n)) :
    (p.setRoster b roster [n]).records = r := by
  have hreaches : b.state.reachesSeats = true := by rcases hs with h | h <;> rw [h] <;> rfl
  have hwritten := p.updBooking_eq b.handle k (fun b => { b with roster := roster }) b hk hb
  have hset : p.setRoster b roster [n] =
      ({ p with slots := upd p.slots k (fun _ => some c) } : Part).rosterToSeats p f c [n] := by
    simp only [Part.setRoster, hf, hreaches, if_true, hwritten, hc]
  have hlike : (p.rostered k c n y).Like (({ p with slots := upd p.slots k (fun _ => some c) } : Part).seatsTakeRoster c [n]) := by
    rw [hy]
    exact Part.seatsTakeRoster_one (p := { p with slots := upd p.slots k (fun _ => some c) }) hx c (by rw [hc]; exact hin)
  obtain ⟨hrecords, hdoors⟩ := htold _ hlike
  rw [hset, Part.rosterToSeats]
  simp only [seatNumbers_one n h1 h96, Part.reportOrder_one, List.foldl_cons, List.foldl_nil]
  rw [Part.reportAdmission_open hk hb c (by rw [hc]) (by rw [hc]; exact hopen) hx (by rw [hy]; rfl) (by rw [hy]; rfl) hdoors]
  exact hrecords

/-- A part in which the booking and the seat are written: what stands on the floor and in its queue. -/
structure Part.Rewritten (p W : Part) (k n f : Nat) (c : Booking) (x y : Seat) (fl : Floor) (w : Queue) : Prop where
  like : (p.rostered k c n y).Like W
  seat : nth p.seats n = some x
  floor : nth p.floors f = some fl
  queue : nth p.queues f = some w
  free : y.priorityHeld = false

section
variable {W : Part} {c : Booking} {y : Seat}

theorem Part.Rewritten.role (h : p.Rewritten W k n f c x y fl w) : (W.seatAt n).role = y.role :=
  (Seat.of_quiet Seat.role (fun _ => rfl) (h.like.seatAt n)).trans (congrArg Seat.role (p.rostered_seatAt h.seat))

theorem Part.Rewritten.held (h : p.Rewritten W k n f c x y fl w) : (W.seatAt n).priorityHeld = false :=
  (Seat.of_quiet Seat.priorityHeld (fun _ => rfl) (h.like.seatAt n)).trans
    ((congrArg Seat.priorityHeld (p.rostered_seatAt h.seat)).trans h.free)

theorem Part.Rewritten.openEntry (h : p.Rewritten W k n f c x y fl w) : W.openEntry f n = p.openEntry f n := by
  rw [Part.openEntry, Part.openEntry, h.like.floorAt f]
  rfl

theorem Part.Rewritten.isQueued (h : p.Rewritten W k n f c x y fl w) : W.isQueued f n = p.isQueued f n := by
  rw [Part.isQueued, Part.isQueued, h.like.queueAt f]
  rfl

theorem Part.Rewritten.nthFloor (h : p.Rewritten W k n f c x y fl w) : nth W.floors f = some fl := by
  rw [h.like.floors]; exact h.floor

theorem Part.Rewritten.nthQueue (h : p.Rewritten W k n f c x y fl w) : nth W.queues f = some w := by
  rw [h.like.queues]; exact h.queue

theorem Part.Rewritten.tellRole_same (h : p.Rewritten W k n f c x y fl w) (hr : x.role = y.role) :
    (p.tellRole W f n).records = (p.rostered k c n y).records ∧ (p.rostered k c n y).SameDoors (p.tellRole W f n) := by
  have hsame : p.tellRole W f n = W := by
    rw [Part.tellRole, if_pos (by rw [p.seatAt_of_nth n x h.seat, h.role, hr])]
  rw [hsame]
  exact ⟨h.like, h.like.sameDoors⟩

/-- The floor told of a new role. -/
theorem Part.Rewritten.tellRole_changed (h : p.Rewritten W k n f c x y fl w) (hr : x.role ≠ y.role) (A : Part)
    (hA : W.roleChanged f n x.role = A) (hdoors : W.SameDoors A) :
    (p.tellRole W f n).records = A.records ∧ (p.rostered k c n y).SameDoors (p.tellRole W f n) := by
  have htell : p.tellRole W f n = W.follow A := by
    rw [Part.tellRole, p.seatAt_of_nth n x h.seat, if_neg (by rw [h.role]; exact hr), hA]
  have hlike : A.Like (W.follow A) := Part.follow_records W A
  rw [htell]
  exact ⟨hlike, (h.like.sameDoors.trans hdoors).trans hlike.sameDoors⟩

/-- A seat that neither speaks nor waits changes its role quietly. -/
theorem Part.Rewritten.tellRole_away (h : p.Rewritten W k n f c x y fl w) (hclosed : p.openEntry f n = none)
    (hqueued : p.isQueued f n = false) :
    (p.tellRole W f n).records = (p.rostered k c n y).records ∧ (p.rostered k c n y).SameDoors (p.tellRole W f n) := by
  by_cases hr : x.role = y.role
  · exact h.tellRole_same hr
  · obtain ⟨haway, -, -⟩ := Part.roleChanged_free (f := f) h.held (by rw [h.role]; exact hr)
    obtain ⟨hrecords, hdoors⟩ := h.tellRole_changed hr W (haway (h.openEntry.trans hclosed) (h.isQueued.trans hqueued))
      (Part.SameDoors.rfl' W)
    exact ⟨hrecords.trans h.like, hdoors⟩

/-- An open seat's entry follows the new role. -/
theorem Part.Rewritten.tellRole_open (h : p.Rewritten W k n f c x y fl w) (hr : x.role ≠ y.role) (e : OpenEntry)
    (he : p.openEntry f n = some e) (fl' : Floor) (hshell : fl'.shell = fl.shell)
    (hrole : W.roleOfOpen f n e y.role = { W with floors := upd W.floors f (fun _ => fl') }) :
    (p.tellRole W f n).records = { (p.rostered k c n y).records with floors := upd p.floors f (fun _ => fl') } ∧
      (p.rostered k c n y).SameDoors (p.tellRole W f n) := by
  obtain ⟨-, hopen, -⟩ := Part.roleChanged_free (f := f) h.held (old := x.role) (by rw [h.role]; exact hr)
  obtain ⟨hrecords, hdoors⟩ := h.tellRole_changed hr _ ((hopen e (h.openEntry.trans he)).trans (by rw [h.role]; exact hrole))
    ((Part.SameDoors.rfl' W).writeFloor h.nthFloor hshell)
  refine ⟨hrecords.trans ?_, hdoors⟩
  rw [h.like.floors]
  exact congrArg (fun r : Records => { r with floors := upd p.floors f (fun _ => fl') }) h.like

/-- A queued seat's entry follows the new role. -/
theorem Part.Rewritten.tellRole_queued (h : p.Rewritten W k n f c x y fl w) (hr : x.role ≠ y.role)
    (hclosed : p.openEntry f n = none) (hqueued : p.isQueued f n = true) (w' : Queue)
    (hrole : W.roleOfQueued f n y.role = { W with queues := upd W.queues f (fun _ => w') }) :
    (p.tellRole W f n).records = { (p.rostered k c n y).records with queues := upd p.queues f (fun _ => w') } ∧
      (p.rostered k c n y).SameDoors (p.tellRole W f n) := by
  obtain ⟨-, -, hwaits⟩ := Part.roleChanged_free (f := f) h.held (old := x.role) (by rw [h.role]; exact hr)
  obtain ⟨hrecords, hdoors⟩ := h.tellRole_changed hr _
    ((hwaits (h.openEntry.trans hclosed) (h.isQueued.trans hqueued)).trans (by rw [h.role]; exact hrole))
    ((Part.SameDoors.rfl' W).updQueue f fun _ => w')
  refine ⟨hrecords.trans ?_, hdoors⟩
  change ({ W.records with queues := upd W.queues f (fun _ => w') } : Records) = _
  rw [h.like.queues]
  exact congrArg (fun r : Records => { r with queues := upd p.queues f (fun _ => w') }) h.like

end

end

/-! ### The requests -/

section
variable {s : State} {h k f : Nat} {b : Booking}

theorem answersWith_rosterPut {body : List Byte} {e : RosterEntry} {r : Records} (hr : s.runs) (hk : s.part.slotOf h = some k)
    (hb : s.part.slotAt k = some b) (hs : b.state = .ready ∨ b.state = .live) (hparse : parseRosterPut body = some (h, [e]))
    (hok : s.part.entryOk b.zones e = true) (hroster : rosterOk (putEntries b.roster [e]) = true)
    (hpool : (b.roster.find? (fun a => a.seat == e.seat)).isSome = true ∨ 0 < s.part.rosterFree)
    (hset : (s.part.setRoster b (putEntries b.roster [e]) [e.seat]).records = r) :
    AnswersWith (.rosterPut body) s 0x13 .done [] r := by
  have hbook : s.part.bookingOf h = some b := by rw [Part.bookingOf, hk]; exact hb
  have hnew : newSeats b [e] ≤ s.part.rosterFree := by
    rw [newSeats, List.filter_cons]
    rcases hpool with hheld | hpool
    · rw [if_neg (by rw [Booking.entryOf, Option.isNone_eq_false_iff.2 hheld]; decide)]
      exact Nat.zero_le _
    · refine Nat.le_trans ?_ hpool
      split <;> simp
  have hnone := s.part.putRefusal_none b [e] (groupRefusal_open b (.inr (.inr hs))) rfl (by simpa using hok) hroster hnew
  have hx := answersWith_of_taken _ s _ _ putOwner _ (exec_rosterPut s body h [e] hparse) hr (putOwner_made s.part h [e] b hbook hnone) rfl
  exact answersWith_congr hx ((Part.touchBooking_records _ _).trans hset)

theorem answersWith_rosterDrop {body : List Byte} {n : Nat} {r : Records} (hr : s.runs) (hk : s.part.slotOf h = some k)
    (hb : s.part.slotAt k = some b) (hs : b.state = .ready ∨ b.state = .live) (hparse : parseRosterDrop body = some (h, [n]))
    (h1 : 1 ≤ n) (h96 : n ≤ 96) (hheld : (b.roster.find? (fun a => a.seat == n)).isSome = true)
    (hset : (s.part.setRoster b (b.roster.filter (fun a => a.seat != n)) [n]).records = r) :
    AnswersWith (.rosterDrop body) s 0x14 .done [] r := by
  have hbook : s.part.bookingOf h = some b := by rw [Part.bookingOf, hk]; exact hb
  have hfit : ∀ m ∈ [n], 1 ≤ m ∧ m ≤ 96 := fun m hm => by rw [List.mem_singleton.1 hm]; exact ⟨h1, h96⟩
  have hseats : [n].filter (fun m => (b.entryOf m).isSome) = [n] := List.filter_eq_self.2 fun m hm => by
    rw [List.mem_singleton.1 hm]; exact hheld
  have hrest : dropEntries b.roster [n] = b.roster.filter (fun a => a.seat != n) := by
    rw [dropEntries]
    exact congrArg (fun g : RosterEntry → Bool => b.roster.filter g) (funext fun a => by simp [bne, Bool.beq_eq_decide_eq])
  have hx := answersWith_of_taken _ s _ _ dropOwner _ (exec_rosterDrop s body h [n] hparse) hr
    (dropOwner_made s.part h [n] b hbook (dropRefusal_none b [n] (groupRefusal_open b (.inr (.inr hs))) hfit)) rfl
  rw [hseats, hrest] at hx
  exact answersWith_congr hx hset

end

/-- Settles O26: the seat takes the roster's entry, and its entry in the open list or the queue follows the role. -/
theorem runningRosterReachesTheSeats : Obligations.RunningRosterReachesTheSeats := by
  intro s h k f b fl w hr hawake hk hb hf hs hfl hw hbook hq hopen
  have hhandle : b.handle = h := s.part.bookingOf_handle h b (by rw [Part.bookingOf, hk]; exact hb)
  have hkb : s.part.slotOf b.handle = some k := by rw [hhandle]; exact hk
  have hpar : fl.par = b.params := Floor.par_some fl b.params hq
  refine ⟨fun body e x r hparse hok hroster hpool hx hfree hr' => ?put, fun body n x hparse h1 h96 hheld hin hx hfree hclosed hqueued => ?drop⟩
  case put =>
    obtain ⟨⟨⟨h1, h96⟩, hin⟩, -⟩ : ((1 ≤ e.seat ∧ e.seat ≤ 96) ∧ s.part.seatIn b.zones e.seat = true) ∧ e.tag ≠ 0 := by
      simpa [Part.entryOk] using hok
    have hentry : ({ b with roster := putEntries b.roster [e] } : Booking).entryOf e.seat = some e := find_putEntry e b.roster
    have reaches := fun r => s.part.setRoster_reaches (r := r) hkb hb hf hs hopen h1 h96 hin hx _ (putEntries b.roster [e]) rfl
      { x with occupant := some e.tag, role := e.role } (by rw [hentry]; rfl)
    have put := fun r hset => answersWith_rosterPut (r := r) hr hk hb hs hparse hok hroster hpool (reaches r hset)
    have hW : ∀ W, (s.part.rostered k { b with roster := putEntries b.roster [e] } e.seat
        { x with occupant := some e.tag, role := e.role }).Like W → s.part.Rewritten W k e.seat f
          { b with roster := putEntries b.roster [e] } x { x with occupant := some e.tag, role := e.role } fl w :=
      fun W hW => ⟨hW, hx, hfl, hw, hfree⟩
    subst hr'
    refine ⟨fun hclosed hqueued => put _ fun W h => (hW W h).tellRole_away hclosed hqueued,
      fun hrole => put _ fun W h => (hW W h).tellRole_same hrole, fun hcls hrole hchair hidle => ?promoted,
      fun hcls hrole hchair hnodup hroom => ?demoted, fun a hclosed ha hrole hpriority others moved hothers hmoved => ?moved⟩
    case promoted =>
      obtain ⟨a, ha, hacls⟩ := Option.map_eq_some_iff.1 hcls
      refine put _ fun W h => (hW W h).tellRole_open (by rw [hchair]; exact hrole) a ha (fl.withEntry e.seat OpenEntry.toChair) rfl ?_
      rw [hchair]
      exact Part.roleOfOpen_toChair (hW W h).nthFloor (hW W h).nthQueue hq a hacls hidle
    case demoted =>
      obtain ⟨a, ha, hacls⟩ := Option.map_eq_some_iff.1 hcls
      have hfind : fl.openList.find? (fun a => a.seat == e.seat) = some a := by
        rw [Part.openEntry, s.part.floorAt_of_nth f fl hfl] at ha
        exact ha
      have htold : (fun a : OpenEntry => a.toDelegate fl) = fun a =>
          { a with cls := .delegate, muted := decide (0 < fl.priorityHolders), spokenS := 0,
                   allowanceUsed := b.params.allowance, warned := false, overtime := false } := by
        funext a
        rw [OpenEntry.toDelegate, hpar]
      have hplace := fl.delegates_toDelegate a hfind hnodup
      refine put _ fun W h => (hW W h).tellRole_open (by rw [hrole]; exact Ne.symm hchair) a ha
        (fl.withEntry e.seat fun a =>
          { a with cls := .delegate, muted := decide (0 < fl.priorityHolders), spokenS := 0,
                   allowanceUsed := b.params.allowance, warned := false, overtime := false }) rfl ?_
      rw [← htold]
      exact Part.roleOfOpen_toDelegate (hW W h).nthFloor hq a hacls e.role hchair (by omega)
    case moved =>
      have hqueued : s.part.isQueued f e.seat = true := by
        rw [Part.isQueued, s.part.queueAt_of_nth f w hw]
        exact List.any_eq_true.2 ⟨a, List.mem_of_find?_eq_some ha, List.find?_some (p := fun y : QueueEntry => y.seat == e.seat) ha⟩
      refine put _ fun W h => (hW W h).tellRole_queued (by simp [hrole, hpriority]) hclosed hqueued _ ?_
      rw [hpriority]
      exact Part.roleOfQueued_priority (hW W h).nthQueue a ha moved hmoved others hothers
  case drop =>
    have hentry : ({ b with roster := b.roster.filter (fun a => a.seat != n) } : Booking).entryOf n = none := find_filter_ne n b.roster
    refine answersWith_rosterDrop hr hk hb hs hparse h1 h96 hheld (s.part.setRoster_reaches hkb hb hf hs hopen h1 h96 hin hx _
      (b.roster.filter (fun a => a.seat != n)) rfl { x with occupant := none, role := .ordinary } (by rw [hentry]; rfl) _ fun W h => ?_)
    have hW : s.part.Rewritten W k n f { b with roster := b.roster.filter (fun a => a.seat != n) } x
        { x with occupant := none, role := .ordinary } fl w := ⟨h, hx, hfl, hw, hfree⟩
    exact hW.tellRole_away hclosed hqueued

end Sys2Proof.Machine
end

section
/-! The host's requests to the display controller and the settings store, and the store's completion (O38). -/

namespace Sys2Proof.Machine

/-! ### CHANGE_DISPLAY -/

/-- Two writes that a projection does not tell apart leave the same projections. -/
theorem map_upd_congr {α β : Type} (g : α → β) (l : List α) (n : Nat) (a b : α → α) (h : ∀ x, g (a x) = g (b x)) :
    (upd l n a).map g = (upd l n b).map g := by
  cases n with
  | zero => rfl
  | succ k =>
    apply List.ext_getElem?
    intro m
    by_cases hk : k = m
    · subst hk
      simp only [upd, List.getElem?_map, List.getElem?_modify_eq]
      cases l[k]? with
      | none => rfl
      | some x => exact congrArg some (h x)
    · simp [upd, hk]

theorem Display.configure_core (d : Display) (new : DisplayConfig) : (d.configure new).core = { d.core with config := new } := by
  unfold Display.configure; split <;> rfl

theorem displayFits_iff (n : Nat) : displayFits n = true ↔ 1 ≤ n ∧ n ≤ 8 := by simp [displayFits, Config.displays]

theorem exec_changeDisplay (s : State) (body : List Byte) (r : DisplayRequest) (h : parseDisplay body = some r) :
    exec (.changeDisplay body) s = s.become (s.part.request 0x30 (some r) displayOwner) := by rw [← h]; rfl

theorem displayOwner_taken (r : DisplayRequest) (p : Part) (h : 1 ≤ r.display ∧ r.display ≤ 8) (hok : r.ok = true) :
    displayOwner r p = (p.updDisplay r.display (fun d => d.configure (d.config.with r))).done := by
  simp [displayOwner, (displayFits_iff _).2 h, hok]

theorem displayOwner_refused (r : DisplayRequest) (p : Part) (h : ¬ (1 ≤ r.display ∧ r.display ≤ 8) ∨ r.ok = false) :
    displayOwner r p = p.refuse .badValue := by
  unfold displayOwner
  rw [if_neg]
  rw [Bool.and_eq_true, displayFits_iff]
  rintro ⟨hfits, hok⟩
  rcases h with h | h
  · exact h hfits
  · rw [h] at hok; exact absurd hok (by decide)

/-! ### CHANGE_SETTINGS -/

theorem exec_changeSettings (s : State) (body : List Byte) (items : List SettingsItem) (h : parseSettings body = some items) :
    exec (.changeSettings body) s = s.become (s.part.request 0x38 (some items) settingsOwner) := by rw [← h]; rfl

theorem Part.allFloorsFree_iff (p : Part) : p.allFloorsFree = true ↔ ∀ f, 1 ≤ f → f ≤ 4 → (p.floorAt f).state = .free := by
  simp only [Part.allFloorsFree, List.all_eq_true, decide_eq_true_eq, floorNumbers]
  constructor
  · intro h f h1 h4
    exact h f (by simp only [List.mem_cons, List.not_mem_nil, or_false]; omega)
  · intro h f hf
    simp only [List.mem_cons, List.not_mem_nil, or_false] at hf
    exact h f (by omega) (by omega)

section
variable (p : Part) (items : List SettingsItem)

theorem settingsOwner_busy (h : p.store.copy.isSome = true) : settingsOwner items p = p.refuse .busy := by
  simp [settingsOwner, Part.settingsRefusal, h]

theorem settingsOwner_badValue (h : p.store.copy = none)
    (hok : (noRepeats (items.map SettingsItem.code) && items.all SettingsItem.ok) = false) :
    settingsOwner items p = p.refuse .badValue := by
  unfold settingsOwner Part.settingsRefusal
  rw [if_neg (by simp [h]), if_pos hok]

theorem settingsOwner_notAllowed (h : p.store.copy = none)
    (hok : (noRepeats (items.map SettingsItem.code) && items.all SettingsItem.ok) = true)
    (hmap : ∃ i ∈ items, i.code = 1) (hheld : ¬ p.allFloorsFree = true) : settingsOwner items p = p.refuse .notAllowed := by
  have hany : (items.any (fun i => decide (i.code = 1)) && !p.allFloorsFree) = true := by
    simp only [Bool.and_eq_true, List.any_eq_true, decide_eq_true_eq, Bool.not_eq_true']
    exact ⟨hmap, Bool.eq_false_iff.2 hheld⟩
  unfold settingsOwner Part.settingsRefusal
  rw [if_neg (by simp [h]), if_neg (by rw [hok]; decide), if_pos hany]

theorem settingsOwner_taken (h : p.store.copy = none)
    (hok : (noRepeats (items.map SettingsItem.code) && items.all SettingsItem.ok) = true)
    (hmap : (∀ i ∈ items, i.code ≠ 1) ∨ p.allFloorsFree = true) :
    settingsOwner items p = (p.changeSettings (p.settings.with items)).done := by
  have hany : ¬ (items.any (fun i => decide (i.code = 1)) && !p.allFloorsFree) = true := by
    rw [Bool.and_eq_true, List.any_eq_true]
    rintro ⟨⟨i, hi, hcode⟩, hheld⟩
    rcases hmap with hmap | hfree
    · exact hmap i hi (of_decide_eq_true hcode)
    · rw [hfree] at hheld; exact absurd hheld (by decide)
  unfold settingsOwner Part.settingsRefusal
  rw [if_neg (by simp [h]), if_neg (by rw [hok]; decide), if_neg hany]
end

/-- The new settings written, with `live_differs` (R192). -/
def Part.withSettings (p : Part) (new : Settings) : Part :=
  { p with settings := new, store := { p.store with liveDiffers := p.store.liveDiffers || decide (new ≠ p.settings) } }

/-- The ambient thresholds or the hysteresis differ (R146). -/
def Settings.otherBands (old new : Settings) : Prop :=
  new.t1 ≠ old.t1 ∨ new.t2 ≠ old.t2 ∨ new.t3 ≠ old.t3 ∨ new.hysteresis ≠ old.hysteresis

/-- With no reading yet the band stays (R146). -/
theorem Part.evalBand_of_none (p : Part) (h : p.ambient.lastReading = none) : p.evalBand = p := by simp [Part.evalBand, h]

/-- The band that follows from the last reading (R144). -/
theorem Part.evalBand_of_some (p : Part) (v : Nat) (h : p.ambient.lastReading = some v) :
    p.evalBand = { p with ambient := { p.ambient with band := bandAfter p.settings p.ambient.band v } } := by
  simp [Part.evalBand, h]

@[simp] theorem Part.evalBand_control (p : Part) : p.evalBand.control = p.control := by unfold Part.evalBand; split <;> rfl

/-- At an AWAKE table new settings wake nothing (R172): the record is written, and the band is evaluated anew where the
thresholds changed. -/
theorem Part.changeSettings_awake (p : Part) (new : Settings) (h : p.control.tableState = .awake) :
    (p.settings.otherBands new → p.changeSettings new = (p.withSettings new).evalBand) ∧
    (¬ p.settings.otherBands new → p.changeSettings new = p.withSettings new) := by
  have hwoken : ∀ q : Part, q.control.tableState = .awake →
      (if new.standbyLead ≠ p.settings.standbyLead then
        (if p.settings.standbyAllowed && !new.standbyAllowed then q.wake .settings else q).dueTest
      else if p.settings.standbyAllowed && !new.standbyAllowed then q.wake .settings else q) = q := by
    intro q hq
    simp only [q.wake_awake _ hq, ite_self, q.dueTest_awake hq]
  constructor
  · intro hb
    refine Eq.trans ?_ (hwoken (p.withSettings new).evalBand (by simpa [Part.withSettings] using h))
    unfold Part.changeSettings
    unfold Settings.otherBands at hb
    dsimp only
    rw [if_pos hb]
    rfl
  · intro hb
    refine Eq.trans ?_ (hwoken (p.withSettings new) h)
    unfold Part.changeSettings
    unfold Settings.otherBands at hb
    dsimp only
    rw [if_neg hb]
    rfl

/-! ### STORE_SETTINGS -/

theorem exec_storeSettings (s : State) :
    exec (.storeSettings []) s = s.become (s.part.request 0x39 (some ()) storeOwner) := rfl

theorem exec_storeComplete (s : State) (m : Bool) :
    exec (.storeComplete m) s = s.become (s.part.event (fun p => { p with store := p.store.complete m })) := rfl

theorem storeOwner_busy (p : Part) (h : p.store.copy.isSome = true) : storeOwner () p = p.refuse .busy := by
  simp [storeOwner, h]

theorem storeOwner_free (p : Part) (h : p.store.copy = none) :
    storeOwner () p = ({ p with store := { p.store with copy := some p.settings } } : Part).accepted := by
  simp [storeOwner, h]

/-- The completion writes the store record alone (R195). -/
theorem leaves_storeComplete (s : State) (m : Bool) (hr : s.runs) (t : Store) (h : s.part.store.complete m = t) :
    Leaves (.storeComplete m) s { s.part.records with store := t } :=
  leaves_of_event _ s _ { s.part with store := t } (exec_storeComplete s m) hr (by rw [← h]) rfl

/-! ### O38 -/

theorem displayRequests (s : State) (body : List Byte) (r : DisplayRequest) (hr : s.runs) (hp : parseDisplay body = some r) :
    (1 ≤ r.display → r.display ≤ 8 → r.ok = true →
      AnswersWith (.changeDisplay body) s 0x30 .done []
        { s.part.records with
          displays := (upd s.part.displays r.display (fun d => { d with config := d.config.with r })).map Display.core }) ∧
    (¬ (1 ≤ r.display ∧ r.display ≤ 8) ∨ r.ok = false → Answers (.changeDisplay body) s 0x30 .badValue []) := by
  have hx := exec_changeDisplay s body r hp
  constructor
  · intro h1 h8 hok
    have h := answersWith_of_taken _ s 0x30 r _ _ hx hr (displayOwner_taken r s.part ⟨h1, h8⟩ hok) rfl
    have he : (s.part.updDisplay r.display (fun d => d.configure (d.config.with r))).records =
        { s.part.records with
          displays := (upd s.part.displays r.display (fun d => { d with config := d.config.with r })).map Display.core } :=
      congrArg (fun l => ({ s.part.records with displays := l } : Records))
        (map_upd_congr Display.core _ _ _ _ (fun d => d.configure_core _))
    exact he ▸ h
  · intro h
    exact answers_of_refused _ s 0x30 r _ .badValue hx hr (displayOwner_refused r s.part h) rfl

theorem settingsRequests (s : State) (body : List Byte) (items : List SettingsItem) (hr : s.runs)
    (hp : parseSettings body = some items) (hcopy : s.part.store.copy = none)
    (hok : (noRepeats (items.map SettingsItem.code) && items.all SettingsItem.ok) = true)
    (hmap : (∀ i ∈ items, i.code ≠ 1) ∨ ∀ f, 1 ≤ f → f ≤ 4 → (s.part.floorAt f).state = .free) :
    AnswersWith (.changeSettings body) s 0x38 .done [] (s.part.changeSettings (s.part.settings.with items)).records :=
  answersWith_of_taken _ s 0x38 items _ _ (exec_changeSettings s body items hp) hr
    (settingsOwner_taken s.part items hcopy hok (hmap.imp_right (s.part.allFloorsFree_iff).2)) rfl

/-- Settles O38: each request by the cases of its owner; at an AWAKE table new settings wake nothing, so that the settings, the
store and the band are all that is written. -/
theorem displayAndSettingsRequests : Obligations.DisplayAndSettingsRequests := by
  refine ⟨fun s body r hr hp => displayRequests s body r hr hp, fun s body items hr hp => ?_, fun s hr => ?_⟩
  · have hx := exec_changeSettings s body items hp
    refine ⟨fun h => answers_of_refused _ s 0x38 items _ .busy hx hr (settingsOwner_busy s.part items h) rfl,
      fun hcopy => ⟨fun hbad => answers_of_refused _ s 0x38 items _ .badValue hx hr
        (settingsOwner_badValue s.part items hcopy hbad) rfl, fun hok => ⟨fun hmap hheld => ?_, ?_⟩⟩⟩
    · refine answers_of_refused _ s 0x38 items _ .notAllowed hx hr
        (settingsOwner_notAllowed s.part items hcopy hok hmap (fun hfree => ?_)) rfl
      obtain ⟨f, h1, h4, hf⟩ := hheld
      exact hf ((s.part.allFloorsFree_iff).1 hfree f h1 h4)
    · rintro new rfl hawake hmap
      have h := settingsRequests s body items hr hp hcopy hok hmap
      change AnswersWith _ s _ _ _ { s.part.records with
        settings := s.part.settings.with items
        store := (s.part.withSettings (s.part.settings.with items)).store
        ambient := _ }
      obtain ⟨hother, hsame⟩ := s.part.changeSettings_awake (s.part.settings.with items) hawake
      by_cases hb : s.part.settings.otherBands (s.part.settings.with items)
      · have hcond := hb
        unfold Settings.otherBands Settings.with at hcond
        rw [hother hb] at h
        cases hread : s.part.ambient.lastReading with
        | none =>
          rw [Part.evalBand_of_none (s.part.withSettings (s.part.settings.with items)) hread] at h
          exact h
        | some v =>
          rw [Part.evalBand_of_some (s.part.withSettings (s.part.settings.with items)) v hread] at h
          dsimp only
          rw [if_pos hcond]
          exact h
      · have hcond := hb
        unfold Settings.otherBands Settings.with at hcond
        rw [hsame hb] at h
        cases hread : s.part.ambient.lastReading with
        | none => exact h
        | some v =>
          dsimp only
          rw [if_neg hcond]
          exact h
  · have hx := exec_storeSettings s
    refine ⟨fun h => answers_of_refused _ s 0x39 () _ .busy hx hr (storeOwner_busy s.part h) rfl,
      fun h => answersWith_of_taken _ s 0x39 () _ _ hx hr (storeOwner_free s.part h) rfl,
      fun c h => ⟨leaves_storeComplete s true hr _ (by simp [Store.complete, h]),
        leaves_storeComplete s false hr _ (by simp [Store.complete, h])⟩,
      fun h m => leaves_storeComplete s m hr _ (by simp [Store.complete, h])⟩

end Sys2Proof.Machine
end

section
/-! The host's requests WALK and WAKE (O39). -/

namespace Sys2Proof.Machine

/-! ### Engines at the end of a step -/

/-- A segment that is WALKING is WALKING after the step (R151). -/
theorem Part.settle_walking (old p : Part) (seg : Segment) (h : (p.engine seg).state = .walking) :
    ((old.settle p).engine seg).state = .walking := by
  by_cases hw : (p.engine seg).walkRequested = true ∧ (p.engine seg).line = none
  · rw [Part.settle_engine_walks old p seg hw.1 hw.2]; rfl
  · have hstill : (p.engine seg).walkRequested = false ∨ (p.engine seg).line ≠ none := by
      rcases not_and_or.1 hw with hw | hw
      · exact Or.inl (Bool.eq_false_iff.2 hw)
      · exact Or.inr hw
    rw [Engine.state_of_still (Part.settle_engine_still old p seg hstill), h]

/-- A request that its owner takes ends the step of the owner's part. -/
theorem exec_taken {α : Type} {c : Instr} {s : State} {code : Byte} {a : α} {owner : α → Part → Reply} (r : Reply)
    (hx : exec c s = s.become (s.part.request code (some a) owner)) (hr : s.runs) (ho : owner a s.part = r)
    (hst : r.status.taken = true) :
    exec c s = .next { s with part := (s.part.settle r.part).setAnswer code r.status r.body } := by
  rw [hx, s.part.request_taken code a owner hr (by rw [ho]; exact hst), ho]; rfl

/-! ### WALK -/

theorem exec_walk (s : State) (code : Nat) (seg : Segment) (hc : code < 256) (h : segmentCode code = some seg) :
    exec (.walk (byte code)) s = s.become (s.part.request 0x40 (some seg) walkOwner) := by
  have hp : parseWalk (byte code) = some seg := by
    rw [← List.append_nil (byte code), parseWalk, readCode_byte _ code hc, h]; rfl
  rw [← hp]; rfl

/-- A floor holds a zone with seats on the segment (R161). -/
theorem Part.heldOn_iff (p : Part) (seg : Segment) :
    p.heldOn seg = true ↔ ∃ z r f, 1 ≤ z ∧ z ≤ 4 ∧ nth p.settings.zoneMap z = some r ∧ r.on seg = true ∧ p.floorOfZone z = some f := by
  simp only [Part.heldOn, List.any_eq_true, Bool.and_eq_true, Option.isSome_iff_exists, zoneNumbers]
  constructor
  · rintro ⟨z, hz, ⟨f, hf⟩, hon⟩
    cases hr : nth p.settings.zoneMap z with
    | none => rw [hr] at hon; exact absurd hon (by simp)
    | some r =>
      rw [hr] at hon
      simp only [List.mem_cons, List.not_mem_nil, or_false] at hz
      exact ⟨z, r, f, by omega, by omega, hr, hon, hf⟩
  · rintro ⟨z, r, f, h1, h4, hr, hon, hf⟩
    refine ⟨z, ?_, ⟨f, hf⟩, by rw [hr]; exact hon⟩
    simp only [List.mem_cons, List.not_mem_nil, or_false]; omega

section
variable (p : Part) (seg : Segment)

theorem walkOwner_asleep (h : p.control.tableState ≠ .awake) : walkOwner seg p = p.refuse .notAllowed := by
  simp [walkOwner, h]

theorem walkOwner_held (h : p.control.tableState = .awake) (hheld : p.heldOn seg = true) :
    walkOwner seg p = p.refuse .notAllowed := by simp [walkOwner, h, hheld]

theorem walkOwner_walking (h : p.control.tableState = .awake) (hheld : p.heldOn seg = false)
    (hw : (p.engine seg).state = .walking) : walkOwner seg p = p.refuse .busy := by simp [walkOwner, h, hheld, hw]

theorem walkOwner_taken (h : p.control.tableState = .awake) (hheld : p.heldOn seg = false)
    (hw : (p.engine seg).state ≠ .walking) :
    walkOwner seg p = (p.updEngine seg (fun e => { e with walkRequested := true })).accepted := by
  simp [walkOwner, h, hheld, hw]
end

/-- The engine of a segment whose walk is requested, at the end of the step: WALKING where its line was free, else as it was
with the request kept (R151, R161). -/
theorem Part.settle_walkRequested (old p : Part) (seg : Segment) (q : Part)
    (hq : q = old.settle (p.updEngine seg (fun e => { e with walkRequested := true }))) :
    ((p.engine seg).line = none → (q.engine seg).state = .walking ∧ (q.engine seg).walkRequested = false) ∧
    ((p.engine seg).line ≠ none → (q.engine seg).state = (p.engine seg).state ∧ (q.engine seg).walkRequested = true) := by
  have he : (p.updEngine seg (fun e => { e with walkRequested := true })).engine seg =
      { p.engine seg with walkRequested := true } := Part.engine_updEngine_same ..
  subst hq
  constructor
  · intro hl
    rw [Part.settle_engine_walks _ _ seg (by rw [he]) (by rw [he]; exact hl)]
    exact ⟨rfl, rfl⟩
  · intro hl
    have hstill := Part.settle_engine_still old (p.updEngine seg (fun e => { e with walkRequested := true })) seg
      (Or.inr (by rw [he]; exact hl))
    rw [Engine.state_of_still hstill, Engine.walkRequested_of_still hstill, he]
    exact ⟨rfl, rfl⟩

/-! ### WAKE -/

theorem exec_wake (s : State) : exec (.wake []) s = s.become (s.part.request 0x41 (some ()) wakeOwner) := rfl

theorem TableState.dark_iff (t : TableState) : t.dark = true ↔ t = .enteringStandby ∨ t = .standby := by
  cases t <;> simp [TableState.dark]

theorem wakeOwner_dark (p : Part) (h : p.control.tableState.dark = true) : wakeOwner () p = (p.wake .host).accepted := by
  simp [wakeOwner, h]

theorem wakeOwner_light (p : Part) (h : p.control.tableState.dark = false) : wakeOwner () p = p.done := by
  simp [wakeOwner, h]

/-- An IDLE segment that is woken walks (R173). -/
theorem Engine.wakeUp_idle (e : Engine) (h : e.state = .idle) : e.wakeUp.state = .walking := by simp [Engine.wakeUp, h]

/-- WAKING does not end while a segment walks (R173). -/
theorem Part.checkAwake_walks (p : Part) (seg : Segment) (h : (p.engine seg).state = .walking) : p.checkAwake = p := by
  have hall : p.allRunning = false := by
    unfold Part.allRunning
    cases seg <;> simp only [Part.engine] at h <;> simp [h]
  simp [Part.checkAwake, hall]

/-- A wake cause at a sleeping table with an IDLE seat segment: WAKING begins (R172, R173). -/
theorem Part.wake_idle (p : Part) (c : WakeCause) (seg : Segment) (hseg : seg ≠ .wall) (hd : p.control.tableState.dark = true)
    (hi : (p.engine seg).state = .idle) :
    p.wake c = p.toWaking c ∧ ((p.toWaking c).engine seg).state = .walking := by
  have hw : ((p.toWaking c).engine seg).state = .walking := by
    cases seg with
    | left => exact Engine.wakeUp_idle p.left hi
    | right => exact Engine.wakeUp_idle p.right hi
    | wall => exact absurd rfl hseg
  exact ⟨by rw [Part.wake, if_pos hd, Part.checkAwake_walks _ seg hw], hw⟩

/-! ### O39 -/

theorem wakeOfIdleLeft (s : State) (hr : s.runs) (hd : s.part.control.tableState.dark = true) (hi : s.part.left.state = .idle) :
    ∃ p, exec (.wake []) s = .next { s with part := p } ∧ p.answer = { status := .accepted, code := 0x41, body := [] } ∧
      p.records = (s.part.toWaking .host).records ∧ (p.engine .left).state = .walking := by
  obtain ⟨hwake, hwalks⟩ := s.part.wake_idle .host .left (by decide) hd hi
  have hx := exec_taken (s.part.toWaking .host).accepted (exec_wake s) hr
    ((wakeOwner_dark s.part hd).trans (congrArg Part.accepted hwake)) rfl
  refine ⟨_, hx, rfl, ?_, ?_⟩
  · rw [Part.setAnswer_records, Part.settle_records]; rfl
  · rw [Part.setAnswer_engine]
    exact Part.settle_walking s.part (s.part.toWaking .host) .left hwalks

/-- Settles O39: each request by the cases of its owner; what the engine makes of a kept request is the end of the step. -/
theorem walkAndWakeRequests : Obligations.WalkAndWakeRequests := by
  refine ⟨fun s seg code hr hc hseg => ?_, fun s hr => ⟨fun h => ?_, fun h hi => ?_⟩⟩
  · have hx := exec_walk s code seg hc hseg
    refine ⟨fun h => answers_of_refused _ s 0x40 seg _ .notAllowed hx hr (walkOwner_asleep s.part seg h) rfl,
      fun ha => ⟨fun hheld => answers_of_refused _ s 0x40 seg _ .notAllowed hx hr
        (walkOwner_held s.part seg ha ((s.part.heldOn_iff seg).2 hheld)) rfl, fun hfree => ?_⟩⟩
    have hheld : s.part.heldOn seg = false := by
      rw [Bool.eq_false_iff, Ne, s.part.heldOn_iff]
      rintro ⟨z, r, f, h1, h4, hz, hon, hf⟩
      rw [hfree z r h1 h4 hz hon] at hf
      exact absurd hf (by simp)
    refine ⟨fun hw => answers_of_refused _ s 0x40 seg _ .busy hx hr (walkOwner_walking s.part seg ha hheld hw) rfl,
      fun hw => ?_⟩
    have hends := exec_taken _ hx hr (walkOwner_taken s.part seg ha hheld hw) rfl
    refine ⟨_, hends, rfl, ?_, ?_⟩
    · rw [Part.setAnswer_records, Part.settle_records]; exact Part.updEngine_records ..
    · rw [Part.setAnswer_engine]
      exact Part.settle_walkRequested s.part s.part seg _ rfl
  · have hd : s.part.control.tableState.dark = false := by rcases h with h | h <;> rw [h] <;> rfl
    exact answersWith_of_taken _ s 0x41 () _ _ (exec_wake s) hr (wakeOwner_light s.part hd) rfl
  · exact wakeOfIdleLeft s hr ((TableState.dark_iff _).2 h) hi

end Sys2Proof.Machine
end

section
/-! The entry into standby by its five conditions (O51). -/

namespace Sys2Proof.Machine

theorem exec_enterStandby (s : State) :
    exec .enterStandby s = s.become (s.part.event (fun p => if p.mayStandBy then p.beginStandby else p)) := rfl

/-- A booking that does not keep the table from standby is ENDED, or PENDING and not due within the lead (R170). -/
theorem Part.keepsAwake_some (p : Part) (b : Booking) :
    p.keepsAwake (some b) = true ↔ (b.state ≠ .pending ∧ b.state ≠ .ended) ∨
      (p.clock.valid = true ∧ b.state = .pending ∧ b.startMinute - b.lead ≤ p.clock.minute + p.settings.standbyLead) := by
  unfold Part.keepsAwake
  cases h : b.state <;> simp [h, Booking.occStart]

/-- Some booking keeps the table from standby (R170). -/
theorem Part.keepsAwake_any (p : Part) :
    p.slots.any p.keepsAwake = true ↔ ∃ b, some b ∈ p.slots ∧ p.keepsAwake (some b) = true := by
  rw [List.any_eq_true]
  constructor
  · rintro ⟨x, hx, hk⟩
    cases x with
    | none => exact absurd hk (by simp [Part.keepsAwake])
    | some b => exact ⟨b, hx, hk⟩
  · rintro ⟨b, hb, hk⟩
    exact ⟨some b, hb, hk⟩

/-- The five conditions of R170. -/
theorem Part.mayStandBy_iff (p : Part) :
    p.mayStandBy = true ↔ p.control.tableState = .awake ∧ p.settings.standbyAllowed = true ∧
      (∀ f, 1 ≤ f → f ≤ 4 → (p.floorAt f).state = .free) ∧ (∀ b, some b ∈ p.slots → p.keepsAwake (some b) = false) ∧
      p.control.idleMark + p.settings.idleDelay * (60 * Config.second) ≤ p.now := by
  have hslots : (!p.slots.any p.keepsAwake) = true ↔ ∀ b, some b ∈ p.slots → p.keepsAwake (some b) = false := by
    rw [Bool.not_eq_true', Bool.eq_false_iff, Ne, p.keepsAwake_any]
    simp only [not_exists, not_and, Bool.not_eq_true]
  simp only [Part.mayStandBy, Bool.and_eq_true, decide_eq_true_eq, p.allFloorsFree_iff, hslots, and_assoc]

/-- Settles O51: R170's conditions, of which the bookings' is said for each state. -/
theorem enterStandbyByTheConditions : Obligations.EnterStandbyByTheConditions := by
  intro s hr
  constructor
  · rintro ⟨hawake, hallowed, hfloors, hstates, hdue, hidle⟩
    have hmay : s.part.mayStandBy = true := by
      refine (s.part.mayStandBy_iff).2 ⟨hawake, hallowed, hfloors, fun b hb => ?_, hidle⟩
      rw [Bool.eq_false_iff, Ne, s.part.keepsAwake_some b]
      rintro (⟨hpending, hended⟩ | ⟨hvalid, hpending, hnear⟩)
      · exact (hstates b hb).elim hpending hended
      · exact Nat.not_le.2 (hdue hvalid b hb hpending) hnear
    exact leaves_of_event _ s _ s.part.beginStandby (exec_enterStandby s) hr (if_pos hmay) rfl
  · intro h
    refine leaves_of_event _ s _ s.part (exec_enterStandby s) hr (if_neg (fun hmay => ?_)) rfl
    obtain ⟨hawake, hallowed, hfloors, hslots, hidle⟩ := (s.part.mayStandBy_iff).1 hmay
    have hkeeps : ∀ b, some b ∈ s.part.slots → ¬ s.part.keepsAwake (some b) = true := fun b hb => by
      rw [hslots b hb]; decide
    rcases h with h | h | ⟨f, h1, h4, hf⟩ | ⟨b, hb, hpending, hended⟩ | ⟨hvalid, b, hb, hpending, hnear⟩ | h
    · exact h hawake
    · rw [hallowed] at h; exact absurd h (by decide)
    · exact hf (hfloors f h1 h4)
    · exact hkeeps b hb ((s.part.keepsAwake_some b).2 (Or.inl ⟨hpending, hended⟩))
    · exact hkeeps b hb ((s.part.keepsAwake_some b).2 (Or.inr ⟨hvalid, hpending, hnear⟩))
    · exact Nat.not_le.2 h hidle

end Sys2Proof.Machine
end

section
/-! What the rooms and the displays derive from the records (O53). -/

namespace Sys2Proof.Machine

/-! ### The rooms -/

theorem Part.wallOpen_of {p : Part} {k : Nat} {x : Partition} (h : nth p.partitions k = some x) :
    p.wallOpen k = decide (x.state = .opened) := by simp [Part.wallOpen, Part.partitionAt, h]

/-- The rooms from the three partitions (R7): a zone begins a room where the partition before it is CLOSED, and the room
reaches on past every OPENED one. -/
theorem Part.rooms_of {p : Part} {a b c : Bool} (ha : p.wallOpen 1 = a) (hb : p.wallOpen 2 = b) (hc : p.wallOpen 3 = c) :
    p.rooms =
      ⟨1, if a then if b then if c then 4 else 3 else 2 else 1⟩ :: (if a then [] else [⟨2, if b then if c then 4 else 3 else 2⟩]) ++
        (if b then [] else [⟨3, if c then 4 else 3⟩]) ++ (if c then [] else [⟨4, 4⟩]) := by
  subst ha hb hc
  have hzones : [1, 2, 3, 4].filter (beginsRoom p.wallOpen) =
      1 :: (if p.wallOpen 1 then [] else [2]) ++ (if p.wallOpen 2 then [] else [3]) ++ (if p.wallOpen 3 then [] else [4]) := by
    simp only [List.filter, beginsRoom]
    cases p.wallOpen 1 <;> cases p.wallOpen 2 <;> cases p.wallOpen 3 <;> rfl
  rw [Part.rooms, roomsFrom, zoneNumbers, hzones]
  cases h1 : p.wallOpen 1 <;> cases h2 : p.wallOpen 2 <;> cases h3 : p.wallOpen 3 <;> simp [roomEnd, h1, h2, h3]

/-! ### The contents -/

section
variable {p : Part} {d : Display}

theorem Part.contentFor_dark (h : p.control.tableState.dark = true) : p.contentFor d = .blank := by simp [Part.contentFor, h]

theorem Part.contentFor_unbound (h : p.control.tableState.dark = false) (hb : d.config.binding = none) :
    p.contentFor d = .blank := by simp [Part.contentFor, h, hb]

theorem Part.contentFor_unheld {z : Nat} (h : p.control.tableState.dark = false) (hb : d.config.binding = some z)
    (hz : p.floorOfZone z = none) : p.contentFor d = .idle z := by simp [Part.contentFor, h, hb, hz]

theorem Part.contentFor_held {z f : Nat} (h : p.control.tableState.dark = false) (hb : d.config.binding = some z)
    (hz : p.floorOfZone z = some f) : p.contentFor d = p.heldContent d z f := by simp [Part.contentFor, h, hb, hz]

variable {z f h : Nat} {b : Booking}

theorem Part.heldContent_closing (hs : (p.floorAt f).state = .closing ∨ (p.floorAt f).state = .free) :
    p.heldContent d z f = .idle z := by
  rcases hs with hs | hs <;> simp [Part.heldContent, hs]

theorem Part.served_of (hb : (p.floorAt f).booking = some h) (hbk : p.bookingOf h = some b) : p.served f = some b := by
  simp [Part.served, hb, hbk]

theorem Part.heldContent_reserved (hs : (p.floorAt f).state = .preparing ∨ (p.floorAt f).state = .ready)
    (hb : (p.floorAt f).booking = some h) (hbk : p.bookingOf h = some b) :
    p.heldContent d z f = .reserved h b.startMinute := by
  rcases hs with hs | hs <;> simp [Part.heldContent, hs, hb, Part.served_of hb hbk]

theorem Part.isPrivate_of (hb : (p.floorAt f).booking = some h) (hbk : p.bookingOf h = some b) :
    p.isPrivate f = decide (b.confidentiality = .privateMeeting) := by
  simp [Part.isPrivate, Part.served_of hb hbk]

theorem Part.heldContent_outside (hs : (p.floorAt f).state = .live) (hpriv : p.isPrivate f = true)
    (ho : d.config.outsideVisible = true) : p.heldContent d z f = .blank := by simp [Part.heldContent, hs, hpriv, ho]

theorem Part.heldContent_live (hs : (p.floorAt f).state = .live)
    (hin : p.isPrivate f = false ∨ d.config.outsideVisible = false) :
    p.heldContent d z f = p.resolveContent f (if d.phaseB then d.config.contentB.getD d.config.contentA else d.config.contentA) := by
  rcases hin with hin | hin <;> simp [Part.heldContent, hs, hin]

/-! ### FOLLOW_SPEAKER (R137) -/

theorem Part.followSpeaker_delegate {e : OpenEntry}
    (h : ((p.floorAt f).openList.filter (fun a => decide (a.cls = .delegate))).getLast? = some e) :
    p.followSpeaker f = .speaker e.seat (p.tagOf e.seat) := by simp [Part.followSpeaker, lastOfClass, h]

/-- Where every entry is a CHAIR's, the last entry of the list is the last CHAIR's and there is no DELEGATE's. -/
theorem lastOfClass_chairs {l : List OpenEntry} (h : ∀ e ∈ l, e.cls = .chair) :
    lastOfClass .delegate l = none ∧ lastOfClass .chair l = l.getLast? := by
  constructor
  · have hnone : l.filter (fun e => decide (e.cls = .delegate)) = [] := by
      rw [List.filter_eq_nil_iff]
      intro e he
      rw [h e he]; decide
    rw [lastOfClass, hnone]; rfl
  · have hall : l.filter (fun e => decide (e.cls = .chair)) = l := List.filter_eq_self.2 (fun e he => by rw [h e he]; rfl)
    rw [lastOfClass, hall]

theorem Part.followSpeaker_chair {e : OpenEntry} (h : ∀ a ∈ (p.floorAt f).openList, a.cls = .chair)
    (hl : (p.floorAt f).openList.getLast? = some e) : p.followSpeaker f = .speaker e.seat (p.tagOf e.seat) := by
  obtain ⟨hd, hc⟩ := lastOfClass_chairs h
  simp [Part.followSpeaker, hd, hc, hl]

theorem Part.followSpeaker_empty {k : Nat} (hl : (p.floorAt f).openList = []) (hb : (p.floorAt f).booking = some k) :
    p.followSpeaker f = .floorCard f k := by simp [Part.followSpeaker, lastOfClass, hl, hb]
end

/-! ### O53 -/

/-- What a display shows at a LIVE floor whose content it may show (R136 to R138). -/
theorem Part.showsLive {p : Part} {d : Display} {f h : Nat} {c : Content} (hc : d.content = p.resolveContent f c)
    (hb : (p.floorAt f).booking = some h) :
    (c = .blank → d.content = .blank) ∧ (∀ n, c = .source n → d.content = .source n) ∧
    (c = .queueView → d.content = .queueView (((p.queueAt f).entries.take 4).map
      (fun e => { seat := e.seat, tag := (p.seatAt e.seat).occupant.getD 0 }))) ∧
    (c = .followSpeaker →
      (∀ e, ((p.floorAt f).openList.filter (fun e => decide (e.cls = .delegate))).getLast? = some e →
        d.content = .speaker e.seat ((p.seatAt e.seat).occupant.getD 0)) ∧
      ((∀ e ∈ (p.floorAt f).openList, e.cls = .chair) →
        (∀ e, (p.floorAt f).openList.getLast? = some e → d.content = .speaker e.seat ((p.seatAt e.seat).occupant.getD 0)) ∧
        ((p.floorAt f).openList = [] → d.content = .floorCard f h))) := by
  refine ⟨?_, ?_, ?_, ?_⟩
  · rintro rfl; exact hc
  · rintro n rfl; exact hc
  · rintro rfl; exact hc
  · rintro rfl
    exact ⟨fun e he => hc.trans (Part.followSpeaker_delegate he),
      fun hall => ⟨fun e he => hc.trans (Part.followSpeaker_chair hall he), fun hnil => hc.trans (Part.followSpeaker_empty hnil hb)⟩⟩

/-- What a display shows at an AWAKE table (R136). -/
theorem Part.showsBound {p : Part} {d : Display} {z : Nat} (hc : d.content = p.contentFor d)
    (hd : p.control.tableState.dark = false) (hz : d.config.binding = some z) :
    (p.floorOfZone z = none → d.content = .idle z) ∧
    (∀ f, p.floorOfZone z = some f → d.content = p.heldContent d z f) :=
  ⟨fun h => hc.trans (Part.contentFor_unheld hd hz h), fun _ h => hc.trans (Part.contentFor_held hd hz h)⟩

/-- Settles O53: the rooms from the three partitions, and the content by the table's, the floor's and the booking's state. -/
theorem roomsContentsAndLevelsAreDerived : Obligations.RoomsContentsAndLevelsAreDerived := by
  refine ⟨fun p a b c hp => ?_, fun p hp d hmem => ?_⟩
  · have hwall : ∀ k x, nth p.partitions k = some x → p.wallOpen k = decide (x.state = .opened) := fun _ _ => Part.wallOpen_of
    rw [hp] at hwall
    rw [Part.rooms_of (hwall 1 a rfl) (hwall 2 b rfl) (hwall 3 c rfl)]
    cases a.state <;> cases b.state <;> cases c.state <;> rfl
  · obtain ⟨hcontent, hlevel, hdrive⟩ := hp d hmem
    refine ⟨fun h => ?_, fun h => ?_, by rw [hdrive, ← hlevel]; rfl⟩
    · have hd := (TableState.dark_iff _).2 h
      exact ⟨hcontent.trans (Part.contentFor_dark hd), by rw [hlevel, Part.levelFor, if_pos hd]⟩
    · have hd : p.control.tableState.dark = false := by rcases h with h | h <;> rw [h] <;> rfl
      refine ⟨by rw [hlevel, Part.levelFor, if_neg (by rw [hd]; decide)]; rfl,
        fun hb => hcontent.trans (Part.contentFor_unbound hd hb), fun z hz => ?_⟩
      obtain ⟨hnone, hheld⟩ := Part.showsBound hcontent hd hz
      refine ⟨hnone, fun f hf => ⟨fun hs => (hheld f hf).trans (Part.heldContent_closing hs), fun b h hb hbk =>
        ⟨fun hs => (hheld f hf).trans (Part.heldContent_reserved hs hb hbk), fun hs hpriv ho =>
          (hheld f hf).trans (Part.heldContent_outside hs (by rw [Part.isPrivate_of hb hbk, hpriv]; rfl) ho), ?_⟩⟩⟩
      rintro c hs hin rfl
      have hopen : p.isPrivate f = false ∨ d.config.outsideVisible = false :=
        hin.imp_left (fun ho => by rw [Part.isPrivate_of hb hbk, ho]; rfl)
      exact Part.showsLive ((hheld f hf).trans (Part.heldContent_live hs hopen)) hb

end Sys2Proof.Machine
end

section
/-! What a POLL that brings nothing new confirms of the microphone (O41). -/

namespace Sys2Proof.Machine

/-! ### The seats at the end of a step -/

/-- Asking for an exchange touches no seat. -/
theorem Part.requestUrgent_seats (p : Part) (seg : Segment) (pos : Nat) : (p.requestUrgent seg pos).seats = p.seats := by
  unfold Part.requestUrgent; split
  · cases seg <;> rfl
  · rfl

theorem Part.requestDisplay_seats (p : Part) (d : Nat) : (p.requestDisplay d).seats = p.seats := by
  unfold Part.requestDisplay; split
  · rfl
  · exact p.requestUrgent_seats _ _

theorem Part.recomputeAll_seats (p : Part) : p.recomputeAll.seats = p.seats := by
  unfold Part.recomputeAll
  dsimp only
  rw [foldl_keeps Part.seats _ (fun q d => by split; exacts [q.requestDisplay_seats d, rfl])]

theorem Part.takeWalk_seats (p : Part) (seg : Segment) : (p.takeWalk seg).seats = p.seats := by
  unfold Part.takeWalk; split
  · cases seg <;> rfl
  · rfl

theorem Part.takeWalks_seats (p : Part) : p.takeWalks.seats = p.seats := by
  rw [Part.takeWalks, Part.takeWalk_seats, Part.takeWalk_seats, Part.takeWalk_seats]

/-- The commanded microphone state of a seat is read from the floors and the queues (R67). -/
theorem Part.mic_of_floors {p q : Part} (hf : q.floors = p.floors) (hq : q.queues = p.queues) (n : Nat) :
    (q.imageOf n).mic = (p.imageOf n).mic := by
  have hentry : q.openEntryOf n = p.openEntryOf n := by
    simp only [Part.openEntryOf, Part.openEntry, Part.floorAt, hf]
  have hqueue : q.queueOf n = p.queueOf n := by
    simp only [Part.queueOf, Part.isQueued, Part.queueAt, hq]
  simp only [Part.imageOf, Part.micOf, hentry, hqueue]

theorem mapFrom_self {α : Type} (g : Nat → α → α) (h : ∀ i a, g i a = a) (l : List α) : ∀ i, mapFrom g i l = l := by
  induction l with
  | nil => intro i; rfl
  | cons a l ih => intro i; rw [mapFrom, h, ih]

theorem Part.noteChanges_seats (old p : Part) : (old.noteChanges p).seats = p.seats := rfl

/-- Where floors and queues stay, no microphone is unconfirmed (R70). -/
theorem Part.follow_seats {old p : Part} (hf : p.floors = old.floors) (hq : p.queues = old.queues) :
    (old.follow p).seats = p.seats := by
  have hunconfirm : (old.unconfirm p).seats = p.seats :=
    mapFrom_self _ (fun n x => if_pos (Part.mic_of_floors hf hq n).symm) _ _
  have hsync : (old.syncSeats p).seats = p.seats := by
    unfold Part.syncSeats
    rw [foldl_keeps Part.seats _ (fun q n => by split; exacts [q.requestUrgent_seats _ _, rfl]), hunconfirm]
  rw [Part.follow, ← hsync]
  exact Part.recomputeAll_seats _

theorem Part.kickAll_seats (p : Part) : p.kickAll.seats = p.seats := (congrArg Part.seats p.kickAll_eq).trans rfl

theorem Part.settle_seats {old p : Part} (hf : p.floors = old.floors) (hq : p.queues = old.queues) :
    (old.settle p).seats = p.seats := by
  have hwalks : p.takeWalks.records = p.records := p.takeWalks_records
  rw [Part.settle, Part.kickAll_seats]
  refine (Part.follow_seats ?_ ?_).trans p.takeWalks_seats
  · exact (congrArg Records.floors hwalks).trans hf
  · exact (congrArg Records.queues hwalks).trans hq

/-! ### O41 -/

section
variable {s : State} {seg : Segment} {n : Nat} {img : Image} {rx : Reception} {up : Uplink} {x : Seat}

/-- The part in which an event ends is the one that its row makes. -/
theorem Ends.part_eq {c : Instr} {p q : Part} (h : Ends c s p) (hx : exec c s = s.become q) : p = q := by
  have hp := hx.symm.trans h.1
  simp only [State.become, Host.Outcome.next.injEq, State.mk.injEq] at hp
  exact hp.1.symm

/-- The seat after the later steps of a GOOD POLL that brings nothing new (R68, R70, R78). -/
def Seat.confirmed (img : Image) (echo : MicCommand) (z : Seat) : Seat :=
  { z.carriedOn img with micConfirmed := decide (echo = img.mic) }

/-- Steps 4 to 7 of R86 where nothing new is brought: the seat alone is written. -/
theorem Part.pollTakes_silent (p : Part) (z : Seat) (hz : nth p.seats n = some z) (hread : z.reads up.badge)
    (hup : uplinkSilent up z) :
    (p.pollTakes n img up).seats = upd p.seats n (fun _ => z.confirmed img up.echo) ∧
      (p.pollTakes n img up).floors = p.floors ∧ (p.pollTakes n img up).queues = p.queues := by
  have hseats : (p.follow (p.updSeat n (Seat.carried img up.echo))).seats = upd p.seats n (Seat.carried img up.echo) :=
    Part.follow_seats rfl rfl
  have hlike : (p.updSeat n (Seat.carried img up.echo)).Like (p.follow (p.updSeat n (Seat.carried img up.echo))) :=
    Part.follow_records _ _
  have htakes : p.pollTakes n img up =
      ((p.follow (p.updSeat n (Seat.carried img up.echo))).takeBadge n up.badge |>.takeEvents n up).takeLevel n up.priorityUp := rfl
  have hfloors : (p.follow (p.updSeat n (Seat.carried img up.echo))).floors = p.floors := hlike.floors
  have hqueues : (p.follow (p.updSeat n (Seat.carried img up.echo))).queues = p.queues := hlike.queues
  generalize p.follow (p.updSeat n (Seat.carried img up.echo)) = C at hseats htakes hfloors hqueues
  have hat : nth C.seats n = some (z.carried img up.echo) := by rw [hseats, nth_upd_same, hz]; rfl
  rw [C.takeBadge_same n up.badge _ hat hread, Part.takes_silent _ n up
    (by rw [Part.seatAt_updSeat_same _ n _ _ hat]; exact hup)] at htakes
  rw [htakes]
  refine ⟨?_, hfloors, hqueues⟩
  rw [Part.updSeat_seats, hseats, upd_upd]
  exact upd_congr _ _ _ _ z hz rfl

/-- A POLL that brings nothing new writes at its seat the score, what the image carried and the badge's candidate (R68, R69, R70,
R78). -/
theorem State.goodPoll.seats (h : s.goodPoll seg n img rx up) (hx : nth s.part.seats n = some x) (hup : uplinkSilent up x)
    (hno : s.part.noOperation) :
    (s.part.pollAnswered seg rx up).seats = upd s.part.seats n (fun _ => x.scored.confirmed img up.echo) := by
  have hscored : (s.scored seg n).seats = upd s.part.seats n (fun _ => x.scored) := by
    rw [State.scored, Part.scoreSeat, Part.updSeat_seats, Part.lineEnds_seats]
    exact upd_congr _ _ _ _ x hx rfl
  have hz : nth (s.scored seg n).seats n = some x.scored := by rw [hscored, nth_upd_same, hx]; rfl
  have hmoves : (s.part.lineEnds seg .good).pollMoves n true (decide (up.echo = .closed)) = s.scored seg n := by
    have hworked : s.worked seg n up = s.scored seg n := State.worked_noOperation hno
    rw [← hworked, Part.pollMoves]
    exact Part.moveSeat_present _ n x.scored (by rw [← State.scored, ← State.worked, hworked]; exact hz)
      (h.present hx : x.health.presence = _)
  have hlike := s.scored_records seg n x hx
  have hmoved : (s.part.follow (s.scored seg n)).seats = (s.scored seg n).seats :=
    Part.follow_seats ((congrArg Records.floors hlike).trans rfl) ((congrArg Records.queues hlike).trans rfl)
  rw [h.answered hx, Part.pollGood, hmoves]
  generalize s.part.follow (s.scored seg n) = M at hmoved
  obtain ⟨hseats, hfloors, hqueues⟩ := M.pollTakes_silent (img := img) x.scored (hmoved ▸ hz) (h.reads hx : x.reads up.badge) hup
  rw [Part.noteChanges_seats, Part.settle_seats hfloors hqueues, hseats, hmoved, hscored, upd_upd]

end

/-- Settles O41: the records by the GOOD POLL that brings nothing new, and `mic_confirmed` by following the seats through it: no
floor and no queue changes, so no microphone is unconfirmed. -/
theorem pollWithNothingNew : Obligations.PollWithNothingNew := by
  intro s seg n img rx up x h hx hup hno
  have hn : nth s.part.records.seats n = some x.quiet := by rw [Part.records, nth_map, hx]; rfl
  obtain ⟨q, hends, hq⟩ := h.silent hx hup s.part.records x.quiet x.scored hn
    (by rw [State.worked_noOperation hno, s.scored_records seg n x hx]) ⟨rfl, rfl, rfl, rfl⟩
  have hseats := h.seats hx hup hno
  rw [← hends.part_eq (exec_pollAnswer seg rx up s)] at hseats
  refine ⟨q, hends, by rw [hq, State.withSeat_eq, Seat.afterPoll_eq], ?_, fun m hm => ?_⟩
  · rw [q.seatAt_of_nth n (x.scored.confirmed img up.echo)
      (by rw [hseats, nth_upd_same, hx]; rfl)]; rfl
  · rw [Part.seatAt, Part.seatAt, hseats, nth_upd_ne _ _ _ _ (Ne.symm hm)]

end Sys2Proof.Machine
end

section
/-! The score, the presence and the badge of a unit, and what the end of a POLL leaves alone (O40). -/

namespace Sys2Proof.Machine

/-! ### The displays' units and configurations through a POLL -/

/-- What the display records say besides what is shown. -/
def Part.cores (p : Part) : List DisplayCore := p.displays.map Display.core

theorem Part.cores_of_side {p q : Part} (h : p.side = q.side) : p.cores = q.cores := congrArg Side.displays h

theorem Part.cores_of_records {p q : Part} (h : p.records = q.records) : p.cores = q.cores := congrArg Records.displays h

@[simp] theorem Part.updSeat_cores (p : Part) (n : Nat) (g : Seat → Seat) : (p.updSeat n g).cores = p.cores := rfl
@[simp] theorem Part.follow_cores (old p : Part) : (old.follow p).cores = p.cores := Part.cores_of_records (old.follow_records p)
theorem Part.noteChanges_cores (old p : Part) : (old.noteChanges p).cores = p.cores := rfl
@[simp] theorem Part.settle_cores (old p : Part) : (old.settle p).cores = p.cores := Part.cores_of_records (old.settle_records p)
@[simp] theorem Part.lineEnds_cores (p : Part) (seg : Segment) (o : LinkOutcome) : (p.lineEnds seg o).cores = p.cores :=
  Part.cores_of_records (p.lineEnds_records seg o)
@[simp] theorem Part.setProbeDue_cores (p : Part) (seg : Segment) (pos : Nat) : (p.setProbeDue seg pos).cores = p.cores :=
  Part.cores_of_records (p.setProbeDue_records seg pos)
@[simp] theorem Part.workOutcome_cores (p : Part) (n : Nat) (good echo : Bool) : (p.workOutcome n good echo).cores = p.cores :=
  Part.cores_of_side (p.workOutcome_side n good echo)
@[simp] theorem Part.loseSeat_cores (p : Part) (n : Nat) : (p.loseSeat n).cores = p.cores := Part.cores_of_side (p.loseSeat_side n)
@[simp] theorem Part.stopHold_cores (p : Part) (n : Nat) : (p.stopHold n).cores = p.cores := Part.cores_of_side (p.stopHold_side n)
@[simp] theorem Part.admissionLost_cores (p : Part) (f n : Nat) : (p.admissionLost f n).cores = p.cores :=
  Part.cores_of_side (p.admissionLost_side f n)

@[simp] theorem Part.presenceMoved_cores (p : Part) (n : Nat) (old : Presence) : (p.presenceMoved n old).cores = p.cores := by
  unfold Part.presenceMoved
  dsimp only
  repeat' split
  all_goals simp

@[simp] theorem Part.pollMoves_cores (p : Part) (n : Nat) (good echo : Bool) : (p.pollMoves n good echo).cores = p.cores := by
  unfold Part.pollMoves
  dsimp only
  split <;> simp [Part.moveSeat, Part.scoreSeat]

@[simp] theorem Part.takeBadge_cores (p : Part) (n : Nat) (reading : Tag) : (p.takeBadge n reading).cores = p.cores := by
  unfold Part.takeBadge Part.reportAdmission
  repeat' split
  all_goals simp

@[simp] theorem Part.pressAt_cores (p : Part) (n : Nat) (b : Button) : (p.pressAt n b).cores = p.cores := by
  refine Part.cores_of_side ?_
  unfold Part.pressAt
  repeat' split
  all_goals simp

@[simp] theorem Part.dispatch_cores (p : Part) (n : Nat) (b : Button) : (p.dispatch n b).cores = p.cores := by
  unfold Part.dispatch; split
  · exact p.pressAt_cores n b
  · exact Part.cores_of_side (p.flash_side n)

@[simp] theorem Part.wake_cores (p : Part) (c : WakeCause) : (p.wake c).cores = p.cores := by
  unfold Part.wake Part.checkAwake
  repeat' split
  · unfold Part.becomeAwake
    exact (Part.cores_of_side (Part.runTasks_side ..)).trans rfl
  · rfl
  · rfl

@[simp] theorem Part.notePress_cores (p : Part) : p.notePress.cores = p.cores := by
  unfold Part.notePress
  dsimp only
  split
  · exact Part.wake_cores _ _
  · rfl

@[simp] theorem Part.countOverrun_cores (p : Part) (n : Nat) (o : Bool) : (p.countOverrun n o).cores = p.cores := by
  unfold Part.countOverrun; split <;> rfl

@[simp] theorem Part.takeEvent_cores (p : Part) (n : Nat) (b : Button) (ev : Option PressEvent) : (p.takeEvent n b ev).cores = p.cores := by
  unfold Part.takeEvent
  repeat' split
  all_goals simp [Part.recordTag]

@[simp] theorem Part.risingEdge_cores (p : Part) (n : Nat) : (p.risingEdge n).cores = p.cores := by
  refine Part.cores_of_side ?_
  unfold Part.risingEdge
  repeat' split
  all_goals simp

@[simp] theorem Part.takeLevel_cores (p : Part) (n : Nat) (level : Bool) : (p.takeLevel n level).cores = p.cores := by
  unfold Part.takeLevel
  dsimp only
  split <;> simp

theorem Part.pollTakes_cores (p : Part) (n : Nat) (img : Image) (up : Uplink) : (p.pollTakes n img up).cores = p.cores := by
  simp [Part.pollTakes, Part.takeEvents]

/-- The end of a POLL touches no display's unit or configuration. -/
theorem Part.pollEnd_cores (old p : Part) (n : Nat) (img : Image) (o : LinkOutcome) (up : Uplink) :
    (old.pollEnd p n img o up).cores = p.cores := by
  unfold Part.pollEnd
  split
  · split
    · rw [Part.pollGood, Part.noteChanges_cores, Part.settle_cores, Part.pollTakes_cores, Part.follow_cores, Part.pollMoves_cores]
    · rw [Part.pollFailed, Part.settle_cores, Part.pollMoves_cores]
  · exact Part.settle_cores _ _

/-! ### Scores, presences and badges -/

theorem Health.score_good (h : Health) : (h.score true).errorScore = h.errorScore - 1 := rfl
theorem Health.score_failed (h : Health) : (h.score false).errorScore = sat 65535 (h.errorScore + 8) := rfl
@[simp] theorem Health.score_presence (h : Health) (good : Bool) : (h.score good).presence = h.presence := rfl
@[simp] theorem Health.score_settleCount (h : Health) (good : Bool) : (h.score good).settleCount = h.settleCount := rfl

/-- A move of presence keeps the score (R71). -/
@[simp] theorem Health.move_errorScore (h : Health) (good : Bool) (need : Nat) : (h.move good need).errorScore = h.errorScore := by
  unfold Health.move
  repeat' split
  all_goals rfl

section
variable {h : Health} {need : Nat}

theorem Health.move_settled (hp : h.presence = .settling) (hn : need ≤ h.settleCount + 1) :
    h.move true need = { h with presence := if h.errorScore < 96 then .present else .degraded, settleCount := 0 } := by
  simp [Health.move, hp, hn]

theorem Health.move_settles (hp : h.presence = .settling) (hn : h.settleCount + 1 < need) (h15 : need ≤ 15) :
    h.move true need = { h with settleCount := h.settleCount + 1 } := by
  have hsat : sat 15 (h.settleCount + 1) = h.settleCount + 1 := Nat.min_eq_right (by omega)
  simp [Health.move, hp, Nat.not_le.2 hn, hsat]

theorem Health.move_unsettled (hp : h.presence = .settling) :
    h.move false need = { h with presence := if 256 ≤ h.errorScore then .cutOff else .settling, settleCount := 0 } := by
  simp [Health.move, hp]

theorem Health.move_present (hp : h.presence = .present) : h.move true need = h := by simp [Health.move, hp]

theorem Health.move_present_failed (hp : h.presence = .present) :
    h.move false need =
      { h with presence := if 256 ≤ h.errorScore then .cutOff else if 96 ≤ h.errorScore then .degraded else .present } := by
  simp [Health.move, hp]

theorem Health.move_degraded (hp : h.presence = .degraded) :
    h.move true need = { h with presence := if h.errorScore ≤ 48 then .present else .degraded } := by simp [Health.move, hp]

theorem Health.move_degraded_failed (hp : h.presence = .degraded) :
    h.move false need = { h with presence := if 256 ≤ h.errorScore then .cutOff else .degraded } := by simp [Health.move, hp]
end

/-! ### The end of a POLL -/

/-- The row of an answer, or of the window's end, is the end of the POLL on the line with the outcome told (R152). -/
theorem State.pollEnds {s : State} {seg : Segment} {pos : Nat} {img : Image} {c : Instr} {good : Bool} (hr : s.runs)
    (hline : (s.part.engine seg).line = some { exchange := .poll pos img, orphan := false })
    (hc : (∃ rx up, c = .pollAnswer seg rx up ∧
        good = (rx.complete && rx.checkRight && rx.kindRight && decide (up.position = pos))) ∨
      (c = .responseTimeout seg ∧ good = false)) :
    ∃ o up, good = decide (o = .good) ∧
      exec c s = s.become (s.part.pollEnd (s.part.lineEnds seg o) (seatOn seg pos) img o up) := by
  rcases hc with ⟨rx, up, rfl, rfl⟩ | ⟨rfl, rfl⟩
  · refine ⟨outcomeOf rx (decide (up.position = pos)), up, (decide_outcomeOf_good rx _).symm, ?_⟩
    have hx : exec (.pollAnswer seg rx up) s = s.become (s.part.pollAnswered seg rx up) := rfl
    rw [hx, Part.pollAnswered, s.part.lineOf_of seg _ hr hline]
    rfl
  · refine ⟨.timeout, noUplink, rfl, ?_⟩
    have hx : exec (.responseTimeout seg) s = s.become (s.part.timedOut seg) := rfl
    rw [hx, Part.timedOut, s.part.lineOf_of seg _ hr hline]
    rfl

/-- The unit of a seat, where one unit's health is written. -/
theorem Part.seatAt_unit_written {p q : Part} (n : Nat) (g : Health → Health) (x : Seat) (hx : nth p.seats n = some x)
    (hq : q.base.units = upd p.base.units n (fun u => { u with health := g u.health })) (m : Nat) :
    (q.seatAt m).unit = if m = n then { x.unit with health := g x.health } else (p.seatAt m).unit := by
  have hunit : nth p.base.units n = some x.unit := by rw [Part.base, nth_map, hx]; rfl
  rw [Part.seatAt_unit, Part.seatAt_unit, hq]
  split
  · next hm => rw [hm, nth_upd_same, hunit]; rfl
  · next hm => rw [nth_upd_ne _ _ _ _ (Ne.symm hm)]

/-- What the end of a POLL moves and what it leaves (R69, R71, R152). -/
theorem Part.pollEnd_moves (old p : Part) (n : Nat) (img : Image) (o : LinkOutcome) (up : Uplink)
    (hpolled : (p.seatAt n).health.presence.polled = true) (q : Part) (hq : q = old.pollEnd p n img o up) :
    (q.seatAt n).health =
        ((p.seatAt n).health.score (decide (o = .good))).move (decide (o = .good)) p.settings.presenceSettle ∧
      (∀ m, m ≠ n → (q.seatAt m).health = (p.seatAt m).health) ∧
      (∀ m, (q.seatAt m).unitKind = (p.seatAt m).unitKind ∧ (q.seatAt m).unitSerial = (p.seatAt m).unitSerial) := by
  have hbase := old.pollEnd_base p n img o up hpolled
  rw [← hq] at hbase
  have hx := p.nth_of_polled n hpolled
  have hunit := Part.seatAt_unit_written n
    (fun h => (h.score (decide (o = .good))).move (decide (o = .good)) p.settings.presenceSettle) _ hx (congrArg Base.units hbase)
  refine ⟨?_, fun m hm => ?_, fun m => ?_⟩
  · have h := hunit n
    rw [if_pos rfl] at h
    exact congrArg UnitView.health h
  · have h := hunit m
    rw [if_neg hm] at h
    exact congrArg UnitView.health h
  · have h := hunit m
    by_cases hm : m = n
    · subst hm
      rw [if_pos rfl] at h
      exact ⟨congrArg UnitView.kind h, congrArg UnitView.serial h⟩
    · rw [if_neg hm] at h
      exact ⟨congrArg UnitView.kind h, congrArg UnitView.serial h⟩

/-- Settles O40: the moves by the cases of presence and outcome, the badge by the cases of the reading, and the end of a POLL by
what it writes of the base and of the displays. -/
theorem presenceAndBadgesMoveByTheRules : Obligations.PresenceAndBadgesMoveByTheRules := by
  refine ⟨?_, ?_, ?_⟩
  · rintro h g good need rfl
    refine ⟨?_, ?_, ?_, ?_, ?_, ?_, ?_, ?_, ?_⟩
    · rintro rfl; rw [Health.move_errorScore, Health.score_good]
    · rintro rfl; rw [Health.move_errorScore, Health.score_failed]
    · rintro hp rfl hn
      rw [Health.move_settled (h := h.score true) hp hn]
      exact ⟨rfl, rfl⟩
    · rintro hp rfl hn h15
      rw [Health.move_settles (h := h.score true) hp hn h15]
      exact ⟨rfl, hp⟩
    · rintro hp rfl
      rw [Health.move_unsettled (h := h.score false) hp]
      exact ⟨rfl, rfl⟩
    · rintro hp rfl
      rw [Health.move_present (h := h.score true) hp]
      exact ⟨hp, rfl⟩
    · rintro hp rfl
      rw [Health.move_present_failed (h := h.score false) hp]
      exact ⟨rfl, rfl⟩
    · rintro hp rfl
      rw [Health.move_degraded (h := h.score true) hp]
      exact ⟨rfl, rfl⟩
    · rintro hp rfl
      rw [Health.move_degraded_failed (h := h.score false) hp]
      exact ⟨rfl, rfl⟩
  · intro need reading x
    refine ⟨fun h0 => ?_, fun h0 hb => ?_, fun h0 hb hc hn => ?_, fun h0 hb hc hn => ?_, fun h0 hb hc hn => ?_⟩
    · rw [Seat.readBadge, if_pos h0]
    · rw [Seat.readBadge, if_neg h0, if_pos hb]
    · rw [Seat.readBadge, if_neg h0, if_neg hb, if_pos hc, if_pos hn]
    · rw [Seat.readBadge, if_neg h0, if_neg hb, if_pos hc, if_neg (Nat.not_le.2 hn), ← hc]
    · rw [Seat.readBadge, if_neg h0, if_neg hb, if_neg hc, if_neg (Nat.not_le.2 hn)]
  · intro s seg pos img c good hr hline hpolled hc
    obtain ⟨o, up, rfl, hx⟩ := State.pollEnds hr hline hc
    have hpolled' : ((s.part.lineEnds seg o).seatAt (seatOn seg pos)).health.presence.polled = true := by
      rw [Part.lineEnds_seatAt]; exact hpolled
    obtain ⟨hn, hother, hunits⟩ := s.part.pollEnd_moves (s.part.lineEnds seg o) (seatOn seg pos) img o up hpolled' _ rfl
    have hbase := s.part.pollEnd_base (s.part.lineEnds seg o) (seatOn seg pos) img o up hpolled'
    rw [Part.lineEnds_base] at hbase
    have hcores := s.part.pollEnd_cores (s.part.lineEnds seg o) (seatOn seg pos) img o up
    rw [Part.lineEnds_cores] at hcores
    simp only [Part.lineEnds_seatAt] at hn hother hunits
    rw [Part.settings_of_base _ _ (s.part.lineEnds_base seg o)] at hn
    exact ⟨_, ⟨hx, congrArg Base.answer hbase⟩, hn, hother, hunits, hcores, congrArg Base.clock hbase,
      congrArg Base.settings hbase, congrArg Base.store hbase, congrArg Base.partitions hbase, congrArg Base.ambient hbase,
      congrArg Base.now hbase⟩

end Sys2Proof.Machine
end

section
/-! The ends of a SHOW and of a SENSE of the ambient sensor (O42). -/

namespace Sys2Proof.Machine

/-! ### The rows of an answer on WALL -/

theorem outcomeOf_answered {rx : Reception} {fits : Bool} (hc : rx.complete = true) (hk : rx.checkRight = true)
    (hd : rx.kindRight = true) (hf : fits = true) : outcomeOf rx fits = .good :=
  (outcomeOf_good rx fits).2 (by rw [hc, hk, hd, hf]; rfl)

section
variable {s : State} {pos : Nat}

/-- The end of a SHOW, answered or not, is its outcome at the display (R142, R152). -/
theorem State.showEnds {d drive : Nat} {content : Effective} {c : Instr} {good : Bool} (hr : s.runs)
    (hline : s.part.wall.line = some { exchange := .show pos content drive, orphan := false })
    (hrole : s.part.roleAt pos = some (.display d))
    (hc : (∃ rx position kind, c = .showAnswer rx position kind ∧
        good = (rx.complete && rx.checkRight && rx.kindRight && decide (position = pos))) ∨
      (c = .responseTimeout .wall ∧ good = false)) :
    ∃ o, exec c s = s.become (s.part.settle ((s.part.lineEnds .wall o).showEnded pos d good content drive)) := by
  have hl := s.part.lineOf_of .wall _ hr hline
  have hreport : ∀ o, (s.part.lineEnds .wall o).showReport pos content drive o =
      (s.part.lineEnds .wall o).showEnded pos d (decide (o = .good)) content drive := fun o => by
    rw [Part.showReport, Part.lineEnds_roleAt, hrole]
  rcases hc with ⟨rx, position, kind, rfl, rfl⟩ | ⟨rfl, rfl⟩
  · refine ⟨outcomeOf rx (decide (position = pos)), ?_⟩
    have hx : exec (.showAnswer rx position kind) s = s.become (s.part.showAnswered rx position) := rfl
    rw [hx, Part.showAnswered, hl]
    dsimp only
    rw [Part.exchangeEnds_own, hreport, decide_outcomeOf_good]
  · refine ⟨.timeout, ?_⟩
    have hx : exec (.responseTimeout .wall) s = s.become (s.part.timedOut .wall) := rfl
    rw [hx, Part.timedOut, hl]
    dsimp only
    rw [Part.exchangeEnds_own, hreport]
    rfl

/-- The row of an answer to a SENSE, of either sort, is the answer (R155). -/
theorem exec_sense {c : Instr} {rx : Reception} {position : Nat} {reading : Reading}
    (hc : c = .sensePartition rx position reading ∨ c = .senseAmbient rx position reading) :
    exec c s = s.become (s.part.senseAnswered rx position reading) := by rcases hc with rfl | rfl <;> rfl

/-- A SENSE answered well gives its owner the reading (R155). -/
theorem State.senseGood {c : Instr} {rx : Reception} {reading : Reading} (hr : s.runs)
    (hline : s.part.wall.line = some { exchange := .sense pos, orphan := false })
    (hc : c = .sensePartition rx pos reading ∨ c = .senseAmbient rx pos reading) (h1 : rx.complete = true)
    (h2 : rx.checkRight = true) (h3 : rx.kindRight = true) (hfits : fitsRole (s.part.roleAt pos) reading = true) :
    exec c s = s.become (s.part.settle ((s.part.lineEnds .wall .good).senseReport pos (some reading))) := by
  rw [exec_sense hc, Part.senseAnswered, s.part.lineOf_of .wall _ hr hline]
  dsimp only
  rw [Part.exchangeEnds_own, outcomeOf_answered h1 h2 h3 (by rw [hfits]; simp)]
  rfl

/-- A SENSE that fails gives its owner no reading (R153, R155). -/
theorem State.senseFailed {c : Instr} (hr : s.runs) (hline : s.part.wall.line = some { exchange := .sense pos, orphan := false })
    (hc : c = .responseTimeout .wall ∨ ∃ rx position reading,
      (c = .sensePartition rx position reading ∨ c = .senseAmbient rx position reading) ∧
      (rx.complete && rx.checkRight && rx.kindRight &&
        (decide (position = pos) && fitsRole (s.part.roleAt pos) reading)) = false) :
    ∃ o, exec c s = s.become (s.part.settle ((s.part.lineEnds .wall o).senseReport pos none)) := by
  have hl := s.part.lineOf_of .wall _ hr hline
  rcases hc with rfl | ⟨rx, position, reading, hc, hbad⟩
  · refine ⟨.timeout, ?_⟩
    have hx : exec (.responseTimeout .wall) s = s.become (s.part.timedOut .wall) := rfl
    rw [hx, Part.timedOut, hl]
    dsimp only
    rw [Part.exchangeEnds_own]
  · refine ⟨outcomeOf rx (decide (position = pos) && fitsRole (s.part.roleAt pos) reading), ?_⟩
    rw [exec_sense hc, Part.senseAnswered, hl]
    dsimp only
    rw [Part.exchangeEnds_own, if_neg]
    intro hgood
    rw [(outcomeOf_good _ _).1 hgood] at hbad
    exact absurd hbad (by decide)
end

/-! ### The display record at the end of a SHOW -/

@[simp] theorem Part.wallMoved_displays (p : Part) (pos : Nat) (o : Presence) : (p.wallMoved pos o).displays = p.displays := by
  unfold Part.wallMoved; split
  · exact Part.updEngine_displays ..
  · rfl

@[simp] theorem Part.lineEnds_settings (p : Part) (seg : Segment) (o : LinkOutcome) : (p.lineEnds seg o).settings = p.settings :=
  Part.settings_of_base _ _ (p.lineEnds_base seg o)

section
variable {p : Part} {pos d drive : Nat} {good : Bool} {content : Effective} {old : Display}

theorem Part.showEnded_polled (hd : nth p.displays d = some old) (hp : old.health.presence.polled = true) :
    p.showEnded pos d good content drive =
      (p.updDisplay d (Display.showEnd p.settings.presenceSettle good content drive)).wallMoved pos old.health.presence := by
  have hat : p.displayAt d = old := by simp [Part.displayAt, hd]
  rw [Part.showEnded, hat]
  exact if_pos hp

/-- The unit's health alone is written, besides `shown` (R142). -/
theorem Part.showEnded_records (hd : nth p.displays d = some old) (hp : old.health.presence.polled = true) (h : Health)
    (hh : h = (old.health.score good).move good p.settings.presenceSettle) :
    (p.showEnded pos d good content drive).records =
      { p.records with displays := (upd p.displays d (fun x => { x with health := h })).map Display.core } := by
  rw [Part.showEnded_polled hd hp, Part.wallMoved_records]
  refine congrArg (fun l => ({ p.records with displays := l } : Records)) ?_
  have hcongr : upd p.displays d (fun x => { x with health := h }) =
      upd p.displays d (fun x => { x with health := (x.health.score good).move good p.settings.presenceSettle }) :=
    upd_congr _ _ _ _ old hd (by rw [hh])
  rw [hcongr]
  exact map_upd_congr Display.core _ _ _ _ (fun _ => rfl)

theorem Part.showEnded_answer (hd : nth p.displays d = some old) (hp : old.health.presence.polled = true) :
    (p.showEnded pos d good content drive).answer = p.answer := by
  rw [Part.showEnded_polled hd hp, Part.wallMoved_answer]; rfl

theorem Part.showEnded_display (hd : nth p.displays d = some old) (hp : old.health.presence.polled = true) :
    nth (p.showEnded pos d good content drive).displays d =
      some (old.showEnd p.settings.presenceSettle good content drive) := by
  rw [Part.showEnded_polled hd hp, Part.wallMoved_displays, Part.updDisplay, nth_upd_same, hd]; rfl
end

/-- A recompute keeps `shown` where nothing that the display shows changes, and clears it otherwise (R141). -/
theorem Part.recomputed_shown (p : Part) (d : Display) :
    (p.recomputed d).shown = (d.shown && decide ((p.recomputed d).content = d.content ∧ (p.recomputed d).level = d.level ∧
      (p.recomputed d).drive = d.drive)) := by
  unfold Part.recomputed Part.restRotation
  split <;> rfl

/-! ### The ambient record at the end of a SENSE -/

section
variable {p : Part} {pos : Nat}

theorem Part.ambientSensed_failed (hp : p.ambient.health.presence.polled = true) :
    (p.ambientSensed pos none).records =
      { p.records with ambient := { p.ambient with
        health := (p.ambient.health.score false).move false p.settings.presenceSettle } } := by
  rw [Part.ambientSensed, if_pos hp, Part.wallMoved_records]; rfl

theorem Part.ambientSensed_read (hp : p.ambient.health.presence.polled = true) (v : Nat) :
    (p.ambientSensed pos (some v)).records =
      { p.records with ambient := { p.ambient with
        health := (p.ambient.health.score true).move true p.settings.presenceSettle, lastReading := some v
        band := bandAfter p.settings p.ambient.band v } } := by
  rw [Part.ambientSensed, if_pos hp, Part.wallMoved_records]; rfl

theorem Part.ambientSensed_answer (hp : p.ambient.health.presence.polled = true) (reading : Option Nat) :
    (p.ambientSensed pos reading).answer = p.answer := by
  rw [Part.ambientSensed, if_pos hp, Part.wallMoved_answer]
  cases reading <;> rfl

theorem Part.senseReport_ambient (h : p.roleAt pos = some .ambient) (reading : Option Reading) :
    p.senseReport pos reading = p.ambientSensed pos (reading.bind readingLight) := by rw [Part.senseReport, h]
end

/-- The records of a part whose exchange has ended, with another ambient record. -/
theorem Part.lineEnds_withAmbient (p : Part) (seg : Segment) (o : LinkOutcome) (a : Ambient) :
    ({ (p.lineEnds seg o).records with ambient := a } : Records) = { p.records with ambient := a } := by
  rw [Part.lineEnds_records]

theorem Part.lineEnds_ambient (p : Part) (seg : Segment) (o : LinkOutcome) : (p.lineEnds seg o).ambient = p.ambient :=
  Part.ambient_of_base _ _ (p.lineEnds_base seg o)

/-! ### O42 -/

theorem showAnswers (s : State) (pos d drive : Nat) (content : Effective) (c : Instr) (good : Bool) (old : Display) (h : Health)
    (hr : s.runs) (hline : s.part.wall.line = some { exchange := .show pos content drive, orphan := false })
    (hrole : s.part.roleAt pos = some (.display d)) (hd : nth s.part.displays d = some old)
    (hp : old.health.presence.polled = true) (hh : h = (old.health.score good).move good s.part.settings.presenceSettle)
    (hc : (∃ rx position kind, c = .showAnswer rx position kind ∧
        good = (rx.complete && rx.checkRight && rx.kindRight && decide (position = pos))) ∨
      (c = .responseTimeout .wall ∧ good = false)) :
    ∃ p, Ends c s p ∧
      p.records =
        { s.part.records with displays := (upd s.part.displays d (fun x => { x with health := h })).map Display.core } ∧
      (p.displayAt d).shown =
        ((if good then decide (content = old.content ∧ drive = old.drive)
          else old.shown && (!old.health.presence.inService || h.presence.inService)) &&
        decide ((p.displayAt d).content = old.content ∧ (p.displayAt d).level = old.level ∧ (p.displayAt d).drive = old.drive)) := by
  obtain ⟨o, hx⟩ := State.showEnds hr hline hrole hc
  have hd' : nth (s.part.lineEnds .wall o).displays d = some old := by rw [Part.lineEnds_displays]; exact hd
  refine ⟨_, ⟨hx, ?_⟩, ?_, ?_⟩
  · rw [Part.settle_answer, Part.showEnded_answer hd' hp, Part.lineEnds_answer]
  · rw [Part.settle_records, Part.showEnded_records hd' hp h (by rw [Part.lineEnds_settings]; exact hh), Part.lineEnds_records,
      Part.lineEnds_displays]
  · rw [Part.settle_displayAt _ _ d _ (Part.showEnded_display hd' hp), Part.recomputed_shown, Part.lineEnds_settings]
    rw [hh]
    rfl

/-- Settles O42: the rows of an answer end the exchange at its owner, whose record is written there; `shown` is then what the
recompute at the end of the step leaves of it. -/
theorem showAndAmbientAnswers : Obligations.ShowAndAmbientAnswers := by
  refine ⟨showAnswers, fun s pos h hr hline hrole hp hh => ⟨?_, fun c hc => ?_⟩⟩
  · rintro rx v h1 h2 h3 t m q rfl rfl rfl
    have hx := State.senseGood (reading := .level v) hr hline (.inr rfl) h1 h2 h3 (by rw [hrole]; rfl)
    rw [Part.senseReport_ambient (by rw [Part.lineEnds_roleAt]; exact hrole)] at hx
    have hp' : (s.part.lineEnds .wall .good).ambient.health.presence.polled = true := by rw [Part.lineEnds_ambient]; exact hp
    refine leaves_of_settle _ s _ _ hx ?_ ?_
    · rw [Part.ambientSensed_answer hp', Part.lineEnds_answer]
    · refine (Part.ambientSensed_read hp' v.toNat).trans ?_
      rw [Part.lineEnds_withAmbient, Part.lineEnds_ambient, Part.lineEnds_settings, ← hh]
      rfl
  · have hbad : c = .responseTimeout .wall ∨ ∃ rx position reading,
        (c = .sensePartition rx position reading ∨ c = .senseAmbient rx position reading) ∧
        (rx.complete && rx.checkRight && rx.kindRight &&
          (decide (position = pos) && fitsRole (s.part.roleAt pos) reading)) = false := by
      refine hc.imp_right ?_
      rintro ⟨rx, position, reading, rfl, hbad⟩
      refine ⟨rx, position, reading, .inr rfl, ?_⟩
      rw [hrole]
      rcases hbad with (rfl | rfl) | hne | hrx
      · simp [fitsRole, readingLight]
      · simp [fitsRole, readingLight]
      · simp [hne]
      · rw [hrx]; rfl
    obtain ⟨o, hx⟩ := State.senseFailed hr hline hbad
    rw [Part.senseReport_ambient (by rw [Part.lineEnds_roleAt]; exact hrole)] at hx
    have hp' : (s.part.lineEnds .wall o).ambient.health.presence.polled = true := by rw [Part.lineEnds_ambient]; exact hp
    refine leaves_of_settle _ s _ _ hx ?_ ?_
    · rw [Part.ambientSensed_answer hp', Part.lineEnds_answer]
    · refine (Part.ambientSensed_failed hp').trans ?_
      rw [Part.lineEnds_withAmbient, Part.lineEnds_ambient, Part.lineEnds_settings, ← hh]

end Sys2Proof.Machine
end

section
/-! The end of a SENSE of a partition (O43). -/

namespace Sys2Proof.Machine

/-! ### Which zones a floor holds -/

/-- From `p` to `q` every floor holds the zones that it held. -/
def Part.SameZones (p q : Part) : Prop := ∀ f z, (q.floorAt f).holds z = (p.floorAt f).holds z

namespace Part.SameZones

variable {p q : Part}

theorem refl (p : Part) : p.SameZones p := fun _ _ => rfl

theorem updFloor (h : p.SameZones q) {f : Nat} {g : Floor → Floor}
    (hg : ∀ fl z, (g fl).holds z = fl.holds z := by exact fun _ _ => rfl) : p.SameZones (q.updFloor f g) := by
  intro e z
  refine Eq.trans ?_ (h e z)
  by_cases he : e = f
  · subst he
    rw [Part.floorAt, Part.floorAt, Part.updFloor, nth_upd_same]
    cases nth q.floors e with
    | none => rfl
    | some fl => exact hg fl z
  · rw [q.floorAt_updFloor_ne f e g (Ne.symm he)]

theorem leaveQueue (h : p.SameZones q) {f n : Nat} : p.SameZones (q.leaveQueue f n) := h
theorem setGuard (h : p.SameZones q) {n : Nat} : p.SameZones (q.setGuard n) := h

theorem updBooking (h : p.SameZones q) {k : Nat} {g : Booking → Booking} : p.SameZones (q.updBooking k g) := by
  unfold Part.updBooking; split
  exacts [h, h]

theorem openSeat (h : p.SameZones q) {f n : Nat} : p.SameZones (q.openSeat f n) := by
  unfold Part.openSeat; split
  exacts [h.updFloor.leaveQueue, h]

theorem endHold (h : p.SameZones q) {f n : Nat} : p.SameZones (q.endHold f n) := by
  unfold Part.endHold; split
  exacts [updFloor (q := q.updSeat n _) h, h]

theorem forceClose (h : p.SameZones q) {f n : Nat} : p.SameZones (q.forceClose f n) :=
  (updFloor (q := q.endHold f n) h.endHold).setGuard (n := n)

theorem grantHead (h : p.SameZones q) {f : Nat} : p.SameZones (q.grantHead f) := by
  unfold Part.grantHead; split
  exacts [h, h.leaveQueue.openSeat]

theorem grantLoop {f : Nat} : ∀ (k : Nat) {q : Part}, p.SameZones q → p.SameZones (grantLoop k f q)
  | 0, _, h => h
  | k + 1, _, h => by
    unfold Machine.grantLoop; split
    exacts [grantLoop k h.grantHead, h]

theorem forceCloseAll (h : p.SameZones q) {f : Nat} {l : List Nat} : p.SameZones (q.forceCloseAll f l) :=
  foldl_inv p.SameZones _ (fun _ _ k => k.forceClose) l q h

theorem takeSuspension (h : p.SameZones q) {f : Nat} : p.SameZones (q.takeSuspension f) := by
  unfold Part.takeSuspension; dsimp only; split
  exacts [h.updFloor.forceCloseAll, h.updFloor.forceCloseAll.updBooking]

theorem resume (h : p.SameZones q) {f : Nat} : p.SameZones (q.resume f) := grantLoop _ h.updFloor

/-- An evaluation of suspension leaves the zones (R14). -/
theorem evalSuspension (h : p.SameZones q) : p.SameZones q.evalSuspension :=
  foldl_inv p.SameZones _ (fun r f k => by
    unfold Part.evalSuspensionOf; repeat' split
    exacts [k.takeSuspension, k.resume, k]) _ q h

end Part.SameZones

/-! ### A reading of a partition -/

section
variable {x : Partition} {a need : Nat} {r : WallState}

/-- The partition with its exchange scored (R3). -/
def Partition.scored (a : Nat) (good : Bool) (x : Partition) : Partition := { x with health := (x.health.score good).move good a }

theorem Partition.sensed_agrees (h : r = x.state) :
    x.sensed a need (some r) = { x.scored a true with candidate := none, repeatCount := 0 } := by
  simp [Partition.sensed, Partition.read, Partition.scored, Partition.clear, h]

theorem Partition.sensed_counts (h : r ≠ x.state) (hn : (if x.candidate = some r then x.repeatCount + 1 else 1) < need) :
    x.sensed a need (some r) = { x.scored a true with
      candidate := some r, repeatCount := if x.candidate = some r then x.repeatCount + 1 else 1 } := by
  simp [Partition.sensed, Partition.read, Partition.scored, h, Nat.not_le.2 hn]

theorem Partition.sensed_settles (h : r ≠ x.state) (hn : need ≤ if x.candidate = some r then x.repeatCount + 1 else 1) :
    x.sensed a need (some r) = { x.scored a true with state := r, candidate := none, repeatCount := 0 } := by
  simp [Partition.sensed, Partition.read, Partition.scored, Partition.clear, h, hn]

theorem Partition.sensed_failed :
    x.sensed a need none = if (x.scored a false).health.presence = .cutOff then
      { x.scored a false with candidate := none, repeatCount := 0 } else x.scored a false := rfl

end

/-! ### The part after a SENSE of a partition -/

@[simp] theorem Part.wallMoved_partitions (p : Part) (pos : Nat) (o : Presence) : (p.wallMoved pos o).partitions = p.partitions :=
  congrArg Records.partitions (p.wallMoved_records pos o)

theorem Part.wallMoved_base (p : Part) (pos : Nat) (o : Presence) : (p.wallMoved pos o).base = p.base := by
  unfold Part.wallMoved; split
  exacts [p.setProbeDue_base _ _, rfl]

theorem Part.partitionSettled_base (p : Part) (k : Nat) : (p.partitionSettled k).base = p.base := by
  unfold Part.partitionSettled Part.noteInside
  rw [Part.wake_base]
  split
  · rw [Part.raise_base, Part.evalSuspension_base]
  · exact p.evalSuspension_base

/-- The part with partition `k` as `y`, and its position's probe due where its sensor is cut off by this (R163). -/
def Part.sensedAs (p : Part) (pos k : Nat) (x y : Partition) : Part :=
  (p.updPartition k (fun _ => y)).wallMoved pos x.health.presence

section
variable {p : Part} {pos k : Nat} {x y : Partition} {reading : Option WallState}

theorem Part.sensedAs_records : (p.sensedAs pos k x y).records =
    { p.records with partitions := upd p.partitions k (fun _ => y) } := by
  rw [Part.sensedAs, Part.wallMoved_records]; rfl

theorem Part.sensedAs_base : (p.sensedAs pos k x y).base = { p.base with partitions := upd p.partitions k (fun _ => y) } := by
  rw [Part.sensedAs, Part.wallMoved_base]; rfl

theorem Part.partitionSensed_as (hx : nth p.partitions k = some x) (hp : x.health.presence.polled = true)
    (hy : x.sensed p.settings.presenceSettle p.settings.partitionSettle reading = y) :
    p.partitionSensed pos k reading =
      if y.state = x.state then p.sensedAs pos k x y else (p.sensedAs pos k x y).partitionSettled k := by
  have hat : p.partitionAt k = x := by simp [Part.partitionAt, hx]
  have hwritten : (p.updPartition k (Partition.sensed p.settings.presenceSettle p.settings.partitionSettle reading)) =
      p.updPartition k (fun _ => y) := by
    rw [Part.updPartition, Part.updPartition, upd_congr _ _ _ (fun _ => y) x hx hy]
  have hstate : ((p.sensedAs pos k x y).partitionAt k).state = y.state := by
    rw [Part.partitionAt, Part.sensedAs, Part.wallMoved_partitions, Part.updPartition_partitions, nth_upd_same, hx]; rfl
  rw [Part.partitionSensed, hat, if_pos hp, hwritten]
  dsimp only
  rw [← Part.sensedAs, hstate]

theorem Part.senseReport_partition (h : p.roleAt pos = some (.partition k)) (reading : Option Reading) :
    p.senseReport pos reading = p.partitionSensed pos k (reading.bind readingWall) := by rw [Part.senseReport, h]

/-- The FLOOR flag of a change inside a floor (R13). -/
theorem Part.partitionSettled_flag (p : Part) (k f : Nat) (h1 : 1 ≤ f) (h4 : f ≤ 4) (hk : (p.floorAt f).holds k = true)
    (hk' : (p.floorAt f).holds (k + 1) = true) (he : p.notices.enables &&& 0x002 ≠ 0) :
    (p.partitionSettled k).notices.flags &&& 0x002 ≠ 0 := by
  have hzones := (Part.SameZones.refl p).evalSuspension
  have henables : p.evalSuspension.notices.enables = p.notices.enables := Part.enables_of_base _ _ p.evalSuspension_base
  have hinside : p.evalSuspension.noteInside k = p.evalSuspension.raise .floor := by
    rw [Part.noteInside, if_pos]
    rw [List.any_eq_true]
    refine ⟨f, ?_, by rw [hzones f k, hzones f (k + 1), hk, hk']; rfl⟩
    simp only [floorNumbers, List.mem_cons, List.not_mem_nil, or_false]; omega
  have hkeeps := (Part.Keeps.refl (p.evalSuspension.raise .floor)).wake (c := .partition)
  rw [Part.partitionSettled, hinside]
  refine hkeeps.flags _ ?_
  refine (and_bit_ne_zero _ .floor).2 ?_
  have hbit := (and_bit_ne_zero p.notices.enables .floor).1 he
  rw [Part.raise, henables]
  simp only [BitVec.getLsbD_or, BitVec.getLsbD_and, hbit, Bool.and_true, Bool.or_eq_true]
  exact .inr (by decide)
end

/-! ### O43 -/

section
variable {s : State} {pos k : Nat} {x : Partition}

/-- The part in which a SENSE of WALL ends, before its owner takes the outcome. -/
theorem State.senseEnded (o : LinkOutcome) (reading : Option Reading) {y : Partition} (hrole : s.part.roleAt pos = some (.partition k))
    (hx : nth s.part.partitions k = some x) (hp : x.health.presence.polled = true)
    (hy : x.sensed s.part.settings.presenceSettle s.part.settings.partitionSettle (reading.bind readingWall) = y) :
    (s.part.lineEnds .wall o).senseReport pos reading =
      if y.state = x.state then (s.part.lineEnds .wall o).sensedAs pos k x y
      else ((s.part.lineEnds .wall o).sensedAs pos k x y).partitionSettled k := by
  rw [Part.senseReport_partition (by rw [Part.lineEnds_roleAt]; exact hrole)]
  refine Part.partitionSensed_as ?_ hp (by rw [Part.lineEnds_settings]; exact hy)
  rw [Part.partitions_of_base _ _ (s.part.lineEnds_base .wall o)]
  exact hx

/-- A SENSE that leaves the partition's state writes its record alone. -/
theorem leaves_sense {c : Instr} {o : LinkOutcome} {reading : Option Reading} {y : Partition}
    (hexec : exec c s = s.become (s.part.settle ((s.part.lineEnds .wall o).senseReport pos reading)))
    (hrole : s.part.roleAt pos = some (.partition k)) (hx : nth s.part.partitions k = some x)
    (hp : x.health.presence.polled = true)
    (hy : x.sensed s.part.settings.presenceSettle s.part.settings.partitionSettle (reading.bind readingWall) = y)
    (hstate : y.state = x.state) :
    Leaves c s { s.part.records with partitions := upd s.part.partitions k (fun _ => y) } := by
  rw [State.senseEnded o reading hrole hx hp hy, if_pos hstate] at hexec
  refine leaves_of_settle c s _ _ hexec ?_ ?_
  · refine (Part.wallMoved_answer _ _ _).trans ?_
    exact s.part.lineEnds_answer .wall o
  · rw [Part.sensedAs_records, Part.lineEnds_records, Part.partitions_of_base _ _ (s.part.lineEnds_base .wall o)]

/-- The consequences of a settled change at the end of the step (R5, R13). -/
theorem ends_settled {c : Instr} {q : Part} (hexec : exec c s = s.become (s.part.settle (q.partitionSettled k)))
    (hanswer : q.answer = s.part.answer) (hfloors : q.floors = s.part.floors)
    (henables : q.notices.enables = s.part.notices.enables) :
    ∃ p, Ends c s p ∧ p.base = q.base ∧
      ((∃ f, 1 ≤ f ∧ f ≤ 4 ∧ (s.part.floorAt f).holds k = true ∧ (s.part.floorAt f).holds (k + 1) = true) →
        s.part.notices.enables &&& 0x002 ≠ 0 → p.notices.flags &&& 0x002 ≠ 0) := by
  have hbase : (s.part.settle (q.partitionSettled k)).base = q.base := by rw [Part.settle_base, Part.partitionSettled_base]
  refine ⟨_, ⟨hexec, (Part.answer_of_base _ _ hbase).trans hanswer⟩, hbase, ?_⟩
  rintro ⟨f, h1, h4, hk, hk'⟩ he
  have hat : ∀ g, q.floorAt g = s.part.floorAt g := fun g => by rw [Part.floorAt, Part.floorAt, hfloors]
  exact (Part.Keeps.refl (q.partitionSettled k)).settle.flags _
    (q.partitionSettled_flag k f h1 h4 (by rw [hat]; exact hk) (by rw [hat]; exact hk') (by rw [henables]; exact he))

/-- A SENSE that settles a new state: the partition is written, its consequences follow (R4, R5, R13). -/
theorem ends_sense {c : Instr} {o : LinkOutcome} {reading : Option Reading} {y : Partition}
    (hexec : exec c s = s.become (s.part.settle ((s.part.lineEnds .wall o).senseReport pos reading)))
    (hrole : s.part.roleAt pos = some (.partition k)) (hx : nth s.part.partitions k = some x)
    (hp : x.health.presence.polled = true)
    (hy : x.sensed s.part.settings.presenceSettle s.part.settings.partitionSettle (reading.bind readingWall) = y)
    (hstate : y.state ≠ x.state) :
    ∃ p, Ends c s p ∧ p.base = { s.part.base with partitions := upd s.part.partitions k (fun _ => y) } ∧
      ((∃ f, 1 ≤ f ∧ f ≤ 4 ∧ (s.part.floorAt f).holds k = true ∧ (s.part.floorAt f).holds (k + 1) = true) →
        s.part.notices.enables &&& 0x002 ≠ 0 → p.notices.flags &&& 0x002 ≠ 0) := by
  rw [State.senseEnded o reading hrole hx hp hy, if_neg hstate] at hexec
  have hbase : ((s.part.lineEnds .wall o).sensedAs pos k x y).base =
      { s.part.base with partitions := upd s.part.partitions k (fun _ => y) } := by
    rw [Part.sensedAs_base, Part.lineEnds_base, Part.partitions_of_base _ _ (s.part.lineEnds_base .wall o)]
  have hrecords : ((s.part.lineEnds .wall o).sensedAs pos k x y).records =
      { s.part.records with partitions := upd s.part.partitions k (fun _ => y) } := by
    rw [Part.sensedAs_records, Part.lineEnds_records, Part.partitions_of_base _ _ (s.part.lineEnds_base .wall o)]
  generalize (s.part.lineEnds .wall o).sensedAs pos k x y = q at hexec hbase hrecords
  obtain ⟨p, hends, hpq, hflag⟩ := ends_settled hexec ((congrArg Base.answer hbase).trans rfl)
    ((congrArg Records.floors hrecords).trans rfl) ((congrArg Records.enables hrecords).trans rfl)
  exact ⟨p, hends, hpq.trans hbase, hflag⟩
end

/-- Settles O43: what a reading makes of the partition's record by its cases; a settled change is followed by R5's consequences,
which touch neither the base nor lower a flag. -/
theorem sensePartitionSettles : Obligations.SensePartitionSettles := by
  intro s pos k x h hr hline hrole hx hp hh
  refine ⟨fun rx reading r h1 h2 h3 hreading => ?_, fun c hc => ?_⟩
  · have hwall : readingWall reading = some r := by rcases hreading with ⟨rfl, rfl⟩ | ⟨rfl, rfl⟩ <;> rfl
    have hexec := State.senseGood (reading := reading) hr hline (.inl rfl) h1 h2 h3 (by
      rw [hrole, fitsRole, hwall]; rfl)
    have hy : (some reading).bind readingWall = some r := hwall
    have hscored : x.scored s.part.settings.presenceSettle true = { x with health := h true } := by rw [hh]; rfl
    refine ⟨fun hsame => ?_, ?_⟩
    · refine leaves_sense (y := { x with health := h true, candidate := none, repeatCount := 0 }) hexec hrole hx hp ?_ rfl
      rw [hy, Partition.sensed_agrees hsame, hscored]
    · rintro seen rfl hne
      refine ⟨fun hlt => ?_, fun hle => ?_⟩
      · refine leaves_sense hexec hrole hx hp ?_ rfl
        rw [hy, Partition.sensed_counts hne hlt, hscored]
      · obtain ⟨p, hends, hbase, hflag⟩ := ends_sense
          (y := { x with health := h true, state := r, candidate := none, repeatCount := 0 }) hexec hrole hx hp
          (by rw [hy, Partition.sensed_settles hne hle, hscored]) hne
        exact ⟨p, hends, congrArg Base.partitions hbase, congrArg Base.clock hbase, congrArg Base.settings hbase,
          congrArg Base.store hbase, congrArg Base.now hbase, congrArg Base.ambient hbase, hflag⟩
  · have hbad : c = .responseTimeout .wall ∨ ∃ rx position reading,
        (c = .sensePartition rx position reading ∨ c = .senseAmbient rx position reading) ∧
        (rx.complete && rx.checkRight && rx.kindRight &&
          (decide (position = pos) && fitsRole (s.part.roleAt pos) reading)) = false := by
      refine hc.imp_right ?_
      rintro ⟨rx, position, reading, rfl, hbad⟩
      refine ⟨rx, position, reading, .inl rfl, ?_⟩
      rw [hrole]
      rcases hbad with ⟨v, rfl⟩ | hne | hrx
      · simp [fitsRole, readingWall]
      · simp [hne]
      · rw [hrx]; rfl
    obtain ⟨o, hexec⟩ := State.senseFailed hr hline hbad
    refine leaves_sense hexec hrole hx hp ?_ ?_
    · refine Eq.trans Partition.sensed_failed ?_
      rw [Partition.scored, ← hh]
    · split <;> rfl

end Sys2Proof.Machine
end

section
/-! Suspension floor by floor: what an evaluation leaves of a part in which some floors are to be suspended, and of one in which
every floor is to resume (R14 to R17). -/

namespace Sys2Proof.Machine

/-- A floor that has taken suspension (R15). -/
def Floor.asSuspended (fl : Floor) : Floor := { fl with suspended := true, openList := [] }

/-- A booking that notes the suspension of its floor (R15). -/
def Booking.asSuspended (b : Booking) : Booking := { b with flags := { b.flags with wasSuspended := true } }

/-- `r` is `q` after the floors told by `done` have taken suspension, none of whose open seats held priority (R15). -/
structure Part.Suspended (q r : Part) (done : Nat → Prop) : Prop where
  rest : r.records = { q.records with seats := r.records.seats, floors := r.floors, slots := r.slots }
  taken : ∀ e, done e → r.floorAt e = (q.floorAt e).asSuspended
  left : ∀ e, ¬ done e → r.floorAt e = q.floorAt e
  closed : ∀ n e, done e → n ∈ (q.floorAt e).openSeats →
    nth r.seats n = (nth q.seats n).map (fun z => { z with guardUntil := some (q.now + Config.guard) })
  kept : ∀ n, (∀ e, done e → n ∉ (q.floorAt e).openSeats) → nth r.seats n = nth q.seats n
  slots : ∀ j, r.slotAt j = q.slotAt j ∨ r.slotAt j = (q.slotAt j).map Booking.asSuspended
  noted : ∀ e d j, done e → (q.floorAt e).booking = some d → q.slotOf d = some j →
    r.slotAt j = (q.slotAt j).map Booking.asSuspended

section
variable {q r : Part} {done : Nat → Prop}

theorem Part.Suspended.none (q : Part) : q.Suspended q (fun _ => False) where
  rest := rfl
  taken _ h := h.elim
  left _ _ := rfl
  closed _ _ h := h.elim
  kept _ _ := rfl
  slots _ := .inl rfl
  noted _ _ _ h := h.elim

theorem Part.Suspended.now (h : q.Suspended r done) : r.now = q.now := (congrArg Records.now h.rest).trans rfl

theorem Part.Suspended.partitions (h : q.Suspended r done) : r.partitions = q.partitions :=
  (congrArg Records.partitions h.rest).trans rfl

/-- A hold is not touched by a suspension of floors without holds (R91). -/
theorem Part.Suspended.priorityHeld (h : q.Suspended r done) (n : Nat) : (r.seatAt n).priorityHeld = (q.seatAt n).priorityHeld := by
  rw [Part.seatAt, Part.seatAt]
  by_cases hn : ∃ e, done e ∧ n ∈ (q.floorAt e).openSeats
  · obtain ⟨e, he, hmem⟩ := hn
    rw [h.closed n e he hmem]
    cases nth q.seats n <;> rfl
  · rw [h.kept n fun e he hmem => hn ⟨e, he, hmem⟩]

/-- A suspended floor is found where it was, with its zones, state and booking. -/
theorem Part.Suspended.shell (h : q.Suspended r done) (e : Nat) :
    (r.floorAt e).state = (q.floorAt e).state ∧ (∀ z, (r.floorAt e).holds z = (q.floorAt e).holds z) ∧
      (r.floorAt e).booking = (q.floorAt e).booking := by
  by_cases he : done e
  · rw [h.taken e he]; exact ⟨rfl, fun _ => rfl, rfl⟩
  · rw [h.left e he]; exact ⟨rfl, fun _ => rfl, rfl⟩

/-- Whether a floor is to be suspended is read from states, zones and partitions (R14). -/
theorem Part.shouldSuspend_congr {p p' : Part} (hparts : p'.partitions = p.partitions)
    (hstate : ∀ e, (p'.floorAt e).state = (p.floorAt e).state) (hholds : ∀ e z, (p'.floorAt e).holds z = (p.floorAt e).holds z)
    (f : Nat) : p'.shouldSuspend f = p.shouldSuspend f := by
  have hzone : ∀ z, p'.floorOfZone z = p.floorOfZone z := fun z => by
    simp only [Part.floorOfZone, hholds]
  have hwall : ∀ k, p'.wallOpen k = p.wallOpen k := fun k => by
    rw [Part.wallOpen, Part.wallOpen, Part.partitionAt, Part.partitionAt, hparts]
  simp only [Part.shouldSuspend, Part.besideBreach, Part.breach, hstate, hholds, hzone, hwall]

theorem Part.Suspended.shouldSuspend (h : q.Suspended r done) (f : Nat) : r.shouldSuspend f = q.shouldSuspend f :=
  Part.shouldSuspend_congr h.partitions (fun e => (h.shell e).1) (fun e => (h.shell e).2.1) f

/-- A slot holds the handle that it held. -/
theorem Part.Suspended.slotOf (h : q.Suspended r done) (d : Nat) : r.slotOf d = q.slotOf d := by
  have hhandle : ∀ j, hasHandle d (r.slotAt j) = hasHandle d (q.slotAt j) := by
    intro j
    rcases h.slots j with hj | hj
    · rw [hj]
    · rw [hj]; cases q.slotAt j <;> rfl
  simp only [Part.slotOf, hhandle]

end

/-! ### One floor takes suspension -/

section
variable {p : Part} {f : Nat} {fl : Floor}

/-- Forced closes of every open seat empty the list (R15). -/
theorem Floor.keeps_openSeats (fl : Floor) : fl.keeps (fun a => !fl.openSeats.contains a) = { fl with openList := [] } := by
  have hnil : fl.openList.filter (fun e => !fl.openSeats.contains e.seat) = [] := by
    rw [List.filter_eq_nil_iff]
    intro e he
    have hmem : e.seat ∈ fl.openSeats := List.mem_map.2 ⟨e, he, rfl⟩
    simp [hmem]
  rw [Floor.keeps, hnil]

/-- The seats closed and the floor suspended, before the booking notes it. -/
theorem Part.suspendedFloor (hfl : nth p.floors f = some fl) (hfree : ∀ n ∈ fl.openSeats, (p.seatAt n).priorityHeld = false) :
    ∃ S, (p.updFloor f (fun x => { x with suspended := true })).forceCloseAll f fl.openSeats =
        { p with floors := upd p.floors f (fun _ => fl.asSuspended), seats := S } ∧
      ∀ n, nth S n = (nth p.seats n).map (fun z =>
        if fl.openSeats.contains n then { z with guardUntil := some (p.now + Config.guard) } else z) := by
  have hmarked : nth (p.updFloor f (fun x => { x with suspended := true })).floors f = some { fl with suspended := true } := by
    rw [Part.updFloor_floors, nth_upd_same, hfl]; rfl
  have h := Part.ForceClosed.forceCloseAll (p := p.updFloor f (fun x => { x with suspended := true })) fl.openSeats hfree _ _
    (Part.ForceClosed.nobody hmarked)
  simp only [Bool.false_or] at h
  have hkeeps : ({ fl with suspended := true } : Floor).keeps (fun a => !fl.openSeats.contains a) = fl.asSuspended :=
    ({ fl with suspended := true } : Floor).keeps_openSeats
  have hrest := h.rest
  rw [hkeeps] at hrest
  refine ⟨_, hrest.trans ?_, h.seats⟩
  have hfloors : upd (p.updFloor f (fun x => { x with suspended := true })).floors f (fun _ => fl.asSuspended) =
      upd p.floors f (fun _ => fl.asSuspended) := by rw [Part.updFloor_floors, upd_upd]
  rw [hfloors]
  rfl

/-- The booking of a suspended floor notes it (R15). -/
theorem Part.takeSuspension_eq (hfl : nth p.floors f = some fl) (hfree : ∀ n ∈ fl.openSeats, (p.seatAt n).priorityHeld = false) :
    ∃ S L, p.takeSuspension f = { p with floors := upd p.floors f (fun _ => fl.asSuspended), seats := S, slots := L } ∧
      (∀ n, nth S n = (nth p.seats n).map (fun z =>
        if fl.openSeats.contains n then { z with guardUntil := some (p.now + Config.guard) } else z)) ∧
      ∀ j, (nth L j).getD none =
        if fl.booking.bind p.slotOf = some j then (p.slotAt j).map Booking.asSuspended else p.slotAt j := by
  obtain ⟨S, hclosed, hS⟩ := Part.suspendedFloor hfl hfree
  rw [Part.takeSuspension, p.floorAt_of_nth f fl hfl]
  dsimp only
  rw [hclosed]
  cases hb : fl.booking with
  | none => exact ⟨S, p.slots, rfl, hS, fun j => (if_neg (by simp)).symm⟩
  | some d =>
    have hslotOf : ({ p with floors := upd p.floors f (fun _ => fl.asSuspended), seats := S } : Part).slotOf d = p.slotOf d := rfl
    cases hk : p.slotOf d with
    | none =>
      refine ⟨S, p.slots, ?_, hS, fun j => ?_⟩
      · dsimp only
        rw [Part.updBooking, hslotOf, hk]
      · rw [if_neg]; rfl
        simp [hk]
    | some k =>
      obtain ⟨-, -, b, hslot, -⟩ := p.slotOf_some d k hk
      refine ⟨S, upd p.slots k (fun _ => some b.asSuspended), ?_, hS, fun j => ?_⟩
      · exact Part.updBooking_eq _ d k _ b (hslotOf.trans hk) hslot
      · by_cases hj : k = j
        · subst hj
          rw [nth_upd_same, p.slotAt_some k b hslot, if_pos (by simp [hk]), hslot]; rfl
        · rw [nth_upd_ne _ _ _ _ hj, if_neg (by simp [hk, hj])]; rfl

end

/-! ### The evaluation of every floor -/

section
variable {q r : Part} {done : Nat → Prop}

/-- One more floor takes suspension. -/
theorem Part.Suspended.take (h : q.Suspended r done) (f : Nat) (hf : ¬ done f) (hfl : nth r.floors f = some (r.floorAt f))
    (hfree : ∀ n ∈ (q.floorAt f).openSeats, (q.seatAt n).priorityHeld = false) :
    q.Suspended (r.takeSuspension f) (fun e => done e ∨ e = f) := by
  have hsame := h.left f hf
  rw [hsame] at hfl
  obtain ⟨S, L, htake, hS, hL⟩ := Part.takeSuspension_eq hfl fun n hn => (h.priorityHeld n).trans (hfree n hn)
  have hslotAt : ∀ j, (r.takeSuspension f).slotAt j = (nth L j).getD Option.none := fun j => by rw [htake]; rfl
  have hseats : (r.takeSuspension f).seats = S := by rw [htake]
  have hfloors : ∀ e, (r.takeSuspension f).floorAt e = if e = f then (q.floorAt f).asSuspended else r.floorAt e := by
    intro e
    rw [htake]
    by_cases he : e = f
    · subst he
      rw [if_pos rfl]
      change (nth (upd r.floors e fun _ => (q.floorAt e).asSuspended) e).getD startFloor = _
      rw [nth_upd_same, hfl]; rfl
    · rw [if_neg he]
      change (nth (upd r.floors f fun _ => (q.floorAt f).asSuspended) e).getD startFloor = _
      rw [nth_upd_ne _ _ _ _ (Ne.symm he)]; rfl
  have hnow := h.now
  refine ⟨?_, ?_, ?_, ?_, ?_, ?_, ?_⟩
  · rw [htake]
    exact congrArg (fun x : Records => { x with
      seats := S.map Seat.quiet, floors := upd r.floors f (fun _ => (q.floorAt f).asSuspended), slots := L }) h.rest
  · intro e he
    rw [hfloors e]
    by_cases hef : e = f
    · rw [if_pos hef, hef]
    · rw [if_neg hef, h.taken e (he.resolve_right hef)]
  · intro e he
    rw [hfloors e, if_neg fun hef => he (.inr hef), h.left e fun hd => he (.inl hd)]
  · intro n e he hn
    rw [hseats, hS n, hnow]
    rcases he with he | rfl
    · rw [h.closed n e he hn, Option.map_map]
      refine congrArg (fun g : Seat → Seat => (nth q.seats n).map g) (funext fun z => ?_)
      simp only [Function.comp_apply]
      split <;> rfl
    · have hcontains : (q.floorAt e).openSeats.contains n = true := List.contains_iff_mem.2 hn
      simp only [hcontains, if_true]
      by_cases hd : ∃ e', done e' ∧ n ∈ (q.floorAt e').openSeats
      · obtain ⟨e', he', hn'⟩ := hd
        rw [h.closed n e' he' hn', Option.map_map]; rfl
      · rw [h.kept n fun e' he' hn' => hd ⟨e', he', hn'⟩]
  · intro n hn
    have hcontains : (q.floorAt f).openSeats.contains n = false := by
      rw [Bool.eq_false_iff, Ne, List.contains_iff_mem]; exact hn f (.inr rfl)
    rw [hseats, hS n, h.kept n fun e he => hn e (.inl he)]
    simp only [hcontains, Bool.false_eq_true, if_false, Option.map_id']
  · intro j
    rw [hslotAt j, hL j]
    split
    · rcases h.slots j with hj | hj
      · rw [hj]; exact .inr rfl
      · rw [hj, Option.map_map]; exact .inr rfl
    · exact h.slots j
  · intro e d j he hd hj
    rw [hslotAt j, hL j]
    rcases he with he | rfl
    · rw [h.noted e d j he hd hj, Option.map_map]
      split <;> rfl
    · rw [hd, Option.bind_some, if_pos ((h.slotOf d).trans hj)]
      rcases h.slots j with hs | hs
      · rw [hs]
      · rw [hs, Option.map_map]; rfl

/-- The floors of a list evaluated one by one, where none is suspended yet (R14). -/
theorem Part.Suspended.fold (hgo : ∀ e, (q.floorAt e).suspended = false) (l : List Nat) :
    (∀ e ∈ l, q.shouldSuspend e = true → ∀ n ∈ (q.floorAt e).openSeats, (q.seatAt n).priorityHeld = false) →
    ∀ (r : Part) (done : Nat → Prop), q.Suspended r done → l.Nodup → (∀ e ∈ l, ¬ done e) →
      q.Suspended (l.foldl Part.evalSuspensionOf r) (fun e => done e ∨ e ∈ l ∧ q.shouldSuspend e = true) := by
  induction l with
  | nil =>
    intro _ r done h _ _
    have hdone : (fun e => done e ∨ e ∈ [] ∧ q.shouldSuspend e = true) = done := by funext e; simp
    rw [hdone]; exact h
  | cons f l ih =>
    intro hfree r done h hnodup hnew
    replace ih := ih fun e he => hfree e (List.mem_cons_of_mem _ he)
    obtain ⟨hfl, hl⟩ := List.nodup_cons.1 hnodup
    have hf := hnew f (List.mem_cons_self ..)
    have hsuspended : (r.floorAt f).suspended = false := by rw [h.left f hf, hgo f]
    by_cases hs : q.shouldSuspend f = true
    · have hstep : r.evalSuspensionOf f = r.takeSuspension f := by
        rw [Part.evalSuspensionOf, h.shouldSuspend, hs, hsuspended]; rfl
      have hlive : (r.floorAt f).state = .live := by
        rw [← h.shouldSuspend f, Part.shouldSuspend, Bool.and_eq_true] at hs
        exact of_decide_eq_true hs.1
      have hnext := ih _ _ (h.take f hf (r.nth_of_live f hlive) (hfree f (List.mem_cons_self ..) hs)) hl fun e he hd => by
        rcases hd with hd | rfl
        · exact hnew e (List.mem_cons_of_mem _ he) hd
        · exact hfl he
      have hdone : (fun e => done e ∨ e ∈ f :: l ∧ q.shouldSuspend e = true) =
          (fun e => (done e ∨ e = f) ∨ e ∈ l ∧ q.shouldSuspend e = true) := by
        funext e
        rw [List.mem_cons, eq_iff_iff]
        constructor
        · rintro (h | ⟨rfl | h, h'⟩)
          · exact .inl (.inl h)
          · exact .inl (.inr rfl)
          · exact .inr ⟨h, h'⟩
        · rintro ((h | rfl) | ⟨h, h'⟩)
          · exact .inl h
          · exact .inr ⟨.inl rfl, hs⟩
          · exact .inr ⟨.inr h, h'⟩
      rw [List.foldl_cons, hstep, hdone]
      exact hnext
    · have hstep : r.evalSuspensionOf f = r := by
        rw [Part.evalSuspensionOf, h.shouldSuspend, Bool.eq_false_iff.2 hs, hsuspended]; rfl
      have hnext := ih _ _ h hl fun e he => hnew e (List.mem_cons_of_mem _ he)
      have hdone : (fun e => done e ∨ e ∈ f :: l ∧ q.shouldSuspend e = true) =
          (fun e => done e ∨ e ∈ l ∧ q.shouldSuspend e = true) := by
        funext e
        rw [List.mem_cons, eq_iff_iff]
        refine or_congr_right (and_congr_left fun hse => or_iff_right ?_)
        rintro rfl
        exact hs hse
      rw [List.foldl_cons, hstep, hdone]
      exact hnext

/-- An evaluation where no floor is suspended yet: those that hold a zone beside a breach are, and no other (R14, R15). -/
theorem Part.evalSuspension_suspends (hgo : ∀ e, (q.floorAt e).suspended = false)
    (hfree : ∀ e ∈ floorNumbers, q.shouldSuspend e = true → ∀ n ∈ (q.floorAt e).openSeats, (q.seatAt n).priorityHeld = false) :
    q.Suspended q.evalSuspension (fun e => e ∈ floorNumbers ∧ q.shouldSuspend e = true) := by
  have h := Part.Suspended.fold hgo floorNumbers hfree q _ (Part.Suspended.none q) (by decide) (fun _ _ => id)
  simp only [false_or] at h
  exact h
end

/-! ### Every floor resumes -/

/-- The floors written by an evaluation with no breach (R17). -/
theorem Part.evalSuspensionOf_calm (p : Part) (f : Nat) (hwall : ∀ k, p.wallOpen k = false)
    (hidle : (p.floorAt f).suspended = true → (p.floorAt f).par.mode = .moderated ∨ (p.queueAt f).entries = []) :
    p.evalSuspensionOf f = { p with floors := upd p.floors f (fun fl => { fl with suspended := false }) } := by
  have hshould : p.shouldSuspend f = false := by
    simp [Part.shouldSuspend, Part.besideBreach, Part.breach, hwall]
  cases hs : (p.floorAt f).suspended with
  | true =>
    rw [Part.evalSuspensionOf, hshould, hs]
    have hready : (p.updFloor f (fun fl => { fl with suspended := false })).grantReady f = false := by
      refine Part.grantReady_false _ f ((hidle hs).imp_left fun hmode => ?_)
      rw [Part.floorAt] at hs hmode ⊢
      rw [Part.updFloor_floors, nth_upd_same]
      cases hfl : nth p.floors f with
      | none => rw [hfl] at hs; exact absurd hs (by decide)
      | some fl => rw [hfl] at hmode; exact hmode
    exact Part.autoGrant_idle _ f hready
  | false =>
    rw [Part.evalSuspensionOf, hshould, hs]
    have hself : upd p.floors f (fun fl => { fl with suspended := false }) = p.floors := by
      rw [Part.floorAt] at hs
      cases hfl : nth p.floors f with
      | none => exact upd_of_none _ _ _ hfl
      | some fl =>
        rw [hfl] at hs
        have hsame : ({ fl with suspended := false } : Floor) = fl := by
          have hs' : fl.suspended = false := hs
          rw [← hs']
        rw [upd_congr _ _ _ (fun _ => fl) fl hfl hsame, upd_self _ _ _ hfl]
    rw [hself]
    rfl

/-- An evaluation with no breach and nothing to grant: no floor is suspended after it (R17). -/
theorem Part.evalSuspension_resumes (p : Part) (hwall : ∀ k, p.wallOpen k = false) (hlength : p.floors.length = 4)
    (hidle : ∀ f, (p.floorAt f).suspended = true → (p.floorAt f).par.mode = .moderated ∨ (p.queueAt f).entries = []) :
    p.evalSuspension = { p with floors := p.floors.map (fun fl => { fl with suspended := false }) } := by
  have hfold : ∀ (l : List Nat) (F : List Floor),
      (∀ f, (({ p with floors := F } : Part).floorAt f).suspended = true →
        (({ p with floors := F } : Part).floorAt f).par.mode = .moderated ∨ (p.queueAt f).entries = []) →
      l.foldl Part.evalSuspensionOf { p with floors := F } =
        { p with floors := l.foldl (fun F f => upd F f (fun fl => { fl with suspended := false })) F } := by
    intro l
    induction l with
    | nil => intro F _; rfl
    | cons f l ih =>
      intro F hF
      rw [List.foldl_cons, List.foldl_cons, Part.evalSuspensionOf_calm ({ p with floors := F } : Part) f hwall (hF f)]
      refine ih _ fun e he => ?_
      by_cases hef : e = f
      · subst hef
        rw [Part.floorAt, nth_upd_same] at he
        cases hfl : nth F e with
        | none => rw [hfl] at he; exact absurd he (by decide)
        | some fl => rw [hfl] at he; exact absurd he Bool.false_ne_true
      · have hsame : ({ p with floors := upd F f (fun fl => { fl with suspended := false }) } : Part).floorAt e =
            ({ p with floors := F } : Part).floorAt e := by
          rw [Part.floorAt, nth_upd_ne _ _ _ _ (Ne.symm hef)]; rfl
        rw [hsame] at he ⊢
        exact hF e he
  refine (hfold floorNumbers p.floors hidle).trans ?_
  refine congrArg (fun F => ({ p with floors := F } : Part)) ?_
  obtain ⟨a, b, c, d, habcd⟩ : ∃ a b c d, p.floors = [a, b, c, d] := List.length_eq_four.1 hlength
  rw [habcd]
  rfl

end Sys2Proof.Machine
end

section
/-! Suspension and resumption at a settled reading of a partition (O44). -/

namespace Sys2Proof.Machine

/-! ### The breach -/

theorem Part.floorOfZone_some {p : Part} {z f : Nat} (h : p.floorOfZone z = some f) :
    f ∈ floorNumbers ∧ (p.floorAt f).holds z = true :=
  ⟨List.mem_of_find?_eq_some h, List.find?_some (p := fun f => (p.floorAt f).holds z) h⟩

theorem mem_floorNumbers (f : Nat) : f ∈ floorNumbers ↔ 1 ≤ f ∧ f ≤ 4 := by
  simp only [floorNumbers, List.mem_cons, List.not_mem_nil, or_false]; omega

section
variable {q : Part} {k f g : Nat}

/-- Where one partition alone is open, with two floors on its sides, those beside it hold a zone next to it (R14). -/
theorem Part.besideBreach_iff (h1 : 1 ≤ k) (h3 : k ≤ 3) (hk : q.wallOpen k = true) (hothers : ∀ j, j ≠ k → q.wallOpen j = false)
    (hf : q.floorOfZone k = some f) (hg : q.floorOfZone (k + 1) = some g) (hne : f ≠ g) (e : Nat) :
    q.besideBreach e = true ↔ (q.floorAt e).holds k = true ∨ (q.floorAt e).holds (k + 1) = true := by
  have hbreach : q.breach k = true := by
    rw [Part.breach, hk, hf, hg]; simpa using hne
  have hno : ∀ j, j ≠ k → q.breach j = false := fun j hj => by rw [Part.breach, hothers j hj]; rfl
  have hmem : k ∈ [1, 2, 3] := by simp only [List.mem_cons, List.not_mem_nil, or_false]; omega
  rw [Part.besideBreach, List.any_eq_true]
  constructor
  · rintro ⟨j, -, hj⟩
    by_cases hjk : j = k
    · subst hjk
      rw [hbreach, Bool.true_and, Bool.or_eq_true] at hj
      exact hj
    · rw [hno j hjk] at hj; exact absurd hj Bool.false_ne_true
  · intro he
    exact ⟨k, hmem, by rw [hbreach, Bool.true_and, Bool.or_eq_true]; exact he⟩

/-- The floors to suspend are the two beside the open partition (R14). -/
theorem Part.shouldSuspend_pair (h1 : 1 ≤ k) (h3 : k ≤ 3) (hk : q.wallOpen k = true) (hothers : ∀ j, j ≠ k → q.wallOpen j = false)
    (hf : q.floorOfZone k = some f) (hg : q.floorOfZone (k + 1) = some g) (hne : f ≠ g)
    (hlf : (q.floorAt f).state = .live) (hlg : (q.floorAt g).state = .live)
    (hrest : ∀ e, 1 ≤ e → e ≤ 4 → e ≠ f → e ≠ g → (q.floorAt e).holds k = false ∧ (q.floorAt e).holds (k + 1) = false) (e : Nat) :
    e ∈ floorNumbers ∧ q.shouldSuspend e = true ↔ e = f ∨ e = g := by
  obtain ⟨hmemf, hholdsf⟩ := Part.floorOfZone_some hf
  obtain ⟨hmemg, hholdsg⟩ := Part.floorOfZone_some hg
  have hbeside := Part.besideBreach_iff h1 h3 hk hothers hf hg hne
  constructor
  · rintro ⟨hmem, hs⟩
    rw [Part.shouldSuspend, Bool.and_eq_true] at hs
    by_contra hother
    obtain ⟨hef, heg⟩ := not_or.1 hother
    obtain ⟨ha, hb⟩ := (mem_floorNumbers e).1 hmem
    obtain ⟨hno, hno'⟩ := hrest e ha hb hef heg
    rcases (hbeside e).1 hs.2 with h | h
    · rw [hno] at h; exact absurd h Bool.false_ne_true
    · rw [hno'] at h; exact absurd h Bool.false_ne_true
  · rintro (rfl | rfl)
    · exact ⟨hmemf, by rw [Part.shouldSuspend, hlf, (hbeside e).2 (.inl hholdsf)]; rfl⟩
    · exact ⟨hmemg, by rw [Part.shouldSuspend, hlg, (hbeside e).2 (.inr hholdsg)]; rfl⟩
end

/-! ### A settled change at an AWAKE table -/

theorem Part.noteInside_records (p : Part) (k : Nat) : (p.noteInside k).records = p.records := by
  unfold Part.noteInside; split <;> rfl

theorem Part.noteInside_tableState (p : Part) (k : Nat) : (p.noteInside k).control.tableState = p.control.tableState := by
  unfold Part.noteInside; split <;> rfl

/-- At an AWAKE table a settled change evaluates the suspension and tells, and wakes nothing (R5, R172). -/
theorem Part.partitionSettled_records (p : Part) (k : Nat) (h : p.control.tableState = .awake) :
    (p.partitionSettled k).records = p.evalSuspension.records := by
  have hstate : (p.evalSuspension.noteInside k).control.tableState = .awake := by
    exact (Part.noteInside_tableState _ k).trans ((Part.tableState_of_side _ _ p.evalSuspension_side).trans h)
  rw [Part.partitionSettled, Part.wake_awake _ _ hstate, Part.noteInside_records]

/-- The part in which a settled change is told: the partition written, everything else as it was. -/
structure State.Settling (s : State) (k : Nat) (y : Partition) (q : Part) : Prop where
  records : q.records = { s.part.records with partitions := upd s.part.partitions k (fun _ => y) }
  answer : q.answer = s.part.answer

section
variable {s : State} {pos k : Nat} {x y : Partition} {q : Part}

theorem State.Settling.floorAt (h : s.Settling k y q) (e : Nat) : q.floorAt e = s.part.floorAt e := by
  have hfloors : q.floors = s.part.floors := (congrArg Records.floors h.records).trans rfl
  rw [Part.floorAt, Part.floorAt, hfloors]

theorem State.Settling.queueAt (h : s.Settling k y q) (e : Nat) : q.queueAt e = s.part.queueAt e := by
  have hqueues : q.queues = s.part.queues := (congrArg Records.queues h.records).trans rfl
  rw [Part.queueAt, Part.queueAt, hqueues]

theorem State.Settling.slots (h : s.Settling k y q) : q.slots = s.part.slots := (congrArg Records.slots h.records).trans rfl

theorem State.Settling.now (h : s.Settling k y q) : q.now = s.part.now := (congrArg Records.now h.records).trans rfl

theorem State.Settling.seats (h : s.Settling k y q) : q.records.seats = s.part.records.seats :=
  (congrArg Records.seats h.records).trans rfl

theorem State.Settling.awake (h : s.Settling k y q) (ha : s.part.control.tableState = .awake) : q.control.tableState = .awake :=
  (congrArg (fun r : Records => r.control.tableState) h.records).trans ha

theorem State.Settling.floorOfZone (h : s.Settling k y q) (z : Nat) : q.floorOfZone z = s.part.floorOfZone z := by
  simp only [Part.floorOfZone, h.floorAt]

theorem State.Settling.wallOpen (h : s.Settling k y q) (hx : nth s.part.partitions k = some x) (j : Nat) :
    q.wallOpen j = if j = k then decide (y.state = .opened) else s.part.wallOpen j := by
  have hpartitions : q.partitions = upd s.part.partitions k (fun _ => y) := (congrArg Records.partitions h.records).trans rfl
  rw [Part.wallOpen, Part.partitionAt, hpartitions]
  split
  · next hj => rw [hj, nth_upd_same, hx]; rfl
  · next hj => rw [nth_upd_ne _ _ _ _ (Ne.symm hj)]; rfl

/-- A reading that settles a new state, from the row of its answer to the change's consequences (R4, R5). -/
theorem State.settles {c : Instr} {reading : Reading} {r : WallState} {rx : Reception} {h : Health} (hr : s.runs)
    (hline : s.part.wall.line = some { exchange := .sense pos, orphan := false })
    (hrole : s.part.roleAt pos = some (.partition k)) (hx : nth s.part.partitions k = some x)
    (hp : x.health.presence.polled = true) (h1 : rx.complete = true) (h2 : rx.checkRight = true) (h3 : rx.kindRight = true)
    (hh : h = (x.health.score true).move true s.part.settings.presenceSettle) (hwall : readingWall reading = some r)
    (hc : c = .sensePartition rx pos reading) (hne : r ≠ x.state)
    (hn : s.part.settings.partitionSettle ≤ if x.candidate = some r then x.repeatCount + 1 else 1) :
    ∃ q, s.Settling k { x with health := h, state := r, candidate := none, repeatCount := 0 } q ∧
      exec c s = s.become (s.part.settle (q.partitionSettled k)) := by
  have hexec := State.senseGood (reading := reading) hr hline (.inl hc) h1 h2 h3 (by rw [hrole, fitsRole, hwall]; rfl)
  have hy : x.sensed s.part.settings.presenceSettle s.part.settings.partitionSettle ((some reading).bind readingWall) =
      { x with health := h, state := r, candidate := none, repeatCount := 0 } := by
    rw [Option.bind_some, hwall, Partition.sensed_settles hne hn, Partition.scored, ← hh]
  rw [State.senseEnded .good (some reading) hrole hx hp hy, if_neg hne] at hexec
  refine ⟨_, ⟨?_, ?_⟩, hexec⟩
  · rw [Part.sensedAs_records, Part.lineEnds_records, Part.partitions_of_base _ _ (s.part.lineEnds_base .wall .good)]
  · exact (Part.wallMoved_answer _ _ _).trans (s.part.lineEnds_answer .wall .good)

theorem State.Settling.ends {c : Instr} (h : s.Settling k y q) (hexec : exec c s = s.become (s.part.settle (q.partitionSettled k))) :
    Ends c s (s.part.settle (q.partitionSettled k)) := by
  have hbase : (s.part.settle (q.partitionSettled k)).base = q.base := by rw [Part.settle_base, Part.partitionSettled_base]
  exact ⟨hexec, (Part.answer_of_base _ _ hbase).trans h.answer⟩

theorem State.Settling.endRecords (h : s.Settling k y q) (ha : s.part.control.tableState = .awake) :
    (s.part.settle (q.partitionSettled k)).records = q.evalSuspension.records := by
  rw [Part.settle_records, q.partitionSettled_records k (h.awake ha)]
end

theorem Part.records_resumed (q : Part) (l : List Floor) :
    ({ q with floors := l } : Part).records = { q.records with floors := l } := rfl

/-! ### O44 -/

section
variable {s : State} {k f g : Nat} {x y : Partition} {q p r : Part}

/-- Both floors beside the opened partition take suspension, and no other (R14, R15). -/
theorem State.Settling.suspends (h : s.Settling k y q) (h1 : 1 ≤ k) (h3 : k ≤ 3) (hx : nth s.part.partitions k = some x)
    (hy : y.state = .opened) (hothers : ∀ j, j ≠ k → s.part.wallOpen j = false)
    (hgo : ∀ e, (s.part.floorAt e).suspended = false) (hf : s.part.floorOfZone k = some f)
    (hg : s.part.floorOfZone (k + 1) = some g) (hne : f ≠ g) (hlf : (s.part.floorAt f).state = .live)
    (hlg : (s.part.floorAt g).state = .live)
    (hrest : ∀ e, 1 ≤ e → e ≤ 4 → e ≠ f → e ≠ g → (s.part.floorAt e).holds k = false ∧ (s.part.floorAt e).holds (k + 1) = false)
    (hfree : ∀ a ∈ (s.part.floorAt f).openList ++ (s.part.floorAt g).openList, (s.part.seatAt a.seat).priorityHeld = false) :
    q.Suspended q.evalSuspension (fun e => e = f ∨ e = g) := by
  have hpair := fun e => Part.shouldSuspend_pair (q := q) h1 h3 (by rw [h.wallOpen hx, if_pos rfl, hy]; rfl)
    (fun j hj => by rw [h.wallOpen hx, if_neg hj]; exact hothers j hj) ((h.floorOfZone k).trans hf)
    ((h.floorOfZone (k + 1)).trans hg) hne (by rw [h.floorAt]; exact hlf) (by rw [h.floorAt]; exact hlg)
    (fun e ha hb hef heg => by rw [h.floorAt]; exact hrest e ha hb hef heg) e
  have hheld : ∀ n, (q.seatAt n).priorityHeld = (s.part.seatAt n).priorityHeld := fun n => by
    have hquiet := getD_of_map Seat.quiet _ _ startSeat (nth_of_map Seat.quiet q.seats s.part.seats h.seats n)
    exact Seat.of_quiet Seat.priorityHeld (fun _ => rfl) hquiet
  have hsuspended := q.evalSuspension_suspends (fun e => by rw [h.floorAt]; exact hgo e) fun e he hs n hn => by
    rw [hheld]
    rw [h.floorAt] at hn
    obtain ⟨a, ha, rfl⟩ := List.mem_map.1 hn
    refine hfree a (List.mem_append.2 ?_)
    rcases (hpair e).1 ⟨he, hs⟩ with rfl | rfl
    · exact .inl ha
    · exact .inr ha
  have hdone : (fun e => e ∈ floorNumbers ∧ q.shouldSuspend e = true) = (fun e => e = f ∨ e = g) :=
    funext fun e => propext (hpair e)
  rwa [hdone] at hsuspended

/-- What a part with the records of the suspended one says of floors, bookings and seats (R15). -/
theorem State.Settling.suspended (h : s.Settling k y q) (hsus : q.Suspended r (fun e => e = f ∨ e = g))
    (hp : p.records = r.records) :
    (∀ e, e = f ∨ e = g → p.floorAt e = { s.part.floorAt e with suspended := true, openList := [] } ∧
      (∀ d j b, (s.part.floorAt e).booking = some d → s.part.slotOf d = some j → s.part.slotAt j = some b →
        p.slotAt j = some { b with flags := { b.flags with wasSuspended := true } })) ∧
    (∀ e, e ≠ f → e ≠ g → p.floorAt e = s.part.floorAt e) ∧
    (∀ n z, nth s.part.seats n = some z → (p.seatAt n).quiet =
      (if n ∈ ((s.part.floorAt f).openList ++ (s.part.floorAt g).openList).map (fun a => a.seat) then
        { z with guardUntil := some (s.part.now + Config.guard) } else z).quiet) := by
  have hfloorAt : ∀ e, p.floorAt e = r.floorAt e := fun e => by
    rw [Part.floorAt, Part.floorAt, show p.floors = _ from congrArg Records.floors hp]; rfl
  have hslotAt : ∀ j, p.slotAt j = r.slotAt j := fun j => by
    rw [Part.slotAt, Part.slotAt, show p.slots = _ from congrArg Records.slots hp]; rfl
  refine ⟨fun e he => ⟨?_, fun d j b hd hj hb => ?_⟩, fun e hef heg => ?_, fun n z hz => ?_⟩
  · rw [hfloorAt, hsus.taken e he, h.floorAt]; rfl
  · have hqj : q.slotOf d = some j := (q.slotOf_of_slots s.part h.slots d).trans hj
    have hqb : q.slotAt j = some b := by rw [Part.slotAt, h.slots]; exact hb
    rw [hslotAt, hsus.noted e d j he (by rw [h.floorAt]; exact hd) hqj, hqb]; rfl
  · rw [hfloorAt, hsus.left e (not_or.2 ⟨hef, heg⟩), h.floorAt]
  · obtain ⟨z', hz', hquiet⟩ := Part.nth_seat_of_quiet h.seats n z hz
    rw [Part.seatAt_quiet_of_records hp, Part.seatAt]
    have hmem : n ∈ ((s.part.floorAt f).openList ++ (s.part.floorAt g).openList).map (fun a => a.seat) ↔
        n ∈ (q.floorAt f).openSeats ∨ n ∈ (q.floorAt g).openSeats := by
      rw [List.map_append, List.mem_append, h.floorAt, h.floorAt]; rfl
    split
    · next hn =>
      have hclosed : nth r.seats n =
          (nth q.seats n).map (fun z => { z with guardUntil := some (q.now + Config.guard) }) := by
        rcases hmem.1 hn with hn | hn
        · exact hsus.closed n f (.inl rfl) hn
        · exact hsus.closed n g (.inr rfl) hn
      rw [hclosed, hz', h.now]
      exact Seat.of_quiet (fun a => ({ a with guardUntil := some (s.part.now + Config.guard) } : Seat).quiet) (fun _ => rfl) hquiet
    · next hn =>
      have hkept : nth r.seats n = nth q.seats n := hsus.kept n fun e he hne => hn (hmem.2 (by
        rcases he with rfl | rfl
        · exact .inl hne
        · exact .inr hne))
      rw [hkept, hz']
      exact hquiet
end

/-- Settles O44: the settled reading is followed by an evaluation of suspension, in which the two floors beside the opened
partition are suspended, or every floor resumes. -/
theorem partitionsSuspendAndResumeFloors : Obligations.PartitionsSuspendAndResumeFloors := by
  intro s pos k x rx h hr ha hline hrole h1k hk3 hx hp h1 h2 h3 hh hothers
  refine ⟨fun f g hstate hn hgo hf hg hne hlf hlg hrest hfree => ?_, fun hstate hn hlength hidle => ?_⟩
  · obtain ⟨q, hq, hexec⟩ := State.settles hr hline hrole hx hp h1 h2 h3 hh (reading := .wallOpen) (r := .opened) rfl rfl
      (by rw [hstate]; decide) hn
    have hsus := hq.suspends h1k hk3 hx rfl hothers hgo hf hg hne hlf hlg hrest hfree
    have hrecords := hq.endRecords ha
    generalize q.evalSuspension = r at hsus hrecords
    obtain ⟨hpair, hother, hseats⟩ := hq.suspended hsus hrecords
    refine ⟨_, hq.ends hexec, hpair, hother, hseats, ?_⟩
    generalize s.part.settle (q.partitionSettled k) = p at hrecords
    have hrest' := hsus.rest
    rw [← hrecords, hq.records] at hrest'
    have hfloors : p.floors = r.floors := congrArg Records.floors hrecords
    have hslots : p.slots = r.slots := congrArg Records.slots hrecords
    rw [hfloors, hslots]
    exact hrest'
  · obtain ⟨q, hq, hexec⟩ := State.settles hr hline hrole hx hp h1 h2 h3 hh (reading := .wallClosed) (r := .closed) rfl rfl
      (by rw [hstate]; decide) hn
    have hwall : ∀ j, q.wallOpen j = false := fun j => by
      rw [hq.wallOpen hx]
      split
      · rfl
      · next hj => exact hothers j hj
    have hfloors : q.floors = s.part.floors := (congrArg Records.floors hq.records).trans rfl
    have hresumes := q.evalSuspension_resumes hwall (by rw [hfloors]; exact hlength) fun e he => by
      rw [hq.floorAt] at he ⊢
      rw [hq.queueAt]
      exact hidle e he
    refine ⟨_, (hq.ends hexec).1, (hq.ends hexec).2, ?_⟩
    rw [hq.endRecords ha, hresumes]
    rw [Part.records_resumed, hq.records, hfloors]

end Sys2Proof.Machine
end

section
/-! Sleep and the wake line (O52). -/

namespace Sys2Proof.Machine

/-! ### What the end of a step leaves of an engine -/

/-- The end of a step serves an exchange or begins the walk that was requested. -/
theorem Part.settle_still_or_walked (old p : Part) (seg : Segment) :
    ((old.settle p).engine seg).still = (p.engine seg).still ∨ (old.settle p).engine seg = (p.engine seg).walked := by
  by_cases hw : (p.engine seg).walkRequested = true
  · by_cases hl : (p.engine seg).line = none
    · exact .inr (Part.settle_engine_walks old p seg hw hl)
    · exact .inl (Part.settle_engine_still old p seg (.inr hl))
  · exact .inl (Part.settle_engine_still old p seg (.inl (Bool.eq_false_iff.2 hw)))

theorem Part.settle_scope (old p : Part) (seg : Segment) : ((old.settle p).engine seg).scope = (p.engine seg).scope := by
  rcases Part.settle_still_or_walked old p seg with h | h
  · exact Engine.scope_of_still h
  · exact (congrArg Engine.scope h).trans rfl

theorem Part.settle_wakeLine (old p : Part) (seg : Segment) :
    ((old.settle p).engine seg).wakeLine = (p.engine seg).wakeLine := by
  rcases Part.settle_still_or_walked old p seg with h | h
  · exact Engine.wakeLine_of_still h
  · exact (congrArg Engine.wakeLine h).trans rfl

theorem Part.settle_state (old p : Part) (seg : Segment) (h : (p.engine seg).walkRequested = false) :
    ((old.settle p).engine seg).state = (p.engine seg).state :=
  Engine.state_of_still (Part.settle_engine_still old p seg (.inl h))

theorem Part.engine_wall (p : Part) : p.engine .wall = p.wall := rfl

theorem Part.settle_wall_state (old p : Part) (h : p.wall.walkRequested = false) :
    (old.settle p).wall.state = p.wall.state := by
  have hstate := Part.settle_state old p .wall h
  rwa [Part.engine_wall, Part.engine_wall] at hstate

theorem Part.settle_wall_scope (old p : Part) : (old.settle p).wall.scope = p.wall.scope := by
  have hscope := Part.settle_scope old p .wall
  rwa [Part.engine_wall, Part.engine_wall] at hscope

/-- An event ends at the end of its owner's step. -/
theorem ends_stepped {c : Instr} {s : State} {g : Part → Part} {q : Part} (hx : exec c s = s.become (s.part.event g)) (hr : s.runs)
    (hg : g s.part = q) (ha : q.answer = s.part.answer) : Ends c s (s.part.settle q) := by
  have hevent : s.part.event g = s.part.settle q := by
    have hp : s.part.power = .running := hr
    rw [Part.event, if_pos hp, hg]
  exact ⟨hx.trans (congrArg s.become hevent), (Part.settle_answer _ _).trans ha⟩

/-! ### SLEEP -/

theorem exec_sleep (seg : Segment) (s : State) : exec (.sleep seg) s = s.become (s.part.event (fun p => p.takeSleep seg)) := rfl

theorem SleepRequests.eq_clear {r rest : SleepRequests} {seg : Segment} (h : rest.of seg = false)
    (hothers : ∀ other, other ≠ seg → rest.of other = r.of other) : rest = r.clear seg := by
  have hl := hothers .left
  have hr := hothers .right
  have hw := hothers .wall
  obtain ⟨a, b, c⟩ := rest
  cases seg <;> simp_all [SleepRequests.of, SleepRequests.clear]

section
variable {p : Part} {seg : Segment}

theorem Part.takeSleep_notAsked (h : p.control.sleep.of seg = false) : p.takeSleep seg = p := by
  simp [Part.takeSleep, Part.maySleep, h]

theorem Part.sendSleep_control (p : Part) (seg : Segment) : (p.sendSleep seg).control = p.control := by cases seg <;> rfl

theorem Part.sendSleep_answer (p : Part) (seg : Segment) : (p.sendSleep seg).answer = p.answer := by cases seg <;> rfl

theorem Part.sendSleep_seat (p : Part) (h : seg ≠ .wall) : (p.sendSleep seg).engine seg = (p.engine seg).toIdle := by
  cases seg with
  | left => rfl
  | right => rfl
  | wall => exact absurd rfl h

theorem Engine.toIdle_not_running (e : Engine) : e.toIdle.state ≠ .running := nofun

/-- The part in which a segment has sent SLEEP (R165, R171). -/
def Part.sleeps (p : Part) (seg : Segment) : Part := { p.sendSleep seg with control := p.control.slept seg }

theorem Part.engine_withControl (p : Part) (c : PowerControl) (seg : Segment) :
    ({ p with control := c } : Part).engine seg = p.engine seg := by cases seg <;> rfl

theorem Part.sleeps_records (p : Part) (seg : Segment) :
    (p.sleeps seg).records = { p.records with control := p.control.slept seg } := by cases seg <;> rfl

theorem Part.sleeps_answer (p : Part) (seg : Segment) : (p.sleeps seg).answer = p.answer := p.sendSleep_answer seg

theorem Part.sleeps_seat (p : Part) (h : seg ≠ .wall) : (p.sleeps seg).engine seg = (p.engine seg).toIdle :=
  (Part.engine_withControl _ _ _).trans (p.sendSleep_seat h)

theorem Part.sleeps_wall (p : Part) : (p.sleeps .wall).wall =
    { p.wall with scope := .sensors, blankFirst := none, urgent := p.wall.urgent.filter p.isSensorAt } := rfl

/-- A segment that sleeps, with its wake line low (R165, R171). -/
theorem Part.takeSleep_asked (h : p.control.sleep.of seg = true) (hstate : (p.engine seg).state = .running)
    (hline : (p.engine seg).line = none) (hblank : seg = .wall → p.wall.blankFirst = some []) (hwake : (p.engine seg).wakeLine = false) :
    p.takeSleep seg = p.sleeps seg := by
  have hmay : p.maySleep seg = true := by
    rw [Part.maySleep, h, hstate, hline]
    by_cases hseg : seg = .wall
    · simp [hseg, hblank hseg]
    · simp [hseg]
  have hlow : ((p.sendSleep seg).engine seg).wakeLine = false := by cases seg <;> exact hwake
  unfold Part.takeSleep
  rw [if_pos hmay]
  dsimp only
  rw [Part.sendSleep_control, Part.seeWakeLine, if_neg]
  · rfl
  rintro ⟨-, hup⟩
  rw [Part.engine_withControl, hlow] at hup
  exact Bool.false_ne_true hup

/-! ### WAKE_LINE_RISE -/

theorem exec_wakeLineRise (seg : Segment) (s : State) :
    exec (.wakeLineRise seg) s = s.become (s.part.event (fun p => p.raiseWakeLine seg)) := rfl

theorem Part.raiseWakeLine_idle (hwake : (p.engine seg).wakeLine = false) (hi : (p.engine seg).state = .idle) :
    p.raiseWakeLine seg = (p.updEngine seg (fun e => { e with wakeLine := true })).wake .wakeLine := by
  rw [Part.raiseWakeLine, if_neg (by rw [hwake]; exact Bool.false_ne_true), Part.seeWakeLine,
    if_pos (by rw [Part.engine_updEngine_same]; exact ⟨hi, rfl⟩)]

theorem Part.raiseWakeLine_notIdle (hwake : (p.engine seg).wakeLine = false) (hi : (p.engine seg).state ≠ .idle) :
    p.raiseWakeLine seg = p.updEngine seg (fun e => { e with wakeLine := true }) := by
  rw [Part.raiseWakeLine, if_neg (by rw [hwake]; exact Bool.false_ne_true), Part.seeWakeLine, if_neg]
  rw [Part.engine_updEngine_same]
  exact fun h => hi h.1

theorem Part.toWaking_records (p : Part) (c : WakeCause) : (p.toWaking c).records = { p.records with control :=
    { p.control with tableState := .waking, lastWakeCause := c, sleep := { left := false, right := false, wall := false } } } := rfl
end

/-! ### O52 -/

section
variable {s : State} {seg : Segment} {rest : SleepRequests}

theorem State.sleep_sent (hr : s.runs) (h : s.part.control.sleep.of seg = true) (hstate : (s.part.engine seg).state = .running)
    (hline : (s.part.engine seg).line = none) (hblank : seg = .wall → s.part.wall.blankFirst = some [])
    (hwake : (s.part.engine seg).wakeLine = false) (hwalk : (s.part.engine seg).walkRequested = false)
    (hrest : rest = s.part.control.sleep.clear seg) :
    ∃ p, Ends (.sleep seg) s p ∧
      p.records = { s.part.records with control :=
        { s.part.control with
          sleep := rest
          tableState := if rest = { left := false, right := false, wall := false } then .standby else s.part.control.tableState } } ∧
      (seg ≠ .wall → (p.engine seg).state = .idle ∧ (p.engine seg).urgent = []) ∧
      (seg = .wall → p.wall.state = .running ∧ p.wall.scope = .sensors) := by
  have hends := ends_stepped (exec_sleep seg s) hr (Part.takeSleep_asked h hstate hline hblank hwake) (Part.sleeps_answer _ _)
  have hrecords := s.part.sleeps_records seg
  have hseat := fun hseg : seg ≠ .wall => s.part.sleeps_seat hseg
  have hwall := s.part.sleeps_wall
  refine ⟨_, hends, (Part.settle_records _ _).trans (hrecords.trans (by rw [hrest]; rfl)), fun hseg => ?_, fun hseg => ?_⟩
  · rw [Part.settle_engine_stopped _ _ seg (by rw [hseat hseg]; exact Engine.toIdle_not_running _)
      (.inl (by rw [hseat hseg]; exact hwalk)), hseat hseg]
    exact ⟨rfl, rfl⟩
  · subst hseg
    exact ⟨(Part.settle_wall_state _ _ (by rw [hwall]; exact hwalk)).trans (by rw [hwall]; exact hstate),
      (Part.settle_wall_scope _ _).trans (by rw [hwall])⟩

theorem State.wakeLine_wakes (hr : s.runs) (hwake : (s.part.engine seg).wakeLine = false)
    (hi : (s.part.engine seg).state = .idle) (hseg : seg ≠ .wall) (hd : s.part.control.tableState = .standby) :
    ∃ p, Ends (.wakeLineRise seg) s p ∧
      p.records = { s.part.records with control :=
        { s.part.control with
          tableState := .waking, lastWakeCause := .wakeLine, sleep := { left := false, right := false, wall := false } } } ∧
      (p.engine seg).state = .walking ∧ p.wall.scope = .full := by
  have hraised := Part.raiseWakeLine_idle hwake hi
  have hrecords := s.part.updEngine_records seg (fun e => { e with wakeLine := true })
  have hidle : ((s.part.updEngine seg (fun e => { e with wakeLine := true })).engine seg).state = .idle := by
    rw [Part.engine_updEngine_same]; exact hi
  have hanswer : (s.part.updEngine seg (fun e => { e with wakeLine := true })).answer = s.part.answer := Part.updEngine_answer ..
  generalize s.part.updEngine seg (fun e => { e with wakeLine := true }) = q at hraised hrecords hidle hanswer
  have hcontrol : q.control = s.part.control := congrArg Records.control hrecords
  obtain ⟨hwaking, hwalks⟩ := q.wake_idle .wakeLine seg hseg (by rw [hcontrol, hd]; rfl) hidle
  have hends := ends_stepped (exec_wakeLineRise seg s) hr (hraised.trans hwaking) hanswer
  refine ⟨_, hends, ?_, Part.settle_walking _ _ seg hwalks, Part.settle_wall_scope _ _⟩
  rw [Part.settle_records, Part.toWaking_records, hrecords, hcontrol]

/-- Settles O52: SLEEP and a rise of the wake line, each as its owner leaves the part, through the end of the step. -/
theorem sleepAndTheWakeLine : Obligations.SleepAndTheWakeLine := by
  refine ⟨fun s seg rest hr => ⟨fun h => ?_, fun h hstate hline hblank hwake hwalk hrest hothers =>
    State.sleep_sent hr h hstate hline hblank hwake hwalk (SleepRequests.eq_clear hrest hothers)⟩,
    fun s seg hr hwake => ⟨State.wakeLine_wakes hr hwake, fun hi => ?_⟩⟩
  · exact ⟨_, ends_stepped (exec_sleep seg s) hr (Part.takeSleep_notAsked h) rfl, Part.settle_records _ _,
      Part.settle_scope _ _ seg, Part.settle_state _ _ seg⟩
  · refine ⟨_, ends_stepped (exec_wakeLineRise seg s) hr (Part.raiseWakeLine_notIdle hwake hi) (Part.updEngine_answer ..), ?_, ?_⟩
    · rw [Part.settle_records]; exact Part.updEngine_records ..
    · rw [Part.settle_wakeLine, Part.engine_updEngine_same]
end

end Sys2Proof.Machine
end

section
/-! A PROBE of a seat position (O45). -/

namespace Sys2Proof.Machine

/-! ### The rows of a PROBE -/

theorem exec_probeAnswer (seg : Segment) (rx : Reception) (u : UnitReport) (s : State) :
    exec (.probeAnswer seg rx u) s = s.become (s.part.probeAnswered seg rx u) := rfl

section
variable {s : State} {seg : Segment} {pos : Nat} {rx : Reception} {u : UnitReport}

/-- A PROBE that is answered well, from its row to the owner of the position (R152, R164). -/
theorem State.probeAnswers (hr : s.runs) (hline : (s.part.engine seg).line = some { exchange := .probe pos, orphan := false })
    (h1 : rx.complete = true) (h2 : rx.checkRight = true) (h3 : rx.kindRight = true) (hpos : u.position = pos) :
    exec (.probeAnswer seg rx u) s = s.become (s.part.settle ((s.part.lineEnds seg .good).probeGood seg pos u)) := by
  rw [exec_probeAnswer, Part.probeAnswered, s.part.lineOf_of seg _ hr hline]
  dsimp only
  rw [Part.exchangeEnds_own, outcomeOf_answered h1 h2 h3 (by rw [hpos]; simp)]
  rfl

/-- A PROBE without an answer (R152, R164). -/
theorem State.probeTimesOut (hr : s.runs) (hline : (s.part.engine seg).line = some { exchange := .probe pos, orphan := false }) :
    exec (.responseTimeout seg) s = s.become (s.part.settle ((s.part.lineEnds seg .timeout).probeFailed seg pos)) := by
  rw [exec_responseTimeout, Part.timedOut, s.part.lineOf_of seg _ hr hline]
  dsimp only
  rw [Part.exchangeEnds_own]
end

/-! ### The seat manager at a PROBE -/

theorem isSeatKind_iff (k : UnitKind) : isSeatKind k = true ↔ k = .delegate ∨ k = .chair := by
  cases k <;> simp [isSeatKind]

section
variable {p : Part} {seg : Segment} {pos : Nat} {u : UnitReport}

theorem Part.probeGood_seat (hseg : seg ≠ .wall) (hk : isSeatKind u.kind = true) :
    p.probeGood seg pos u = p.updSeat (seatOn seg pos) (Seat.probed u) := by
  cases seg with
  | left => exact if_pos hk
  | right => exact if_pos hk
  | wall => exact absurd rfl hseg

theorem Part.probeGood_other (hseg : seg ≠ .wall) (hk : isSeatKind u.kind = false) :
    p.probeGood seg pos u = p.parkProbed seg pos := by
  have hnot : ¬ isSeatKind u.kind = true := by rw [hk]; exact Bool.false_ne_true
  cases seg with
  | left => exact if_neg hnot
  | right => exact if_neg hnot
  | wall => exact absurd rfl hseg

theorem Part.probeFailed_seat (hseg : seg ≠ .wall) :
    p.probeFailed seg pos = p.updSeat (seatOn seg pos) (fun s => { s with health := s.health.probeFailed }) := by
  cases seg with
  | left => rfl
  | right => rfl
  | wall => exact absurd rfl hseg

theorem Part.parkProbed_sends (h : (p.engine seg).walkRequested = false) : p.parkProbed seg pos = p.send seg (.park pos) := by
  rw [Part.parkProbed, h]; rfl
end

theorem Seat.probed_absent (u : UnitReport) (x : Seat) (h : x.health.presence = .absent) : x.probed u = x.renew u := by
  simp [Seat.probed, h]

theorem Seat.probed_cutOff (u : UnitReport) (x : Seat) (h : x.health.presence = .cutOff) (hk : x.unitKind = some u.kind)
    (hs : x.unitSerial = some u.serial) : x.probed u = { x with health := x.health.probeGood } := by
  simp [Seat.probed, h, Seat.isUnit, hk, hs]

theorem Health.probeFailed_absent (h : Health) (hp : h.presence = .absent) : h.probeFailed = h := by simp [Health.probeFailed, hp]

theorem Health.probeFailed_cutOff (h : Health) (hp : h.presence = .cutOff) : h.probeFailed = { h with settleCount := 0 } := by
  simp [Health.probeFailed, hp]

/-! ### The end of a step that leaves an exchange on the line -/

/-- An exchange that a block sends is on the line at the end of the step (R163). -/
theorem Part.settle_line (old p : Part) (seg : Segment) (l : OnLine) (h : (p.engine seg).line = some l) :
    ((old.settle p).engine seg).line = some l := by
  rw [Engine.line_of_bare (Part.settle_engine_onLine old p seg (by rw [h]; nofun)), h]

theorem Part.send_line (p : Part) (seg : Segment) (x : Exchange) :
    ((p.send seg x).engine seg).line = some { exchange := x, orphan := false } := by
  rw [Part.send, Part.engine_updEngine_same]

theorem Part.lineEnds_walkRequested (p : Part) (seg : Segment) (o : LinkOutcome) :
    ((p.lineEnds seg o).engine seg).walkRequested = (p.engine seg).walkRequested := by rw [Part.lineEnds_engine]

/-- A step that ends with an exchange sent changes no record (R163). -/
theorem ends_sent {c : Instr} {s : State} {q : Part} {seg : Segment} {x : Exchange} (hx : exec c s = s.become (s.part.settle q))
    (hq : q.records = s.part.records) (ha : q.answer = s.part.answer) (hsent : (q.engine seg).line = some { exchange := x, orphan := false }) :
    ∃ p, exec c s = .next { s with part := p } ∧ p.answer = s.part.answer ∧ p.records = s.part.records ∧
      (p.engine seg).line = some { exchange := x, orphan := false } :=
  ⟨s.part.settle q, hx, (Part.settle_answer _ _).trans ha, (Part.settle_records _ _).trans hq, Part.settle_line _ _ _ _ hsent⟩

/-! ### O45 -/

section
variable {s : State} {seg : Segment} {n : Nat} {x : Seat} {c : Instr}

/-- An exchange that ends with one seat's record written. -/
theorem leaves_of_seatWritten (o : LinkOutcome) (g : Seat → Seat) (hx : nth s.part.seats n = some x)
    (hexec : exec c s = s.become (s.part.settle ((s.part.lineEnds seg o).updSeat n g))) :
    Leaves c s (s.part.records.seat n (g x)) := by
  refine leaves_of_settle c s _ _ hexec (s.part.lineEnds_answer seg o) ?_
  rw [Part.updSeat_records _ n g x (by rw [Part.lineEnds_seats]; exact hx), Part.lineEnds_records]

theorem Records.seat_self (p : Part) (hx : nth p.seats n = some x) : p.records.seat n x = p.records := by
  have hrecords := p.updSeat_records n (fun _ => x) x hx
  rw [Part.updSeat, upd_self _ _ _ hx] at hrecords
  exact hrecords.symm
end

/-- Settles O45: at a seat position the record is renewed, counted, cleared or left, or PARK is sent. -/
theorem probeFindsTheUnit : Obligations.ProbeFindsTheUnit := by
  rintro s seg pos _ x rx u hr hline hseg rfl hx h1 h2 h3 hpos
  have hanswered := State.probeAnswers hr hline h1 h2 h3 hpos
  have htimeout := State.probeTimesOut hr hline
  rw [Part.probeFailed_seat hseg] at htimeout
  refine ⟨fun hk => ?_, fun hk hk' hwalk => ?_, fun hp => ?_, fun hp => ?_⟩
  · rw [Part.probeGood_seat hseg ((isSeatKind_iff _).2 hk)] at hanswered
    have hleaves := leaves_of_seatWritten .good (Seat.probed u) hx hanswered
    refine ⟨fun hp => ?_, fun hp hkind hserial => ?_⟩
    · rw [Seat.probed_absent u x hp, ← s.withSeat_eq] at hleaves
      exact hleaves
    · rw [Seat.probed_cutOff u x hp hkind hserial, ← s.withSeat_eq] at hleaves
      exact hleaves
  · have hnot : isSeatKind u.kind = false := by
      rw [Bool.eq_false_iff, Ne, isSeatKind_iff]
      exact not_or.2 ⟨hk, hk'⟩
    rw [Part.probeGood_other hseg hnot,
      Part.parkProbed_sends (by rw [Part.lineEnds_walkRequested]; exact hwalk)] at hanswered
    refine ends_sent hanswered ?_ ?_ (Part.send_line _ _ _)
    · rw [Part.send, Part.updEngine_records, Part.lineEnds_records]
    · exact (Part.updEngine_answer ..).trans (s.part.lineEnds_answer seg .good)
  · have hleaves := leaves_of_seatWritten .timeout _ hx htimeout
    rw [Health.probeFailed_absent _ hp] at hleaves
    rwa [Records.seat_self s.part hx] at hleaves
  · have hleaves := leaves_of_seatWritten .timeout _ hx htimeout
    rw [Health.probeFailed_cutOff _ hp, ← s.withSeat_eq] at hleaves
    exact hleaves

end Sys2Proof.Machine
end

section
/-! The steps of a walk: its beginning, its offers, its parkings and its end (O46). -/

namespace Sys2Proof.Machine

/-! ### The engine in a walk -/

/-- The engine that offers the position of a walk (R159). -/
def Engine.offers (e : Engine) (w : WalkContext) : Engine :=
  { e with walk := some { w with phase := .offering }, line := some { exchange := .assign w.position, orphan := false } }

/-- The engine that parks the unit at the offered position (R159). -/
def Engine.parks (e : Engine) (w : WalkContext) : Engine :=
  { e with walk := some { w with phase := .parking }, line := some { exchange := .park w.position, orphan := false } }

/-- The engine that parks a unit at the entry address, all positions given (R159). -/
def Engine.parksEntry (e : Engine) (w : WalkContext) : Engine :=
  { e with walk := some { w with phase := .parkingEntry }, line := some { exchange := .park 0, orphan := false } }

section
variable (p : Part) (seg : Segment) (w : WalkContext)

theorem Part.send_answer (x : Exchange) : (p.send seg x).answer = p.answer := Part.updEngine_answer ..

theorem Part.offer_engine : (p.offer seg w).engine seg = (p.engine seg).offers w := by
  rw [Part.offer, Part.send, Part.engine_updEngine_same, Part.engine_updEngine_same]; rfl

theorem Part.offer_records : (p.offer seg w).records = p.records := by
  rw [Part.offer, Part.send_records, Part.updEngine_records]

theorem Part.offer_answer : (p.offer seg w).answer = p.answer := (Part.send_answer ..).trans (Part.updEngine_answer ..)

theorem Part.park_engine : (p.park seg w).engine seg = (p.engine seg).parks w := by
  rw [Part.park, Part.send, Part.engine_updEngine_same, Part.engine_updEngine_same]; rfl

theorem Part.park_records : (p.park seg w).records = p.records := by
  rw [Part.park, Part.send_records, Part.updEngine_records]

theorem Part.park_answer : (p.park seg w).answer = p.answer := (Part.send_answer ..).trans (Part.updEngine_answer ..)

theorem Part.parkEntry_engine : (p.parkEntry seg w).engine seg = (p.engine seg).parksEntry w := by
  rw [Part.parkEntry, Part.send, Part.engine_updEngine_same, Part.engine_updEngine_same]; rfl

/-- The next offer, or PARK at the entry address (R159). -/
theorem Part.offerNext_engine : (p.offerNext seg w).engine seg =
    if w.kept.length < seg.positions then (p.engine seg).offers w else (p.engine seg).parksEntry w := by
  unfold Part.offerNext
  split
  · exact p.offer_engine seg w
  · exact p.parkEntry_engine seg w

theorem Part.offerNext_records : (p.offerNext seg w).records = p.records := by
  unfold Part.offerNext
  split
  · exact p.offer_records seg w
  · rw [Part.parkEntry, Part.send_records, Part.updEngine_records]

theorem Part.offerNext_answer : (p.offerNext seg w).answer = p.answer := by
  unfold Part.offerNext
  split
  · exact p.offer_answer seg w
  · exact (Part.send_answer ..).trans (Part.updEngine_answer ..)
end

section
variable {p : Part} {seg : Segment} {w next : WalkContext} {u : UnitReport}

theorem Part.assignGood_kept (h : w.keep seg u = some next) : p.assignGood seg w u = p.offerNext seg next := by
  rw [Part.assignGood, h]

theorem Part.assignGood_extra (h : w.keep seg u = none) : p.assignGood seg w u = p.park seg { w with attempts := 0 } := by
  rw [Part.assignGood, h]

theorem Part.assignReport_walking {o : LinkOutcome} (h : (p.engine seg).walk = some w) :
    p.assignReport seg o u = p.assignEnd seg w o u := by
  rw [Part.assignReport, h]

theorem Part.parkReport_parking {o : LinkOutcome} (h : (p.engine seg).walk = some w) (hphase : w.phase = .parking) :
    p.parkReport seg o = p.parkEnd seg w o := by
  rw [Part.parkReport, h]
  exact if_neg (by rw [hphase]; nofun)

/-- A seat segment keeps the units of seats (R159). -/
theorem WalkContext.keep_seat (hseg : seg ≠ .wall) : w.keep seg u =
    if isSeatKind u.kind then some { w with position := w.position + 1, attempts := 0, kept := w.kept ++ [u] } else none := by
  cases seg with
  | left => rfl
  | right => rfl
  | wall => exact absurd rfl hseg
end

/-! ### The rows of a walk -/

theorem exec_walkBegin (seg : Segment) (s : State) :
    exec (.walkBegin seg) s = s.become (s.part.event (fun p => p.takeWalkBegin seg)) := rfl

theorem exec_lineBreakEnd (seg : Segment) (s : State) :
    exec (.lineBreakEnd seg) s = s.become (s.part.event (fun p => p.takeBreakEnd seg)) := rfl

theorem exec_assignAnswer (seg : Segment) (rx : Reception) (u : UnitReport) (s : State) :
    exec (.assignAnswer seg rx u) s = s.become (s.part.assignAnswered seg rx u) := rfl

theorem exec_parkAnswer (seg : Segment) (rx : Reception) (u : UnitReport) (s : State) :
    exec (.parkAnswer seg rx u) s = s.become (s.part.parkAnswered seg rx u) := rfl

theorem Part.lineEnds_walk (p : Part) (seg : Segment) (o : LinkOutcome) :
    ((p.lineEnds seg o).engine seg).walk = (p.engine seg).walk := by rw [Part.lineEnds_engine]

section
variable {s : State} {seg : Segment} {pos : Nat} {rx : Reception} {u : UnitReport} {w : WalkContext}

/-- A unit that answers the offer is judged by the placement rule (R152, R159). -/
theorem State.assignAnswers (hr : s.runs) (hline : (s.part.engine seg).line = some { exchange := .assign pos, orphan := false })
    (hw : (s.part.engine seg).walk = some w) (h1 : rx.complete = true) (h2 : rx.checkRight = true) (h3 : rx.kindRight = true)
    (hpos : u.position = pos) :
    exec (.assignAnswer seg rx u) s = s.become (s.part.settle ((s.part.lineEnds seg .good).assignGood seg w u)) := by
  rw [exec_assignAnswer, Part.assignAnswered, s.part.lineOf_of seg _ hr hline]
  dsimp only
  rw [Part.exchangeEnds_own, outcomeOf_answered h1 h2 h3 (by rw [hpos]; simp),
    Part.assignReport_walking ((Part.lineEnds_walk ..).trans hw)]
  rfl

/-- A walk ends where no unit answers the offer (R159, R160). -/
theorem State.assignTimesOut (hr : s.runs) (hline : (s.part.engine seg).line = some { exchange := .assign pos, orphan := false })
    (hw : (s.part.engine seg).walk = some w) :
    exec (.responseTimeout seg) s = s.become (s.part.settle ((s.part.lineEnds seg .timeout).endWalk seg w)) := by
  rw [exec_responseTimeout, Part.timedOut, s.part.lineOf_of seg _ hr hline]
  dsimp only
  rw [Part.exchangeEnds_own, Part.assignReport_walking ((Part.lineEnds_walk ..).trans hw)]
  rfl

/-- A unit that answers PARK is counted, and its position offered again (R152, R159). -/
theorem State.parkAnswers (hr : s.runs) (hline : (s.part.engine seg).line = some { exchange := .park pos, orphan := false })
    (hw : (s.part.engine seg).walk = some w) (hphase : w.phase = .parking) (h1 : rx.complete = true) (h2 : rx.checkRight = true)
    (h3 : rx.kindRight = true) (hpos : u.position = pos) :
    exec (.parkAnswer seg rx u) s = s.become (s.part.settle
      (((s.part.lineEnds seg .good).updEngine seg Engine.parked).offer seg { w with attempts := 0 })) := by
  rw [exec_parkAnswer, Part.parkAnswered, s.part.lineOf_of seg _ hr hline]
  dsimp only
  rw [Part.exchangeEnds_own, outcomeOf_answered h1 h2 h3 (by rw [hpos]; simp),
    Part.parkReport_parking ((Part.lineEnds_walk ..).trans hw) hphase]
  rfl
end

/-- The engine of the segment once its exchange has ended without a conflict (R152). -/
theorem Part.lineEnds_good (p : Part) (seg : Segment) : (p.lineEnds seg .good).engine seg = { p.engine seg with line := none } := by
  rw [Part.lineEnds_engine]; rfl

/-- A step of a walk that changes no record leaves its engine as the walk's owner did. -/
theorem ends_walking {c : Instr} {s : State} {q : Part} {seg : Segment} {e : Engine} (hx : exec c s = s.become (s.part.settle q))
    (hq : q.records = s.part.records) (ha : q.answer = s.part.answer) (he : q.engine seg = e) (hstate : e.state ≠ .running)
    (hw : e.walkRequested = false) :
    ∃ p, exec c s = .next { s with part := p } ∧ p.answer = s.part.answer ∧ p.records = s.part.records ∧ p.engine seg = e := by
  refine ⟨s.part.settle q, hx, (Part.settle_answer _ _).trans ha, (Part.settle_records _ _).trans hq, ?_⟩
  rw [Part.settle_engine_stopped _ _ seg (by rw [he]; exact hstate) (.inl (by rw [he]; exact hw)), he]

/-! ### The end of a walk -/

/-- What the seat manager never touches at the report of a walk: the base but for the units. -/
def Part.ground (p : Part) : Base := { p.base with units := [] }

theorem Part.ground_of_base {p q : Part} (h : p.base = q.base) : p.ground = q.ground :=
  congrArg (fun b : Base => { b with units := [] }) h

theorem Part.updSeat_ground (p : Part) (n : Nat) (g : Seat → Seat) : (p.updSeat n g).ground = p.ground := rfl

theorem Part.loseByWalk_ground (p : Part) (n : Nat) (x : Presence) : (p.loseByWalk n x).ground = p.ground := by
  unfold Part.loseByWalk
  split
  · rw [Part.ground_of_base (Part.follow_base _ _), Part.ground_of_base (Part.loseSeat_base _ _), Part.updSeat_ground]
  · rfl

theorem Part.walkSeat_ground (p : Part) (n : Nat) (u : Option UnitReport) : (p.walkSeat n u).ground = p.ground := by
  unfold Part.walkSeat
  repeat' split
  · rfl
  · rw [Part.updSeat_ground, Part.loseByWalk_ground]
  · rfl
  · rw [Part.updSeat_ground, Part.loseByWalk_ground]

theorem Part.reportSeats_ground (p : Part) (seg : Segment) (w : WalkContext) : (p.reportSeats seg w).ground = p.ground :=
  foldl_keeps Part.ground _ (fun q _ => q.walkSeat_ground _ _) _ p

theorem Part.setProbeDues_base (p : Part) (seg : Segment) : (p.setProbeDues seg).base = p.base :=
  foldl_keeps Part.base _ (fun q pos => q.setProbeDue_base seg pos) _ p

theorem Part.reportWalk_seats {p : Part} {seg : Segment} {w : WalkContext} (hseg : seg ≠ .wall) :
    p.reportWalk seg w = p.reportSeats seg w := by
  cases seg with
  | left => rfl
  | right => rfl
  | wall => exact absurd rfl hseg

/-- A walk of a seat segment ends with nothing beside the seats' records, floors, queues and bookings touched (R160). -/
theorem Part.endWalk_ground (p : Part) {seg : Segment} (w : WalkContext) (hseg : seg ≠ .wall) :
    (p.endWalk seg w).ground = p.ground := by
  rw [Part.endWalk, Part.ground_of_base (Part.checkAwake_base _), Part.ground_of_base (Part.setProbeDues_base _ _),
    Part.reportWalk_seats hseg, Part.reportSeats_ground, Part.closeWalk, Part.ground_of_base (Part.updEngine_base _ _ _)]

/-- An engine without its urgent list, its `probe_due` and its holding: what the report of a walk leaves as it is. -/
def Engine.closed (e : Engine) : Engine := { e with urgent := [], probeDue := [], held := false }

theorem Engine.closed_of_bare {a b : Engine} (h : a.bare = b.bare) : a.closed = b.closed := by
  have hclosed := congrArg Engine.closed h; exact hclosed

theorem Part.reportWalk_closed (p : Part) (seg a : Segment) (w : WalkContext) :
    ((p.reportWalk seg w).engine a).closed = (p.engine a).closed := by
  cases seg with
  | left => exact Engine.closed_of_bare (Part.engine_of_side _ _ (Part.reportSeats_side _ _ _) a)
  | right => exact Engine.closed_of_bare (Part.engine_of_side _ _ (Part.reportSeats_side _ _ _) a)
  | wall => cases a <;> rfl

theorem Part.setProbeDue_closed (p : Part) (seg a : Segment) (pos : Nat) :
    ((p.setProbeDue seg pos).engine a).closed = (p.engine a).closed := by
  by_cases h : seg = a
  · subst h; rw [Part.setProbeDue, Part.engine_updEngine_same]; rfl
  · rw [Part.setProbeDue_engine_ne _ _ _ _ h]

theorem Part.setProbeDues_closed (p : Part) (seg a : Segment) : ((p.setProbeDues seg).engine a).closed = (p.engine a).closed :=
  foldl_keeps (fun q : Part => (q.engine a).closed) _ (fun q pos => q.setProbeDue_closed seg a pos) _ p

theorem Part.checkAwake_closed (p : Part) (a : Segment) : (p.checkAwake.engine a).closed = (p.engine a).closed := by
  unfold Part.checkAwake
  split
  · rw [Part.becomeAwake, Engine.closed_of_bare (Part.engine_of_side _ _ (Part.runTasks_side _ _) a)]
    cases a <;> rfl
  · rfl

/-- The engine at the end of a walk (R160). -/
theorem Part.endWalk_closed (p : Part) (seg : Segment) (w : WalkContext) :
    ((p.endWalk seg w).engine seg).closed =
      { (p.engine seg).closed with
        state := .running, walk := none, pointer := 0, unitsFound := w.kept.length, roles := rolesAfter seg.positions w.roles } := by
  rw [Part.endWalk, Part.checkAwake_closed, Part.setProbeDues_closed, Part.reportWalk_closed, Part.closeWalk,
    Part.engine_updEngine_same]
  rfl

/-- What a walk's end leaves of its segment, through the end of the step (R160). -/
theorem Part.settle_endWalk (old p : Part) (seg : Segment) (w : WalkContext) (hw : (p.engine seg).walkRequested = false) :
    ((old.settle (p.endWalk seg w)).engine seg).state = .running ∧ ((old.settle (p.endWalk seg w)).engine seg).walk = none ∧
      ((old.settle (p.endWalk seg w)).engine seg).unitsFound = w.kept.length ∧
      ((old.settle (p.endWalk seg w)).engine seg).roles = rolesAfter seg.positions w.roles := by
  have hclosed := p.endWalk_closed seg w
  generalize p.endWalk seg w = q at hclosed
  have hrequested : (q.engine seg).walkRequested = false := by
    have hfield := congrArg Engine.walkRequested hclosed
    exact hfield.trans hw
  have hstill := Part.settle_engine_still old q seg (.inl hrequested)
  refine ⟨(Engine.state_of_still hstill).trans ?_, (Engine.walk_of_still hstill).trans ?_,
    (Engine.unitsFound_of_still hstill).trans ?_, (Engine.roles_of_still hstill).trans ?_⟩
  · have hfield := congrArg Engine.state hclosed; exact hfield
  · have hfield := congrArg Engine.walk hclosed; exact hfield
  · have hfield := congrArg Engine.unitsFound hclosed; exact hfield
  · have hfield := congrArg Engine.roles hclosed; exact hfield

/-! ### O46 -/

section
variable {s : State} {seg : Segment} {pos : Nat} {rx : Reception} {u : UnitReport} {w : WalkContext}

theorem Engine.walkIn_of {e : Engine} {phase : WalkPhase} (hstate : e.state = .walking) (hline : e.line = none)
    (hw : e.walk = some w) (hphase : w.phase = phase) : e.walkIn phase = true := by
  simp [Engine.walkIn, hstate, hline, hw, hphase]

theorem State.walkBegins (hr : s.runs) (hstate : (s.part.engine seg).state = .walking) (hline : (s.part.engine seg).line = none)
    (hrequested : (s.part.engine seg).walkRequested = false) (hw : (s.part.engine seg).walk = some w) (hphase : w.phase = .toBegin) :
    ∃ p, exec (.walkBegin seg) s = .next { s with part := p } ∧ p.answer = s.part.answer ∧ p.records = s.part.records ∧
      p.engine seg = (s.part.engine seg).beginWalk := by
  have hbegin : s.part.takeWalkBegin seg = s.part.updEngine seg Engine.beginWalk :=
    if_pos (Engine.walkIn_of hstate hline hw hphase)
  obtain ⟨hexec, -⟩ := ends_stepped (exec_walkBegin seg s) hr hbegin (Part.updEngine_answer ..)
  exact ends_walking hexec (Part.updEngine_records ..) (Part.updEngine_answer ..) (Part.engine_updEngine_same ..)
    (by rw [Engine.beginWalk, hstate]; nofun) hrequested

theorem State.breakEnds (hr : s.runs) (hstate : (s.part.engine seg).state = .walking) (hline : (s.part.engine seg).line = none)
    (hrequested : (s.part.engine seg).walkRequested = false) (hw : (s.part.engine seg).walk = some w) (hphase : w.phase = .lineBreak) :
    ∃ p, exec (.lineBreakEnd seg) s = .next { s with part := p } ∧ p.answer = s.part.answer ∧ p.records = s.part.records ∧
      p.engine seg = (s.part.engine seg).offers { walkInBreak with position := 1 } := by
  have hend : s.part.takeBreakEnd seg = s.part.offer seg { walkInBreak with position := 1 } :=
    if_pos (Engine.walkIn_of hstate hline hw hphase)
  obtain ⟨hexec, -⟩ := ends_stepped (exec_lineBreakEnd seg s) hr hend (s.part.offer_answer _ _)
  exact ends_walking hexec (s.part.offer_records _ _) (s.part.offer_answer _ _) (s.part.offer_engine _ _)
    (by rw [Engine.offers, hstate]; nofun) hrequested

/-- A unit that is kept: the next position is offered, or PARK is sent at the entry address (R159). -/
theorem State.assignKeeps {next : WalkContext} (hr : s.runs) (hstate : (s.part.engine seg).state = .walking)
    (hrequested : (s.part.engine seg).walkRequested = false)
    (hline : (s.part.engine seg).line = some { exchange := .assign pos, orphan := false })
    (hw : (s.part.engine seg).walk = some w) (h1 : rx.complete = true) (h2 : rx.checkRight = true) (h3 : rx.kindRight = true)
    (hpos : u.position = pos) (hkeep : w.keep seg u = some next) :
    ∃ p, exec (.assignAnswer seg rx u) s = .next { s with part := p } ∧ p.answer = s.part.answer ∧ p.records = s.part.records ∧
      p.engine seg = if next.kept.length < seg.positions then (s.part.engine seg).offers next else (s.part.engine seg).parksEntry next := by
  have hexec := State.assignAnswers hr hline hw h1 h2 h3 hpos
  rw [Part.assignGood_kept hkeep] at hexec
  refine ends_walking hexec ((Part.offerNext_records ..).trans (Part.lineEnds_records ..))
    ((Part.offerNext_answer ..).trans (Part.lineEnds_answer ..)) ?_ ?_ ?_
  · rw [Part.offerNext_engine, Part.lineEnds_good]; rfl
  · split <;> exact fun h => absurd (hstate.symm.trans h) nofun
  · split <;> exact hrequested

/-- A unit that is not kept is sent PARK (R159). -/
theorem State.assignParks (hr : s.runs) (hstate : (s.part.engine seg).state = .walking)
    (hrequested : (s.part.engine seg).walkRequested = false)
    (hline : (s.part.engine seg).line = some { exchange := .assign pos, orphan := false })
    (hw : (s.part.engine seg).walk = some w) (h1 : rx.complete = true) (h2 : rx.checkRight = true) (h3 : rx.kindRight = true)
    (hpos : u.position = pos) (hkeep : w.keep seg u = none) :
    ∃ p, exec (.assignAnswer seg rx u) s = .next { s with part := p } ∧ p.answer = s.part.answer ∧ p.records = s.part.records ∧
      p.engine seg = (s.part.engine seg).parks { w with attempts := 0 } := by
  have hexec := State.assignAnswers hr hline hw h1 h2 h3 hpos
  rw [Part.assignGood_extra hkeep] at hexec
  refine ends_walking hexec ((Part.park_records ..).trans (Part.lineEnds_records ..))
    ((Part.park_answer ..).trans (Part.lineEnds_answer ..)) ?_ ?_ hrequested
  · rw [Part.park_engine, Part.lineEnds_good]; rfl
  · exact fun h => absurd (hstate.symm.trans h) nofun

theorem State.parkOffersAgain (hr : s.runs) (hstate : (s.part.engine seg).state = .walking)
    (hrequested : (s.part.engine seg).walkRequested = false)
    (hline : (s.part.engine seg).line = some { exchange := .park pos, orphan := false })
    (hw : (s.part.engine seg).walk = some w) (hphase : w.phase = .parking) (h1 : rx.complete = true) (h2 : rx.checkRight = true)
    (h3 : rx.kindRight = true) (hpos : u.position = pos) :
    ∃ p, exec (.parkAnswer seg rx u) s = .next { s with part := p } ∧ p.answer = s.part.answer ∧ p.records = s.part.records ∧
      p.engine seg = (s.part.engine seg).parked.offers { w with attempts := 0 } := by
  refine ends_walking (State.parkAnswers hr hline hw hphase h1 h2 h3 hpos) ?_ ?_ ?_ ?_ hrequested
  · rw [Part.offer_records, Part.updEngine_records, Part.lineEnds_records]
  · exact (Part.offer_answer ..).trans ((Part.updEngine_answer ..).trans (Part.lineEnds_answer ..))
  · rw [Part.offer_engine, Part.engine_updEngine_same, Part.lineEnds_good]; rfl
  · exact fun h => absurd (hstate.symm.trans h) nofun

/-- A walk of a seat segment that ends where no unit answers (R159, R160). -/
theorem State.walkEnds (hr : s.runs) (hseg : seg ≠ .wall) (hrequested : (s.part.engine seg).walkRequested = false)
    (hline : (s.part.engine seg).line = some { exchange := .assign pos, orphan := false }) (hw : (s.part.engine seg).walk = some w) :
    ∃ p, exec (.responseTimeout seg) s = .next { s with part := p } ∧ p.ground = s.part.ground ∧
      (p.engine seg).state = .running ∧ (p.engine seg).walk = none ∧ (p.engine seg).unitsFound = w.kept.length := by
  have hground := (s.part.lineEnds seg .timeout).endWalk_ground w hseg
  obtain ⟨hstate, hwalk, hfound, -⟩ := Part.settle_endWalk s.part (s.part.lineEnds seg .timeout) seg w
    ((Part.lineEnds_walkRequested ..).trans hrequested)
  exact ⟨_, State.assignTimesOut hr hline hw, (Part.ground_of_base (Part.settle_base _ _)).trans
    (hground.trans (Part.ground_of_base (s.part.lineEnds_base seg .timeout))), hstate, hwalk, hfound⟩
end

theorem Part.of_ground {p q : Part} (h : p.ground = q.ground) :
    p.answer = q.answer ∧ p.clock = q.clock ∧ p.settings = q.settings ∧ p.store = q.store ∧ p.partitions = q.partitions ∧
      p.ambient = q.ambient ∧ p.now = q.now :=
  ⟨congrArg Base.answer h, congrArg Base.clock h, congrArg Base.settings h, congrArg Base.store h, congrArg Base.partitions h,
    congrArg Base.ambient h, congrArg Base.now h⟩

/-- Settles O46: each step of a walk by its phase and the unit that answers. -/
theorem walkOffersAndGivesPositions : Obligations.WalkOffersAndGivesPositions := by
  refine ⟨fun s seg w hr hstate hline hrequested hw => ⟨fun hphase => ?_, fun hphase => ?_⟩,
    fun s seg w pos rx u hr hseg hstate hrequested hw hposition h1 h2 h3 hpos => ⟨fun hline => ⟨fun hk => ?_, fun hk hk' => ?_, ?_⟩,
      fun hline hphase => ?_⟩⟩
  · obtain ⟨p, hx, ha, hrec, he⟩ := State.walkBegins hr hstate hline hrequested hw hphase
    exact ⟨p, hx, ha, hrec, by rw [he]; exact ⟨rfl, rfl, rfl, rfl, rfl⟩⟩
  · obtain ⟨p, hx, ha, hrec, he⟩ := State.breakEnds hr hstate hline hrequested hw hphase
    exact ⟨p, hx, ha, hrec, by rw [he]; rfl⟩
  · have hkeep := w.keep_seat (u := u) hseg
    rw [if_pos ((isSeatKind_iff _).2 hk)] at hkeep
    obtain ⟨p, hx, ha, hrec, he⟩ := State.assignKeeps hr hstate hrequested hline hw h1 h2 h3 hpos hkeep
    have hpositions : seg.positions = 48 := by cases seg with
      | left => rfl
      | right => rfl
      | wall => exact absurd rfl hseg
    rw [List.length_append, List.length_singleton, hpositions] at he
    refine ⟨p, hx, ha, hrec, ?_, ?_⟩
    · rw [he]; split <;> rfl
    · rw [he, ← hposition]; split <;> rfl
  · have hkeep := w.keep_seat (u := u) hseg
    rw [if_neg (by rw [isSeatKind_iff]; exact not_or.2 ⟨hk, hk'⟩)] at hkeep
    obtain ⟨p, hx, ha, hrec, he⟩ := State.assignParks hr hstate hrequested hline hw h1 h2 h3 hpos hkeep
    exact ⟨p, hx, ha, hrec, by rw [he, ← hposition]; exact ⟨rfl, rfl⟩⟩
  · obtain ⟨p, hx, hground, hrun, hwalk, hfound⟩ := State.walkEnds hr hseg hrequested hline hw
    obtain ⟨ha, hclock, hsettings, hstore, hpartitions, hambient, hnow⟩ := Part.of_ground hground
    exact ⟨p, hx, ha, hrun, hwalk, hfound, hclock, hsettings, hstore, hpartitions, hambient, hnow⟩
  · obtain ⟨p, hx, ha, hrec, he⟩ := State.parkOffersAgain hr hstate hrequested hline hw hphase h1 h2 h3 hpos
    exact ⟨p, hx, ha, hrec, by rw [he, ← hposition]; exact ⟨rfl, rfl, rfl, rfl⟩⟩

end Sys2Proof.Machine
end

section
/-! The next exchange of a segment: what the engine sees when it takes it, and that it takes one where a position is due (O49). -/

namespace Sys2Proof.Machine

/-! ### The part in which a segment takes its next exchange -/

/-- The part when the engine of a segment is asked for its next exchange, those before it having taken theirs. -/
def Part.readyFor (p : Part) : Segment → Part
  | .left => p
  | .right => p.kick .left
  | .wall => (p.kick .left).kick .right

/-- That part at the end of a step which began in `old`. -/
def Part.turn (old p : Part) (seg : Segment) : Part := (old.follow p.takeWalks).readyFor seg

section
variable (old p : Part) (seg : Segment)

theorem Part.kickAll_readyFor : p.kickAll.engine seg = ((p.readyFor seg).kick seg).engine seg := by
  rw [Part.kickAll_engine]
  cases seg <;> rfl

theorem Part.settle_turn : (old.settle p).engine seg = ((old.turn p seg).kick seg).engine seg := by
  rw [Part.settle, Part.kickAll_readyFor, Part.turn]

theorem Part.readyFor_records : (p.readyFor seg).records = p.records := by
  cases seg with
  | left => rfl
  | right => rw [Part.readyFor, Part.kick_records]
  | wall => rw [Part.readyFor, Part.kick_records, Part.kick_records]

theorem Part.readyFor_base : (p.readyFor seg).base = p.base := by
  cases seg with
  | left => rfl
  | right => rw [Part.readyFor, Part.kick_base]
  | wall => rw [Part.readyFor, Part.kick_base, Part.kick_base]

theorem Part.readyFor_engine : (p.readyFor seg).engine seg = p.engine seg := by
  cases seg with
  | left => rfl
  | right => exact Part.kick_engine_ne _ .left .right (by decide)
  | wall => exact (Part.kick_engine_ne _ .right .wall (by decide)).trans (Part.kick_engine_ne _ .left .wall (by decide))

theorem Part.readyFor_still (a : Segment) : ((p.readyFor seg).engine a).still = (p.engine a).still := by
  cases seg with
  | left => rfl
  | right => rw [Part.readyFor, Part.kick_still]
  | wall => rw [Part.readyFor, Part.kick_still, Part.kick_still]

theorem Part.turn_records : (old.turn p seg).records = p.records := by
  rw [Part.turn, Part.readyFor_records, Part.follow_records, Part.takeWalks_records]

theorem Part.turn_base : (old.turn p seg).base = p.base := by
  rw [Part.turn, Part.readyFor_base, Part.follow_base, Part.takeWalks_base]

theorem Part.turn_control : (old.turn p seg).control = p.control := congrArg Records.control (old.turn_records p seg)

theorem Part.turn_now : (old.turn p seg).now = p.now := congrArg Records.now (old.turn_records p seg)

theorem Part.turn_cores : (old.turn p seg).cores = p.cores := Part.cores_of_records (old.turn_records p seg)

theorem Part.turn_roles : ((old.turn p seg).engine .wall).roles = (p.engine .wall).roles := by
  rw [Part.turn, Engine.roles_of_still (Part.readyFor_still _ seg .wall),
    Engine.roles_of_still (Engine.still_of_bare (Part.follow_asked old p.takeWalks .wall).1), Part.takeWalks_engine]
  split <;> rfl

variable {p seg} in
/-- With no walk to take, the engine is as its owner left it but for its urgent list. -/
theorem Part.turn_engine (h : (p.engine seg).walkRequested = false) : ((old.turn p seg).engine seg).bare = (p.engine seg).bare := by
  have hwalks : p.takeWalks.engine seg = p.engine seg := by
    rw [Part.takeWalks_engine, if_neg]
    rintro ⟨hrequested, -⟩
    rw [h] at hrequested
    exact Bool.false_ne_true hrequested
  rw [Part.turn, Part.readyFor_engine, (Part.follow_asked old p.takeWalks seg).1, hwalks]
end

/-! ### Presence, scope and what is due -/

theorem Part.roleAt_congr {p q : Part} (h : (q.engine .wall).roles = (p.engine .wall).roles) (pos : Nat) : q.roleAt pos = p.roleAt pos := by
  rw [Part.engine_wall, Part.engine_wall] at h
  rw [Part.roleAt, Part.roleAt, h]

theorem Part.displayAt_health_of_cores {p q : Part} (h : q.cores = p.cores) (d : Nat) : (q.displayAt d).health = (p.displayAt d).health := by
  have hcore := getD_of_map Display.core _ _ (startDisplay factorySettings (factoryDisplay 1)) (nth_of_map Display.core q.displays p.displays h d)
  exact congrArg DisplayCore.health hcore

/-- The presence of a position, by the records of its owners and the roles of WALL. -/
theorem Part.presenceAt_congr {p q : Part} (hseats : ∀ n, (q.seatAt n).health = (p.seatAt n).health) (hcores : q.cores = p.cores)
    (hambient : q.ambient = p.ambient) (hpartitions : q.partitions = p.partitions)
    (hroles : (q.engine .wall).roles = (p.engine .wall).roles) (seg : Segment) (pos : Nat) :
    q.presenceAt seg pos = p.presenceAt seg pos := by
  cases seg with
  | left => rw [Part.presenceAt, Part.presenceAt, hseats]
  | right => rw [Part.presenceAt, Part.presenceAt, hseats]
  | wall =>
    simp only [Part.presenceAt, Part.roleAt_congr hroles, Part.displayAt_health_of_cores hcores, hambient, Part.partitionAt,
      hpartitions]

theorem Part.seatAt_health_of_base {p q : Part} (h : q.base = p.base) (n : Nat) : (q.seatAt n).health = (p.seatAt n).health := by
  have hunit : (q.seatAt n).unit = (p.seatAt n).unit := by rw [Part.seatAt_unit, Part.seatAt_unit, h]
  exact congrArg UnitView.health hunit

theorem Part.turn_presenceAt (old p : Part) (seg a : Segment) (pos : Nat) :
    (old.turn p seg).presenceAt a pos = p.presenceAt a pos := by
  have hbase := old.turn_base p seg
  exact Part.presenceAt_congr (Part.seatAt_health_of_base hbase) (old.turn_cores p seg) (Part.ambient_of_base _ _ hbase)
    (Part.partitions_of_base _ _ hbase) (old.turn_roles p seg) a pos

theorem Part.inScope_congr {p q : Part} {seg : Segment} (hscope : (q.engine seg).scope = (p.engine seg).scope)
    (hroles : (q.engine .wall).roles = (p.engine .wall).roles) (pos : Nat) : q.inScope seg pos = p.inScope seg pos := by
  simp only [Part.inScope, hscope, Part.roleAt_congr hroles]

/-- A PROBE of the position is due, or the round serves it (R163). -/
def Part.isDueAt (p : Part) (seg : Segment) (pos : Nat) : Prop :=
  p.inScope seg pos = true ∧ ((p.presenceAt seg pos).polled = true ∨
    (nth (p.engine seg).probeDue pos).getD 0 ≤ p.now ∧ (p.presenceAt seg pos = .cutOff ∨ (p.engine seg).scope = .full))

theorem Part.dueExchange_isSome (p : Part) (seg : Segment) (pos : Nat) : (p.dueExchange seg pos).isSome = true ↔ p.isDueAt seg pos := by
  unfold Part.dueExchange Part.isDueAt
  split
  · next hs =>
    rw [hs]
    split
    · next hpolled => simp [hpolled]
    · next hpolled =>
      rw [Bool.not_eq_true] at hpolled
      split
      · next hdue => simpa [hpolled] using hdue
      · next hdue => simpa [hpolled] using hdue
  · next hs => simp [hs]

theorem Part.isDueAt_congr {p q : Part} {seg : Segment} {pos : Nat} (hpresence : q.presenceAt seg pos = p.presenceAt seg pos)
    (hengine : (q.engine seg).bare = (p.engine seg).bare) (hroles : (q.engine .wall).roles = (p.engine .wall).roles)
    (hnow : q.now = p.now) : q.isDueAt seg pos ↔ p.isDueAt seg pos := by
  have hscope : (q.engine seg).scope = (p.engine seg).scope := Engine.scope_of_still (Engine.still_of_bare hengine)
  have hprobe : (q.engine seg).probeDue = (p.engine seg).probeDue := by
    have hfield := congrArg Engine.probeDue hengine; exact hfield
  rw [Part.isDueAt, Part.isDueAt, Part.inScope_congr hscope hroles, hpresence, hscope, hprobe, hnow]

/-! ### An exchange is sent -/

theorem mem_turnFrom {pointer positions pos : Nat} (h1 : 1 ≤ pos) (h : pos ≤ positions) : pos ∈ turnFrom pointer positions := by
  rw [turnFrom, List.mem_append, List.mem_range'_1, List.mem_range'_1]
  omega

section
variable {p : Part} {seg : Segment}

/-- The round sends where a position is due (R163). -/
theorem Part.serveRound_sends (h : ∃ pos, 1 ≤ pos ∧ pos ≤ seg.positions ∧ p.isDueAt seg pos) :
    (((p.serveRound seg).engine seg).line).isSome = true := by
  obtain ⟨pos, h1, hn, hdue⟩ := h
  unfold Part.serveRound
  split
  · next hnone =>
    exact absurd ((p.dueExchange_isSome seg pos).2 hdue) (List.find?_eq_none.1 hnone pos (mem_turnFrom h1 hn))
  · next c hfound =>
    have hsome : (p.dueExchange seg c).isSome = true := List.find?_some (p := fun pos => (p.dueExchange seg pos).isSome) hfound
    split
    · next hx => rw [hx] at hsome; exact absurd hsome Bool.false_ne_true
    · next x hx =>
      have hsent := Part.send_line (p.updEngine seg (fun e => { e with pointer := c })) seg x
      dsimp only
      split
      · rw [Part.setProbeDue, Part.engine_updEngine_same]; exact Option.isSome_iff_exists.2 ⟨_, hsent⟩
      · exact Option.isSome_iff_exists.2 ⟨_, hsent⟩

/-- The engine sends where a position is due, by its urgent list or by the round (R162, R163). -/
theorem Part.serveNext_sends (h : ∃ pos, 1 ≤ pos ∧ pos ≤ seg.positions ∧ p.isDueAt seg pos) :
    (((p.serveNext seg).engine seg).line).isSome = true := by
  unfold Part.serveNext
  split
  · exact Option.isSome_iff_exists.2 ⟨_, Part.send_line _ _ _⟩
  · obtain ⟨pos, h1, hn, hdue⟩ := h
    have hbase := Part.updEngine_base p seg (fun e => { e with urgent := [] })
    have hbare : ((p.updEngine seg (fun e => { e with urgent := [] })).engine seg).bare = (p.engine seg).bare := by
      rw [Part.engine_updEngine_same]; rfl
    have hroles : ((p.updEngine seg (fun e => { e with urgent := [] })).engine .wall).roles = (p.engine .wall).roles := by
      cases seg <;> rfl
    have hcores : (p.updEngine seg (fun e => { e with urgent := [] })).cores = p.cores := by cases seg <;> rfl
    generalize p.updEngine seg (fun e => { e with urgent := [] }) = q at hbase hbare hroles hcores
    have hpresence := Part.presenceAt_congr (Part.seatAt_health_of_base hbase) hcores (Part.ambient_of_base _ _ hbase)
      (Part.partitions_of_base _ _ hbase) hroles seg pos
    exact Part.serveRound_sends ⟨pos, h1, hn, (Part.isDueAt_congr hpresence hbare hroles (Part.now_of_base _ _ hbase)).2 hdue⟩

theorem Part.engineWaits_iff : p.engineWaits seg = true ↔ (p.engine seg).state = .running ∧ (p.engine seg).line = none ∧
    (p.engine seg).held = false ∧ p.control.sleep.of seg = false := by
  simp only [Part.engineWaits, Bool.and_eq_true, decide_eq_true_eq, Bool.not_eq_true', and_assoc]

/-- A waiting engine takes its next exchange (R162, R163). -/
theorem Part.kick_waits (h : p.engineWaits seg = true) : p.kick seg = p.serveNext seg := by
  obtain ⟨hstate, hline, hheld, hsleep⟩ := Part.engineWaits_iff.1 h
  unfold Part.kick
  rw [if_pos ⟨hstate, hline, hheld⟩, if_neg (by rw [hsleep]; exact Bool.false_ne_true)]

/-- An engine that does not wait, and has no displays to serve before it sleeps, takes none (R163, R171). -/
theorem Part.kick_rests (h : p.engineWaits seg = false) (hwall : seg = .wall → p.control.sleep.wall = false) : p.kick seg = p := by
  unfold Part.kick
  split
  · next hruns =>
    obtain ⟨hstate, hline, hheld⟩ := hruns
    have hsleep : p.control.sleep.of seg = true := by
      rw [← Bool.not_eq_false]
      intro hnot
      rw [Part.engineWaits_iff.2 ⟨hstate, hline, hheld, hnot⟩] at h
      exact Bool.false_ne_true h.symm
    rw [if_pos hsleep]
    cases seg with
    | left => rfl
    | right => rfl
    | wall => exact absurd (hwall rfl) (by rw [show p.control.sleep.wall = true from hsleep]; exact nofun)
  · rfl
end

theorem Part.turn_engineWaits (old : Part) {p : Part} {seg : Segment} (h : (p.engine seg).walkRequested = false) :
    (old.turn p seg).engineWaits seg = p.engineWaits seg := by
  have hbare := Part.turn_engine old h
  rw [Part.engineWaits, Part.engineWaits, Engine.state_of_bare hbare, Engine.line_of_bare hbare, Engine.held_of_bare hbare,
    old.turn_control p seg]

/-- At the end of a step a waiting engine with a position due sends an exchange (R163). -/
theorem Part.settle_sends (old : Part) {p : Part} {seg : Segment} (hw : (p.engine seg).walkRequested = false)
    (hwaits : p.engineWaits seg = true) (hdue : ∃ pos, 1 ≤ pos ∧ pos ≤ seg.positions ∧ p.isDueAt seg pos) :
    (((old.settle p).engine seg).line).isSome = true := by
  rw [Part.settle_turn, Part.kick_waits (by rw [Part.turn_engineWaits old hw]; exact hwaits)]
  obtain ⟨pos, h1, hn, h⟩ := hdue
  exact Part.serveNext_sends ⟨pos, h1, hn, (Part.isDueAt_congr (old.turn_presenceAt p seg seg pos) (Part.turn_engine old hw)
    (old.turn_roles p seg) (old.turn_now p seg)).2 h⟩

/-- At the end of a step an engine that does not wait keeps its line and its state. -/
theorem Part.settle_rests (old : Part) {p : Part} {seg : Segment} (hw : (p.engine seg).walkRequested = false)
    (hrests : p.engineWaits seg = false) (hwall : seg = .wall → p.control.sleep.wall = false) :
    ((old.settle p).engine seg).bare = (p.engine seg).bare := by
  rw [Part.settle_turn, Part.kick_rests (by rw [Part.turn_engineWaits old hw]; exact hrests)
    (by rw [old.turn_control p seg]; exact hwall), Part.turn_engine old hw]

/-! ### O49 -/

theorem exec_probeDue (seg : Segment) (s : State) : exec (.probeDue seg) s = s.become (s.part.event (fun p => p.reachProbe seg)) := rfl

section
variable {p : Part} {seg : Segment} {t : Nat}

theorem Part.reachProbe_waits (h : p.engineWaits seg = true) (ht : p.earliestProbe seg = some t) : p.reachProbe seg = p.passTime t := by
  rw [Part.reachProbe, if_pos h, ht]

theorem Part.reachProbe_rests (h : p.engineWaits seg = false) : p.reachProbe seg = p := by
  rw [Part.reachProbe, h]; rfl

/-- The position that waits for the earliest `probe_due` (R163). -/
theorem Part.earliestProbe_some (h : p.earliestProbe seg = some t) :
    ∃ pos, 1 ≤ pos ∧ pos ≤ seg.positions ∧ p.awaitsProbe seg pos = true ∧ (nth (p.engine seg).probeDue pos).getD 0 = t := by
  have hmem := List.min?_mem h
  obtain ⟨pos, hpos, ht⟩ := List.mem_map.1 hmem
  obtain ⟨hrange, hawaits⟩ := List.mem_filter.1 hpos
  rw [List.mem_range'_1] at hrange
  exact ⟨pos, hrange.1, by omega, hawaits, ht⟩

theorem Part.awaitsProbe_iff {pos : Nat} : p.awaitsProbe seg pos = true ↔ p.inScope seg pos = true ∧
    (p.presenceAt seg pos).polled = false ∧ (p.presenceAt seg pos = .cutOff ∨ (p.engine seg).scope = .full) := by
  simp only [Part.awaitsProbe, Bool.and_eq_true, Bool.or_eq_true, decide_eq_true_eq, Bool.not_eq_true', and_assoc]

theorem Part.passTime_engine (p : Part) (t : Nat) (a : Segment) : (p.passTime t).engine a = p.engine a := by
  unfold Part.passTime; split
  · rfl
  · cases a <;> rfl

theorem Part.passTime_partitions (p : Part) (t : Nat) : (p.passTime t).partitions = p.partitions := by
  unfold Part.passTime; split <;> rfl

theorem Part.passTime_ambient (p : Part) (t : Nat) : (p.passTime t).ambient = p.ambient := by
  unfold Part.passTime; split <;> rfl

theorem Part.passTime_cores (p : Part) (t : Nat) : (p.passTime t).cores = p.cores := by
  unfold Part.passTime; split
  · rfl
  · exact p.countSeconds_displays _

theorem Seat.endGuard_health (t : Nat) (x : Seat) : (x.endGuard t).health = x.health := by
  unfold Seat.endGuard
  split
  · rfl
  · split <;> rfl

theorem Part.passTime_health (p : Part) (t n : Nat) : ((p.passTime t).seatAt n).health = (p.seatAt n).health := by
  unfold Part.passTime
  split
  · rfl
  · refine getD_of_map Seat.health _ _ startSeat (nth_of_map Seat.health _ _ ?_ n)
    exact map_map_of_keeps Seat.health _ _ (Seat.endGuard_health t)

theorem Part.passTime_presenceAt (p : Part) (t : Nat) (a : Segment) (pos : Nat) : (p.passTime t).presenceAt a pos = p.presenceAt a pos :=
  Part.presenceAt_congr (p.passTime_health t) (p.passTime_cores t) (p.passTime_ambient t) (p.passTime_partitions t)
    (congrArg Engine.roles (p.passTime_engine t .wall)) a pos

/-- The position that waits is due once the timebase has reached its `probe_due` (R163). -/
theorem Part.passTime_due {pos : Nat} (hawaits : p.awaitsProbe seg pos = true) (ht : (nth (p.engine seg).probeDue pos).getD 0 = t) :
    (p.passTime t).isDueAt seg pos := by
  obtain ⟨hscope, -, hkind⟩ := Part.awaitsProbe_iff.1 hawaits
  have hengine := p.passTime_engine t seg
  refine ⟨?_, .inr ⟨?_, ?_⟩⟩
  · rw [Part.inScope_congr (congrArg Engine.scope hengine) (congrArg Engine.roles (p.passTime_engine t .wall))]; exact hscope
  · rw [hengine, ht, p.passTime_now]; exact Nat.le_max_right _ _
  · rw [p.passTime_presenceAt, hengine]; exact hkind
end

/-- Settles O49: a waiting engine finds the position with the earliest `probe_due` due, another takes no exchange. -/
theorem probeDueSendsAnExchange : Obligations.ProbeDueSendsAnExchange := by
  intro s seg hr
  refine ⟨fun t hwaits hw ht => ?_, fun hrests => ?_⟩
  · have hends := ends_stepped (exec_probeDue seg s) hr (Part.reachProbe_waits hwaits ht) (s.part.passTime_answer t)
    obtain ⟨pos, h1, hn, hawaits, hdue⟩ := Part.earliestProbe_some ht
    have hengine := s.part.passTime_engine t seg
    have hwaits' : (s.part.passTime t).engineWaits seg = true := by
      rw [Part.engineWaits, hengine, Part.passTime_control]; exact hwaits
    refine ⟨_, hends, ?_, Part.settle_sends s.part (by rw [hengine]; exact hw) hwaits' ⟨pos, h1, hn, Part.passTime_due hawaits hdue⟩,
      ?_, ?_, ?_, ?_, ?_⟩
    · rw [Part.settle_now, Part.passTime_now]
    · rw [Part.settle_clock, Part.passTime_clock]
    · rw [Part.settle_settings, Part.passTime_settings]
    · rw [Part.settle_slots, Part.passTime_slots]
    · rw [Part.settle_partitions, Part.passTime_partitions]
    · rw [Part.settle_ambient, Part.passTime_ambient]
  · have hends := ends_stepped (exec_probeDue seg s) hr (Part.reachProbe_rests hrests) rfl
    refine ⟨_, hends, Part.settle_records _ _, fun hw hwall => ?_⟩
    have hbare := Part.settle_rests s.part hw hrests hwall
    exact ⟨Engine.line_of_bare hbare, Engine.state_of_bare hbare⟩

end Sys2Proof.Machine
end

section
/-! A CONFLICT is counted (O50): what the owner of an exchange makes of its outcome counts none and answers no request. -/

namespace Sys2Proof.Machine

/-- From `p` to `q` no conflict is counted and no request is answered. -/
structure Part.CountsAs (p q : Part) : Prop where
  answer : q.answer = p.answer
  conflicts : ∀ a, (q.engine a).conflicts = (p.engine a).conflicts

theorem Engine.wakeUp_conflicts (e : Engine) : e.wakeUp.conflicts = e.conflicts := by unfold Engine.wakeUp; split <;> rfl

namespace Part.CountsAs

variable {p q : Part}

theorem refl (p : Part) : p.CountsAs p := ⟨rfl, fun _ => rfl⟩

/-- A step beside the engines. -/
theorem side {r : Part} (h : p.CountsAs q) (ha : r.answer = q.answer) (hs : r.side = q.side) : p.CountsAs r :=
  ⟨ha.trans h.answer, fun a => (Engine.conflicts_of_bare (Part.engine_of_side _ _ hs a)).trans (h.conflicts a)⟩

theorem base {r : Part} (h : p.CountsAs q) (hb : r.base = q.base) (hs : r.side = q.side) : p.CountsAs r :=
  h.side (Part.answer_of_base _ _ hb) hs

/-- An engine written beside its count. -/
theorem updEngine (h : p.CountsAs q) {seg : Segment} {g : Engine → Engine} (hg : ∀ e, (g e).conflicts = e.conflicts) :
    p.CountsAs (q.updEngine seg g) := by
  refine ⟨(Part.updEngine_answer ..).trans h.answer, fun a => Eq.trans ?_ (h.conflicts a)⟩
  by_cases ha : seg = a
  · subst ha; rw [Part.engine_updEngine_same, hg]
  · rw [Part.engine_updEngine_ne _ _ _ _ ha]

/-- A write beside the engines and the answer. -/
theorem same {r : Part} (h : p.CountsAs q) (ha : r.answer = q.answer) (he : ∀ a, r.engine a = q.engine a) : p.CountsAs r :=
  ⟨ha.trans h.answer, fun a => (congrArg Engine.conflicts (he a)).trans (h.conflicts a)⟩

theorem updSeat (h : p.CountsAs q) {n : Nat} {g : Seat → Seat} : p.CountsAs (q.updSeat n g) := h.side rfl rfl
theorem updDisplay (h : p.CountsAs q) {d : Nat} {g : Display → Display} : p.CountsAs (q.updDisplay d g) :=
  h.same rfl fun a => by cases a <;> rfl
theorem updPartition (h : p.CountsAs q) {k : Nat} {g : Partition → Partition} : p.CountsAs (q.updPartition k g) :=
  h.same rfl fun a => by cases a <;> rfl
theorem ambient (h : p.CountsAs q) {x : Ambient} : p.CountsAs { q with ambient := x } := h.same rfl fun a => by cases a <;> rfl
theorem raise (h : p.CountsAs q) {k : NoticeKind} : p.CountsAs (q.raise k) := h.base (q.raise_base k) (q.raise_side k)
theorem send (h : p.CountsAs q) {seg : Segment} {x : Exchange} : p.CountsAs (q.send seg x) := h.updEngine fun _ => rfl
theorem setProbeDue (h : p.CountsAs q) {seg : Segment} {pos : Nat} : p.CountsAs (q.setProbeDue seg pos) := h.updEngine fun _ => rfl

theorem foldl {α : Type} {f : Part → α → Part} (hf : ∀ (r : Part) (x : α), p.CountsAs r → p.CountsAs (f r x)) (l : List α)
    (h : p.CountsAs q) : p.CountsAs (l.foldl f q) := foldl_inv p.CountsAs f (fun r x k => hf r x k) l q h

/-! ### The ends of steps -/

theorem follow (h : p.CountsAs q) {old : Part} : p.CountsAs (old.follow q) := h.base (old.follow_base q) (old.follow_side q)
theorem noteChanges (h : p.CountsAs q) {old : Part} : p.CountsAs (old.noteChanges q) :=
  h.base (old.noteChanges_base q) (old.noteChanges_side q)

theorem settle (h : p.CountsAs q) {old : Part} : p.CountsAs (old.settle q) := by
  refine ⟨(old.settle_answer q).trans h.answer, fun a => Eq.trans ?_ (h.conflicts a)⟩
  rcases Part.settle_still_or_walked old q a with hs | hs
  · exact Engine.conflicts_of_still hs
  · rw [hs]; rfl

/-! ### Power -/

theorem checkAwake (h : p.CountsAs q) : p.CountsAs q.checkAwake := by
  unfold Part.checkAwake
  split
  · have hawake : p.CountsAs ({ q with
        control := { q.control with tableState := .awake, idleMark := q.now }
        left := { q.left with held := false }, right := { q.right with held := false } } : Part) :=
      ⟨h.answer, fun a => Eq.trans (by cases a <;> rfl) (h.conflicts a)⟩
    exact hawake.base (Part.runTasks_base _ _) (Part.runTasks_side _ _)
  · exact h

theorem wake (h : p.CountsAs q) {c : WakeCause} : p.CountsAs (q.wake c) := by
  unfold Part.wake
  split
  · have hwaking : p.CountsAs (q.toWaking c) := by
      refine ⟨h.answer, fun a => Eq.trans ?_ (h.conflicts a)⟩
      cases a with
      | left => exact q.left.wakeUp_conflicts
      | right => exact q.right.wakeUp_conflicts
      | wall => rfl
    exact hwaking.checkAwake
  · exact h

/-! ### A POLL -/

theorem presenceMoved (h : p.CountsAs q) {n : Nat} {o : Presence} : p.CountsAs (q.presenceMoved n o) := by
  have hlost : p.CountsAs (q.loseSeat n) := h.base (q.loseSeat_base n) (q.loseSeat_side n)
  unfold Part.presenceMoved
  dsimp only
  repeat' split
  exacts [hlost.updSeat.setProbeDue, h.updSeat.setProbeDue, hlost.setProbeDue, h.setProbeDue, hlost.updSeat, h.updSeat, hlost, h]

theorem stopHold (h : p.CountsAs q) {n : Nat} : p.CountsAs (q.stopHold n) := h.base (q.stopHold_base n) (q.stopHold_side n)

theorem pollMoves (h : p.CountsAs q) {n : Nat} {good echo : Bool} : p.CountsAs (q.pollMoves n good echo) := by
  have hworked : p.CountsAs ((q.scoreSeat n good).workOutcome n good echo) :=
    h.updSeat.base (Part.workOutcome_base _ _ _ _) (Part.workOutcome_side _ _ _ _)
  have hmoved : p.CountsAs (((q.scoreSeat n good).workOutcome n good echo).moveSeat n good) := hworked.updSeat.presenceMoved
  unfold Part.pollMoves
  dsimp only
  split
  exacts [hmoved, hmoved.stopHold]

theorem takeBadge (h : p.CountsAs q) {n : Nat} {t : Tag} : p.CountsAs (q.takeBadge n t) := by
  unfold Part.takeBadge Part.reportAdmission
  repeat' split
  · exact h.updSeat
  · exact follow (h.updSeat.base (Part.admissionLost_base _ _ _) (Part.admissionLost_side _ _ _))
  · exact h.updSeat

theorem pressAt (h : p.CountsAs q) {n : Nat} {b : Button} : p.CountsAs (q.pressAt n b) := by
  refine h.base (q.pressAt_base n b) ?_
  unfold Part.pressAt
  repeat' split
  all_goals simp

theorem dispatch (h : p.CountsAs q) {n : Nat} {b : Button} : p.CountsAs (q.dispatch n b) := by
  unfold Part.dispatch
  split
  exacts [h.pressAt, h.side rfl (q.flash_side n)]

theorem notePress (h : p.CountsAs q) : p.CountsAs q.notePress := by
  have hmarked : p.CountsAs ({ q with control := { q.control with idleMark := q.now } } : Part) :=
    h.same rfl fun a => by cases a <;> rfl
  unfold Part.notePress
  dsimp only
  split
  exacts [hmarked.wake, hmarked]

theorem countOverrun (h : p.CountsAs q) {n : Nat} {b : Bool} : p.CountsAs (q.countOverrun n b) := by
  unfold Part.countOverrun
  split
  exacts [h.updSeat.base (Part.touchSeat_base _ _) (Part.touchSeat_side _ _), h]

theorem takeEvent (h : p.CountsAs q) {n : Nat} {b : Button} {ev : Option PressEvent} : p.CountsAs (q.takeEvent n b ev) := by
  unfold Part.takeEvent
  repeat' split
  · exact h
  · exact h
  · exact follow (notePress (dispatch (countOverrun h.updSeat)))

theorem risingEdge (h : p.CountsAs q) {n : Nat} : p.CountsAs (q.risingEdge n) := by
  refine h.base (q.risingEdge_base n) ?_
  unfold Part.risingEdge
  repeat' split
  all_goals simp

theorem takeLevel (h : p.CountsAs q) {n : Nat} {level : Bool} : p.CountsAs (q.takeLevel n level) := by
  unfold Part.takeLevel
  dsimp only
  split
  exacts [follow h.updSeat.risingEdge, follow h.updSeat.stopHold, h, h]

theorem pollTakes (h : p.CountsAs q) {n : Nat} {img : Image} {up : Uplink} : p.CountsAs (q.pollTakes n img up) :=
  takeLevel (takeEvent (takeEvent (takeEvent (takeBadge (follow h.updSeat)))))

theorem pollEnd (h : p.CountsAs q) {old : Part} {n : Nat} {img : Image} {o : LinkOutcome} {up : Uplink} :
    p.CountsAs (old.pollEnd q n img o up) := by
  unfold Part.pollEnd
  repeat' split
  · exact noteChanges (settle (pollTakes (follow h.pollMoves)))
  · exact settle h.pollMoves
  · exact h.settle

/-! ### SHOW and SENSE -/

theorem wallMoved (h : p.CountsAs q) {pos : Nat} {o : Presence} : p.CountsAs (q.wallMoved pos o) := by
  unfold Part.wallMoved; split
  exacts [h.setProbeDue, h]

theorem showReport (h : p.CountsAs q) {pos : Nat} {c : Effective} {v : Nat} {o : LinkOutcome} :
    p.CountsAs (q.showReport pos c v o) := by
  unfold Part.showReport Part.showEnded
  repeat' split
  · dsimp only; split
    exacts [h.updDisplay.wallMoved, h]
  · exact h

theorem partitionSettled (h : p.CountsAs q) {k : Nat} : p.CountsAs (q.partitionSettled k) := by
  have hsuspended : p.CountsAs q.evalSuspension := h.base q.evalSuspension_base q.evalSuspension_side
  have hnoted : p.CountsAs (q.evalSuspension.noteInside k) := by
    unfold Part.noteInside; split
    exacts [hsuspended.raise, hsuspended]
  exact hnoted.wake

theorem evalBand (h : p.CountsAs q) : p.CountsAs q.evalBand := by
  unfold Part.evalBand; split
  exacts [h, h.ambient]

theorem senseReport (h : p.CountsAs q) {pos : Nat} {r : Option Reading} : p.CountsAs (q.senseReport pos r) := by
  unfold Part.senseReport
  split
  · unfold Part.partitionSensed
    dsimp only
    repeat' split
    exacts [h.updPartition.wallMoved, h.updPartition.wallMoved.partitionSettled, h]
  · unfold Part.ambientSensed
    dsimp only
    repeat' split
    exacts [h.ambient.wallMoved, h.ambient.ambient.evalBand.wallMoved, h]
  · exact h

/-! ### PROBE, ASSIGN and PARK -/

theorem probeRole (h : p.CountsAs q) {r : WallRole} {pos : Nat} {x : Serial} : p.CountsAs (q.probeRole r pos x) := by
  cases r
  exacts [h.updDisplay, h.ambient, h.updPartition]

theorem parkProbed (h : p.CountsAs q) {seg : Segment} {pos : Nat} : p.CountsAs (q.parkProbed seg pos) := by
  unfold Part.parkProbed; split
  exacts [h, h.send]

theorem probeSeat (h : p.CountsAs q) {seg : Segment} {pos : Nat} {u : UnitReport} : p.CountsAs (q.probeSeat seg pos u) := by
  unfold Part.probeSeat; split
  exacts [h.updSeat, h.parkProbed]

theorem probeGood (h : p.CountsAs q) {seg : Segment} {pos : Nat} {u : UnitReport} : p.CountsAs (q.probeGood seg pos u) := by
  cases seg with
  | left => exact h.probeSeat
  | right => exact h.probeSeat
  | wall =>
    show p.CountsAs (q.probeWall pos u)
    unfold Part.probeWall
    repeat' split
    · exact h.probeRole
    · exact h.parkProbed
    · refine probeRole (updEngine h ?_)
      exact fun _ => rfl
    · exact h.parkProbed

theorem probeFailed (h : p.CountsAs q) {seg : Segment} {pos : Nat} : p.CountsAs (q.probeFailed seg pos) := by
  cases seg with
  | left => exact h.updSeat
  | right => exact h.updSeat
  | wall =>
    unfold Part.probeFailed
    dsimp only
    split
    · exact h
    · next r _ =>
      cases r
      exacts [h.updDisplay, h.ambient, h.updPartition]

theorem offer (h : p.CountsAs q) {seg : Segment} {w : WalkContext} : p.CountsAs (q.offer seg w) := by
  unfold Part.offer
  refine send (updEngine h ?_)
  exact fun _ => rfl
theorem park (h : p.CountsAs q) {seg : Segment} {w : WalkContext} : p.CountsAs (q.park seg w) := by
  unfold Part.park
  refine send (updEngine h ?_)
  exact fun _ => rfl
theorem parkEntry (h : p.CountsAs q) {seg : Segment} {w : WalkContext} : p.CountsAs (q.parkEntry seg w) := by
  unfold Part.parkEntry
  refine send (updEngine h ?_)
  exact fun _ => rfl

theorem reportWalk (h : p.CountsAs q) {seg : Segment} {w : WalkContext} : p.CountsAs (q.reportWalk seg w) := by
  refine ⟨?_, fun a => Eq.trans ?_ (h.conflicts a)⟩
  · by_cases hseg : seg = .wall
    · subst hseg; exact h.answer
    · rw [Part.reportWalk_seats hseg]
      exact (congrArg Base.answer (q.reportSeats_ground seg w)).trans h.answer
  · have hclosed := q.reportWalk_closed seg a w
    have hfield := congrArg Engine.conflicts hclosed
    exact hfield

theorem endWalk (h : p.CountsAs q) {seg : Segment} {w : WalkContext} : p.CountsAs (q.endWalk seg w) := by
  have hclosed : p.CountsAs (q.closeWalk seg w) := by
    refine updEngine h ?_
    exact fun _ => rfl
  exact checkAwake (foldl (fun _ _ k => k.setProbeDue) _ hclosed.reportWalk)

theorem assignEnd (h : p.CountsAs q) {seg : Segment} {w : WalkContext} {o : LinkOutcome} {u : UnitReport} :
    p.CountsAs (q.assignEnd seg w o u) := by
  have hgood : p.CountsAs (q.assignGood seg w u) := by
    unfold Part.assignGood Part.offerNext
    repeat' split
    exacts [h.offer, h.parkEntry, h.park]
  unfold Part.assignEnd
  repeat' split
  exacts [hgood, h.endWalk, h.endWalk, h.offer, h.endWalk, h.offer]

theorem assignReport (h : p.CountsAs q) {seg : Segment} {o : LinkOutcome} {u : UnitReport} :
    p.CountsAs (q.assignReport seg o u) := by
  unfold Part.assignReport; split
  exacts [h.assignEnd, h]

theorem parkReport (h : p.CountsAs q) {seg : Segment} {o : LinkOutcome} : p.CountsAs (q.parkReport seg o) := by
  have hparked : p.CountsAs (q.updEngine seg Engine.parked) := h.updEngine fun _ => rfl
  unfold Part.parkReport Part.parkEntryEnd Part.parkEnd
  repeat' split
  exacts [hparked.endWalk, h.endWalk, hparked.offer, h.endWalk, h.park, hparked, h]

end Part.CountsAs

end Sys2Proof.Machine
end

section
/-! What the engine of a segment sees when it takes its next exchange: images, presences, the roles of WALL and what the displays
show (O50). -/

namespace Sys2Proof.Machine

/-! ### The sight of the engines -/

/-- What a seat's image and presence are read from. -/
structure SeatSign where
  occupant : Option Tag
  flashDue : Bool
  takenTags : TakenTags
  presence : Presence

def Seat.sign (x : Seat) : SeatSign :=
  { occupant := x.occupant, flashDue := x.flashDue, takenTags := x.takenTags, presence := x.health.presence }

/-- What the images and presences of a part are read from, with the timebase and the power controller. -/
structure Sight where
  floors : List Floor
  queues : List Queue
  seats : List SeatSign
  displays : List Presence
  partitions : List Presence
  ambient : Presence
  control : PowerControl
  now : Nat

def Part.sight (p : Part) : Sight :=
  { floors := p.floors, queues := p.queues, seats := p.seats.map Seat.sign
    displays := p.displays.map (fun d => d.health.presence), partitions := p.partitions.map (fun k => k.health.presence)
    ambient := p.ambient.health.presence, control := p.control, now := p.now }

theorem map_of_quiet {α : Type} (φ : Seat → α) (hφ : ∀ x, φ x.quiet = φ x) {l m : List Seat} (h : l.map Seat.quiet = m.map Seat.quiet) :
    l.map φ = m.map φ := by
  have hmapped := congrArg (List.map φ) h
  simpa only [List.map_map, Function.comp_def, hφ] using hmapped

theorem map_of_core {α : Type} (φ : DisplayCore → α) {l m : List Display} (h : l.map Display.core = m.map Display.core) :
    l.map (fun d => φ d.core) = m.map (fun d => φ d.core) := by
  have hmapped := congrArg (List.map φ) h
  simpa only [List.map_map, Function.comp_def] using hmapped

section
variable {p q : Part}

/-- The records give the sight. -/
theorem Part.sight_of_records (h : q.records = p.records) : q.sight = p.sight := by
  have hfloors : q.floors = p.floors := congrArg Records.floors h
  have hqueues : q.queues = p.queues := congrArg Records.queues h
  have hpartitions : q.partitions = p.partitions := congrArg Records.partitions h
  have hambient : q.ambient = p.ambient := congrArg Records.ambient h
  have hcontrol : q.control = p.control := congrArg Records.control h
  have hnow : q.now = p.now := congrArg Records.now h
  have hseats := map_of_quiet Seat.sign (fun _ => rfl) (congrArg Records.seats h)
  have hdisplays := map_of_core (fun c => c.health.presence) (congrArg Records.displays h)
  have hpresences : q.displays.map (fun d => d.health.presence) = p.displays.map (fun d => d.health.presence) := hdisplays
  simp only [Part.sight, hfloors, hqueues, hpartitions, hambient, hcontrol, hnow, hseats, hpresences]

theorem Part.seatAt_sign (h : q.sight = p.sight) (n : Nat) : (q.seatAt n).sign = (p.seatAt n).sign :=
  getD_of_map Seat.sign _ _ _ (nth_of_map Seat.sign _ _ (congrArg Sight.seats h) n)

/-- A seat's image is read from the sight (R67, R68). -/
theorem Part.imageOf_of_sight (h : q.sight = p.sight) (n : Nat) : q.imageOf n = p.imageOf n := by
  have hfloors : q.floors = p.floors := congrArg Sight.floors h
  have hqueues : q.queues = p.queues := congrArg Sight.queues h
  have hsign := Part.seatAt_sign h n
  have hoccupant : (q.seatAt n).occupant = (p.seatAt n).occupant := congrArg SeatSign.occupant hsign
  have hflash : (q.seatAt n).flashDue = (p.seatAt n).flashDue := congrArg SeatSign.flashDue hsign
  have htags : (q.seatAt n).takenTags = (p.seatAt n).takenTags := congrArg SeatSign.takenTags hsign
  have hentry : q.openEntryOf n = p.openEntryOf n := by
    simp only [Part.openEntryOf, Part.openEntry, Part.floorAt, hfloors]
  have hqueue : q.queueOf n = p.queueOf n := by simp only [Part.queueOf, Part.isQueued, Part.queueAt, hqueues]
  have hqueueAt : ∀ f, q.queueAt f = p.queueAt f := fun f => by rw [Part.queueAt, Part.queueAt, hqueues]
  have hhead : ∀ f, q.isHead f n = p.isHead f n := fun f => by unfold Part.isHead; rw [hqueueAt]
  have hlamp : q.lampOf n = p.lampOf n := by
    unfold Part.lampOf
    rw [hqueue]
    cases p.queueOf n with
    | none => rfl
    | some f => simp only [hhead]
  simp only [Part.imageOf, Part.micOf, hentry, hqueue, hlamp, hoccupant, hflash, htags]

/-- A position's presence is read from the sight and the roles of WALL (R150). -/
theorem Part.presenceAt_of_sight (h : q.sight = p.sight) (hroles : (q.engine .wall).roles = (p.engine .wall).roles) (seg : Segment)
    (pos : Nat) : q.presenceAt seg pos = p.presenceAt seg pos := by
  have hseat : ∀ n, (q.seatAt n).health.presence = (p.seatAt n).health.presence := fun n =>
    congrArg SeatSign.presence (Part.seatAt_sign h n)
  have hdisplay : ∀ d, (q.displayAt d).health.presence = (p.displayAt d).health.presence := fun d =>
    getD_of_map (fun d : Display => d.health.presence) _ _ _ (nth_of_map _ _ _ (congrArg Sight.displays h) d)
  have hpartition : ∀ k, (q.partitionAt k).health.presence = (p.partitionAt k).health.presence := fun k =>
    getD_of_map (fun k : Partition => k.health.presence) _ _ _ (nth_of_map _ _ _ (congrArg Sight.partitions h) k)
  have hambient : q.ambient.health.presence = p.ambient.health.presence := congrArg Sight.ambient h
  cases seg with
  | left => exact hseat pos
  | right => exact hseat (48 + pos)
  | wall => simp only [Part.presenceAt, Part.roleAt_congr hroles, hdisplay, hpartition, hambient]
end

/-! ### Displays that follow stay as they are -/

section
variable {p q : Part}

/-- A rotation at rest shows what it showed (R136, R139). -/
theorem Part.contentFor_restRotation (p : Part) (d : Display) : p.contentFor (p.restRotation d) = p.contentFor d := by
  unfold Part.restRotation
  split
  · rfl
  · next hrest =>
    unfold Part.contentFor
    split
    · rfl
    · cases hbinding : d.config.binding with
      | none => rfl
      | some z =>
        cases hfloor : p.floorOfZone z with
        | none => simp only [hfloor]
        | some f =>
          simp only [hfloor, Part.heldContent]
          cases hstate : (p.floorAt f).state with
          | live =>
            have hsecond : d.config.contentB = none := by
              rw [Part.rotationRuns, hbinding] at hrest
              simpa [hfloor, hstate] using hrest
            simp [hsecond]
          | free => rfl
          | preparing => rfl
          | ready => rfl
          | closing => rfl

theorem Part.recomputed_content (p : Part) (d : Display) : (p.recomputed d).content = p.contentFor d := p.contentFor_restRotation d

theorem Part.restRotation_config (p : Part) (d : Display) : (p.restRotation d).config = d.config := by
  unfold Part.restRotation; split <;> rfl

theorem Part.recomputed_level (p : Part) (d : Display) : (p.recomputed d).level = p.levelFor d := by
  have hlevel : p.levelFor (p.restRotation d) = p.levelFor d := by rw [Part.levelFor, Part.levelFor, p.restRotation_config]
  exact hlevel

theorem Part.recomputed_drive (p : Part) (d : Display) : (p.recomputed d).drive = p.driveFor (p.levelFor d) := by
  have hlevel : p.levelFor (p.restRotation d) = p.levelFor d := by rw [Part.levelFor, Part.levelFor, p.restRotation_config]
  exact congrArg p.driveFor hlevel

theorem Part.displayAt_mem (p : Part) (d : Nat) (x : Display) (h : nth p.displays d = some x) : x ∈ p.displays := by
  cases d with
  | zero => exact absurd h nofun
  | succ k => exact List.mem_of_getElem? h

/-- Where the displays follow the records, a recompute changes nothing that is shown (R141). -/
theorem Part.displayAt_recomputed (h : p.displaysFollow) (d : Nat) :
    ((nth (p.displays.map p.recomputed) d).getD (startDisplay factorySettings (factoryDisplay 1))).content = (p.displayAt d).content ∧
      ((nth (p.displays.map p.recomputed) d).getD (startDisplay factorySettings (factoryDisplay 1))).level = (p.displayAt d).level ∧
      ((nth (p.displays.map p.recomputed) d).getD (startDisplay factorySettings (factoryDisplay 1))).drive = (p.displayAt d).drive := by
  rw [nth_map, Part.displayAt]
  cases hd : nth p.displays d with
  | none => exact ⟨rfl, rfl, rfl⟩
  | some x =>
    obtain ⟨hcontent, hlevel, hdrive⟩ := h x (p.displayAt_mem d x hd)
    exact ⟨(p.recomputed_content x).trans hcontent.symm, (p.recomputed_level x).trans hlevel.symm, (p.recomputed_drive x).trans hdrive.symm⟩

theorem foldl_same {α : Type} (f : Part → α → Part) (l : List α) (h : ∀ r, ∀ a ∈ l, f r a = r) : ∀ r, l.foldl f r = r := by
  induction l with
  | nil => exact fun _ => rfl
  | cons a l ih =>
    intro r
    rw [List.foldl_cons, h r a (List.mem_cons_self ..)]
    exact ih (fun r b hb => h r b (List.mem_cons_of_mem a hb)) r

/-- Where the displays follow the records, a recompute asks for no exchange (R141). -/
theorem Part.recomputeAll_follows (h : p.displaysFollow) : p.recomputeAll = { p with displays := p.displays.map p.recomputed } := by
  unfold Part.recomputeAll
  dsimp only
  refine foldl_same _ _ (fun r d _ => ?_) _
  obtain ⟨hcontent, hlevel, hdrive⟩ := Part.displayAt_recomputed h d
  rw [if_neg]
  have hdiffers : (p.displayAt d).differs (Part.displayAt { p with displays := p.displays.map p.recomputed } d) = false := by
    rw [Display.differs, decide_eq_false_iff_not]
    exact fun hany => hany.elim (fun hc => hc hcontent.symm) fun hany => hany.elim (fun hl => hl hlevel.symm) fun hd => hd hdrive.symm
  rw [hdiffers]
  exact Bool.false_ne_true

/-- A recompute asks for exchanges on WALL alone (R141). -/
theorem Part.recomputeAll_seats_engine (p : Part) {seg : Segment} (hseg : seg ≠ .wall) : p.recomputeAll.engine seg = p.engine seg := by
  have hrequest : ∀ (r : Part) (d : Nat), (r.requestDisplay d).engine seg = r.engine seg := fun r d => by
    unfold Part.requestDisplay Part.requestUrgent
    repeat' split
    · rfl
    · exact Part.engine_updEngine_ne _ _ _ _ (Ne.symm hseg)
    · rfl
  unfold Part.recomputeAll
  dsimp only
  rw [foldl_keeps (fun r : Part => r.engine seg) _ (fun r d => by split; exacts [hrequest r d, rfl])]
  cases seg <;> rfl

/-- Where no image changed, no seat is asked for (R67). -/
theorem Part.syncSeats_same (old p : Part) (h : ∀ n, p.imageOf n = old.imageOf n) : old.syncSeats p = old.unconfirm p := by
  unfold Part.syncSeats
  refine foldl_same _ _ (fun r n _ => ?_) _
  rw [if_neg]
  have hsame : imageChanged old p n = false := by rw [imageChanged, h n]; exact decide_eq_false (fun hne => hne rfl)
  rw [hsame]
  exact Bool.false_ne_true
end

/-! ### From a step to the next exchange -/

/-- The engine of `seg` sees in `q` what it sees in `S`. -/
structure Part.Sees (S q : Part) (seg : Segment) : Prop where
  sight : q.sight = S.sight
  roles : (q.engine .wall).roles = (S.engine .wall).roles
  shows : seg = .wall → ∀ d, (q.displayAt d).content = (S.displayAt d).content ∧ (q.displayAt d).drive = (S.displayAt d).drive

section
variable {S q r : Part} {seg : Segment}

theorem Part.Sees.refl (S : Part) (seg : Segment) : S.Sees S seg := ⟨rfl, rfl, fun _ _ => ⟨rfl, rfl⟩⟩

theorem Part.Sees.imageOf (h : S.Sees q seg) (n : Nat) : q.imageOf n = S.imageOf n := Part.imageOf_of_sight h.sight n

theorem Part.Sees.presenceAt (h : S.Sees q seg) (a : Segment) (pos : Nat) : q.presenceAt a pos = S.presenceAt a pos :=
  Part.presenceAt_of_sight h.sight h.roles a pos

theorem Part.Sees.roleAt (h : S.Sees q seg) (pos : Nat) : q.roleAt pos = S.roleAt pos := Part.roleAt_congr h.roles pos

theorem Part.Sees.control (h : S.Sees q seg) : q.control = S.control := congrArg Sight.control h.sight

theorem Part.Sees.now (h : S.Sees q seg) : q.now = S.now := congrArg Sight.now h.sight

/-- A change beside the records and the displays. -/
theorem Part.Sees.engines (h : S.Sees q seg) (hrecords : r.records = q.records) (hdisplays : r.displays = q.displays)
    (hroles : (r.engine .wall).roles = (q.engine .wall).roles) : S.Sees r seg := by
  refine ⟨(Part.sight_of_records hrecords).trans h.sight, hroles.trans h.roles, fun hseg d => ?_⟩
  have hat : r.displayAt d = q.displayAt d := by rw [Part.displayAt, Part.displayAt, hdisplays]
  rw [hat]
  exact h.shows hseg d

theorem Part.kick_displays (p : Part) (seg : Segment) : (p.kick seg).displays = p.displays := by
  have hsend : ∀ (q : Part) (a : Segment) (x : Exchange), (q.send a x).displays = q.displays := fun q a x => by simp [Part.send]
  have hprobe : ∀ (q : Part) (a : Segment) (pos : Nat), (q.setProbeDue a pos).displays = q.displays := fun q a pos => by
    simp [Part.setProbeDue]
  have hround : ∀ (q : Part) (a : Segment), (q.serveRound a).displays = q.displays := fun q a => by
    unfold Part.serveRound
    repeat' split
    all_goals try dsimp only
    all_goals simp [hsend, hprobe]
  unfold Part.kick
  repeat' split
  · unfold Part.serveBlank; split <;> simp [hsend]
  · rfl
  · rfl
  · unfold Part.serveNext; split <;> simp [hsend, hround]
  · rfl

theorem Part.readyFor_displays (p : Part) (seg : Segment) : (p.readyFor seg).displays = p.displays := by
  cases seg with
  | left => rfl
  | right => rw [Part.readyFor, Part.kick_displays]
  | wall => rw [Part.readyFor, Part.kick_displays, Part.kick_displays]

theorem Part.Sees.takeWalks (h : S.Sees q seg) : S.Sees q.takeWalks seg := by
  refine h.engines q.takeWalks_records q.takeWalks_displays ?_
  rw [Part.takeWalks_engine]
  split <;> rfl

theorem Part.displaysFollow_takeWalks (h : q.displaysFollow) : q.takeWalks.displaysFollow := by
  intro d hd
  rw [Part.takeWalks_displays] at hd
  obtain ⟨hcontent, hlevel, hdrive⟩ := h d hd
  have hrecords := q.takeWalks_records
  have hcontrol : q.takeWalks.control = q.control := congrArg Records.control hrecords
  have hsettings : q.takeWalks.settings = q.settings := congrArg Records.settings hrecords
  have hambient : q.takeWalks.ambient = q.ambient := congrArg Records.ambient hrecords
  have hsame : q.takeWalks.levelFor d = q.levelFor d := by rw [Part.levelFor, Part.levelFor, hcontrol, hsettings, hambient]
  refine ⟨?_, hlevel.trans hsame.symm, ?_⟩
  · rw [Part.contentFor_of_records _ _ hrecords]; exact hcontent
  · rw [hsame, Part.driveFor, hsettings]; exact hdrive

/-- What follows a step in which nothing is seen to change leaves the engine as it is. -/
theorem Part.Sees.follow (h : S.Sees q seg) {old : Part} (hold : S.Sees old seg) (hdisplays : seg = .wall → q.displaysFollow) :
    S.Sees (old.follow q) seg ∧ (old.follow q).engine seg = q.engine seg := by
  have hsync : old.syncSeats q = old.unconfirm q := Part.syncSeats_same old q fun n => (h.imageOf n).trans (hold.imageOf n).symm
  have hroles := Engine.roles_of_still (Engine.still_of_bare (Part.follow_asked old q .wall).1)
  refine ⟨⟨(Part.sight_of_records (old.follow_records q)).trans h.sight, hroles.trans h.roles, fun hseg d => ?_⟩, ?_⟩
  · obtain ⟨hcontent, -, hdrive⟩ := Part.displayAt_recomputed (hdisplays hseg) d
    rw [Part.displayAt, Part.follow_displays, hcontent, hdrive]
    exact h.shows hseg d
  · rw [Part.follow, Part.noteChanges_engine, hsync]
    by_cases hseg : seg = .wall
    · have hfollows : (old.unconfirm q).displaysFollow := by
        intro d hd
        obtain ⟨hcontent, hlevel, hdrive⟩ := hdisplays hseg d hd
        refine ⟨?_, hlevel, hdrive⟩
        rw [Part.contentFor_of_records _ _ (old.unconfirm_records q)]
        exact hcontent
      rw [Part.recomputeAll_follows hfollows]
      cases seg <;> rfl
    · rw [Part.recomputeAll_seats_engine _ hseg]
      cases seg <;> rfl

/-- At the end of a step in which nothing is seen to change, the engine takes its next exchange from what it sees. -/
theorem Part.Sees.settle (h : S.Sees q seg) {old : Part} (hold : S.Sees old seg) (hdisplays : seg = .wall → q.displaysFollow)
    (hw : (q.engine seg).walkRequested = false) :
    ∃ Q, (old.settle q).engine seg = (Q.kick seg).engine seg ∧ S.Sees Q seg ∧ Q.engine seg = q.engine seg := by
  have hwalks : q.takeWalks.engine seg = q.engine seg := by
    rw [Part.takeWalks_engine, if_neg]
    rintro ⟨hrequested, -⟩
    rw [hw] at hrequested
    exact Bool.false_ne_true hrequested
  obtain ⟨hfollow, hengine⟩ := h.takeWalks.follow hold fun hseg => Part.displaysFollow_takeWalks (hdisplays hseg)
  refine ⟨old.turn q seg, old.settle_turn q seg, ?_, ?_⟩
  · refine hfollow.engines (Part.readyFor_records _ _) (Part.readyFor_displays _ _) ?_
    exact Engine.roles_of_still (Part.readyFor_still _ seg .wall)
  · rw [Part.turn, Part.readyFor_engine, hengine, hwalks]
end

end Sys2Proof.Machine
end

section
/-! Which exchange the engine of a segment takes: the urgent list, then the round (O50). -/

namespace Sys2Proof.Machine

/-! ### The urgent list -/

section
variable {p : Part} {seg : Segment}

/-- The oldest urgent position that can be served, and what is left of the list (R162). -/
theorem Part.takeUrgent_append {front back : List Nat} {pos : Nat} (hfront : ∀ q ∈ front, (p.presenceAt seg q).polled = false)
    (hpos : (p.presenceAt seg pos).polled = true) : p.takeUrgent seg (front ++ pos :: back) = some (pos, back) := by
  induction front with
  | nil => exact if_pos hpos
  | cons q front ih =>
    have hq : ¬ (p.presenceAt seg q).polled = true := by rw [hfront q (List.mem_cons_self ..)]; exact Bool.false_ne_true
    rw [List.cons_append, Part.takeUrgent, if_neg hq]
    exact ih fun r hr => hfront r (List.mem_cons_of_mem q hr)

theorem Part.takeUrgent_none {l : List Nat} (h : ∀ q ∈ l, (p.presenceAt seg q).polled = false) : p.takeUrgent seg l = none := by
  induction l with
  | nil => rfl
  | cons q l ih =>
    have hq : ¬ (p.presenceAt seg q).polled = true := by rw [h q (List.mem_cons_self ..)]; exact Bool.false_ne_true
    rw [Part.takeUrgent, if_neg hq]
    exact ih fun r hr => h r (List.mem_cons_of_mem q hr)

/-- An urgent exchange is sent (R162). -/
theorem Part.serveNext_urgent {pos : Nat} {back : List Nat} (h : p.takeUrgent seg (p.engine seg).urgent = some (pos, back)) :
    (p.serveNext seg).engine seg =
      { p.engine seg with urgent := back, line := some { exchange := p.roundExchange seg pos, orphan := false } } := by
  rw [Part.serveNext, h]
  dsimp only
  rw [Part.send, Part.engine_updEngine_same, Part.engine_updEngine_same]

theorem Part.serveNext_round (h : p.takeUrgent seg (p.engine seg).urgent = none) :
    p.serveNext seg = (p.updEngine seg (fun e => { e with urgent := [] })).serveRound seg := by
  rw [Part.serveNext, h]
end

/-! ### The order of the round -/

section
variable {pointer n : Nat}

theorem place_after {q : Nat} (h : pointer < q) (hq : q ≤ n) : (q + n - pointer - 1) % n = q - pointer - 1 := by
  have hsum : q + n - pointer - 1 = q - pointer - 1 + n := by omega
  rw [hsum, Nat.add_mod_right, Nat.mod_eq_of_lt (by omega)]

theorem place_upto {q : Nat} (h1 : 1 ≤ q) (h : q ≤ pointer) (hp : pointer ≤ n) :
    (q + n - pointer - 1) % n = q + n - pointer - 1 := Nat.mod_eq_of_lt (by omega)

/-- The round meets first the due position of the least place after the pointer (R163). -/
theorem find?_turnFrom {P : Nat → Bool} {pos : Nat} (hp : pointer ≤ n) (h1 : 1 ≤ pos) (hn : pos ≤ n) (hpos : P pos = true)
    (hfirst : ∀ q, 1 ≤ q → q ≤ n → (q + n - pointer - 1) % n < (pos + n - pointer - 1) % n → P q = false) :
    (turnFrom pointer n).find? P = some pos := by
  rw [turnFrom, List.find?_append]
  by_cases hafter : pointer < pos
  · have hplace := place_after hafter hn
    have hfound : (List.range' (pointer + 1) (n - pointer)).find? P = some pos := by
      rw [List.find?_range'_eq_some]
      refine ⟨hpos, by rw [List.mem_range'_1]; omega, fun j hj hlt => ?_⟩
      rw [hfirst j (by omega) (by omega) (by rw [place_after (q := j) (by omega) (by omega), hplace]; omega)]
      rfl
    rw [hfound]; rfl
  · have hplace := place_upto h1 (Nat.not_lt.1 hafter) hp
    have hnone : (List.range' (pointer + 1) (n - pointer)).find? P = none := by
      rw [List.find?_eq_none]
      intro j hj
      rw [List.mem_range'_1] at hj
      rw [hfirst j (by omega) (by omega) (by rw [place_after (q := j) (by omega) (by omega), hplace]; omega)]
      exact Bool.false_ne_true
    have hfound : (List.range' 1 (min pointer n)).find? P = some pos := by
      rw [List.find?_range'_eq_some]
      refine ⟨hpos, by rw [List.mem_range'_1]; omega, fun j hj hlt => ?_⟩
      rw [hfirst j hj (by omega) (by rw [place_upto (q := j) hj (by omega) hp, hplace]; omega)]
      rfl
    rw [hnone, hfound]; rfl

theorem find?_turnFrom_none {P : Nat → Bool} (h : ∀ q, 1 ≤ q → q ≤ n → P q = false) : (turnFrom pointer n).find? P = none := by
  rw [List.find?_eq_none]
  intro q hq
  rw [turnFrom, List.mem_append, List.mem_range'_1, List.mem_range'_1] at hq
  rw [h q (by omega) (by omega)]
  exact Bool.false_ne_true
end

/-! ### The round -/

section
variable {p : Part} {seg : Segment} {pos : Nat}

theorem Part.dueExchange_polled (h : p.isDueAt seg pos) (hpolled : (p.presenceAt seg pos).polled = true) :
    p.dueExchange seg pos = some (p.roundExchange seg pos) := by
  obtain ⟨hscope, -⟩ := h
  rw [Part.dueExchange, if_pos hscope, if_pos hpolled]

theorem Part.dueExchange_probe (h : p.isDueAt seg pos) (hpolled : (p.presenceAt seg pos).polled = false) :
    p.dueExchange seg pos = some (.probe pos) := by
  obtain ⟨hscope, hkind⟩ := h
  have hnot : ¬ (p.presenceAt seg pos).polled = true := by rw [hpolled]; exact Bool.false_ne_true
  rw [Part.dueExchange, if_pos hscope, if_neg hnot, if_pos (hkind.resolve_left hnot)]

/-- The exchange of a position that can be served is no PROBE (R162). -/
theorem Part.roundExchange_not_probe (hpolled : (p.presenceAt seg pos).polled = true) (a : Nat) :
    p.roundExchange seg pos ≠ .probe a := by
  cases seg with
  | left => exact nofun
  | right => exact nofun
  | wall =>
    unfold Part.roundExchange
    rw [Part.presenceAt] at hpolled
    cases hrole : p.roleAt pos with
    | none => rw [hrole] at hpolled; exact absurd hpolled Bool.false_ne_true
    | some r => cases r <;> exact nofun

/-- The engine once the round has served a position that can be served (R163). -/
theorem Part.serveRound_polled (hfound : (turnFrom (p.engine seg).pointer seg.positions).find? (fun a => (p.dueExchange seg a).isSome) =
    some pos) (hdue : p.isDueAt seg pos) (hpolled : (p.presenceAt seg pos).polled = true) :
    (p.serveRound seg).engine seg =
      { p.engine seg with pointer := pos, line := some { exchange := p.roundExchange seg pos, orphan := false } } := by
  rw [Part.serveRound, hfound]
  dsimp only
  rw [Part.dueExchange_polled hdue hpolled]
  dsimp only
  split
  · next a ha => exact absurd ha (Part.roundExchange_not_probe hpolled a)
  · rw [Part.send, Part.engine_updEngine_same, Part.engine_updEngine_same]

/-- The engine once the round has sent a PROBE (R163). -/
theorem Part.serveRound_probe (hfound : (turnFrom (p.engine seg).pointer seg.positions).find? (fun a => (p.dueExchange seg a).isSome) =
    some pos) (hdue : p.isDueAt seg pos) (hpolled : (p.presenceAt seg pos).polled = false) :
    (p.serveRound seg).engine seg =
      { p.engine seg with
        pointer := pos, line := some { exchange := .probe pos, orphan := false }
        probeDue := upd (p.engine seg).probeDue pos (fun _ => p.now + (p.presenceAt seg pos).interval) } := by
  rw [Part.serveRound, hfound]
  dsimp only
  rw [Part.dueExchange_probe hdue hpolled]
  dsimp only
  have hbase : ((p.updEngine seg (fun e => { e with pointer := pos })).send seg (.probe pos)).base = p.base := by
    rw [Part.send_base, Part.updEngine_base]
  have hengine : ((p.updEngine seg (fun e => { e with pointer := pos })).send seg (.probe pos)).engine seg =
      { p.engine seg with pointer := pos, line := some { exchange := .probe pos, orphan := false } } := by
    rw [Part.send, Part.engine_updEngine_same, Part.engine_updEngine_same]
  have hroles : (((p.updEngine seg (fun e => { e with pointer := pos })).send seg (.probe pos)).engine .wall).roles =
      (p.engine .wall).roles := by cases seg <;> rfl
  have hcores : ((p.updEngine seg (fun e => { e with pointer := pos })).send seg (.probe pos)).cores = p.cores := by cases seg <;> rfl
  generalize (p.updEngine seg (fun e => { e with pointer := pos })).send seg (.probe pos) = sent at hbase hengine hroles hcores
  have hpresence := Part.presenceAt_congr (Part.seatAt_health_of_base hbase) hcores (Part.ambient_of_base _ _ hbase)
    (Part.partitions_of_base _ _ hbase) hroles seg pos
  rw [Part.setProbeDue, Part.engine_updEngine_same, hengine, hpresence, Part.now_of_base _ _ hbase]

theorem Part.serveRound_urgent (p : Part) (seg : Segment) : ((p.serveRound seg).engine seg).urgent = (p.engine seg).urgent := by
  unfold Part.serveRound
  repeat' split
  all_goals try dsimp only
  all_goals simp [Part.send, Part.setProbeDue]

theorem Part.serveRound_none (h : (turnFrom (p.engine seg).pointer seg.positions).find? (fun a => (p.dueExchange seg a).isSome) = none) :
    p.serveRound seg = p := by rw [Part.serveRound, h]
end

/-! ### The next exchange of an engine that waits -/

section
variable {Q : Part} {seg : Segment}

/-- The part in which the round is asked, none of the urgent positions being served (R162). -/
theorem Part.withoutUrgent (Q : Part) (seg : Segment) :
    (∀ pos, (Q.updEngine seg (fun e => { e with urgent := [] })).presenceAt seg pos = Q.presenceAt seg pos) ∧
      (∀ pos, (Q.updEngine seg (fun e => { e with urgent := [] })).isDueAt seg pos ↔ Q.isDueAt seg pos) ∧
      (∀ pos, (Q.updEngine seg (fun e => { e with urgent := [] })).roundExchange seg pos = Q.roundExchange seg pos) ∧
      (Q.updEngine seg (fun e => { e with urgent := [] })).engine seg = { Q.engine seg with urgent := [] } ∧
      (Q.updEngine seg (fun e => { e with urgent := [] })).now = Q.now := by
  have hengine := Part.engine_updEngine_same Q seg (fun e => { e with urgent := [] })
  have hrecords := Q.updEngine_records seg (fun e => { e with urgent := [] })
  have hroles : ((Q.updEngine seg (fun e => { e with urgent := [] })).engine .wall).roles = (Q.engine .wall).roles := by
    cases seg <;> rfl
  have hdisplays : ∀ d, (Q.updEngine seg (fun e => { e with urgent := [] })).displayAt d = Q.displayAt d := fun d => by cases seg <;> rfl
  generalize Q.updEngine seg (fun e => { e with urgent := [] }) = q at hengine hrecords hroles hdisplays
  have hsight := Part.sight_of_records hrecords
  have hnow : q.now = Q.now := congrArg Sight.now hsight
  have hpresence := fun pos => Part.presenceAt_of_sight hsight hroles seg pos
  refine ⟨hpresence, fun pos => Part.isDueAt_congr (hpresence pos) (by rw [hengine]; rfl) hroles hnow, fun pos => ?_, hengine, hnow⟩
  cases seg with
  | left => rw [Part.roundExchange, Part.roundExchange, Part.imageOf_of_sight hsight]
  | right => rw [Part.roundExchange, Part.roundExchange, Part.imageOf_of_sight hsight]
  | wall => simp only [Part.roundExchange, Part.roleAt_congr hroles, hdisplays]

variable (hwaits : Q.engineWaits seg = true)
include hwaits

theorem Part.kick_urgent {front back : List Nat} {pos : Nat} (hurgent : (Q.engine seg).urgent = front ++ pos :: back)
    (hfront : ∀ q ∈ front, (Q.presenceAt seg q).polled = false) (hpos : (Q.presenceAt seg pos).polled = true) :
    (Q.kick seg).engine seg =
      { Q.engine seg with urgent := back, line := some { exchange := Q.roundExchange seg pos, orphan := false } } := by
  rw [Part.kick_waits hwaits, Part.serveNext_urgent (by rw [hurgent]; exact Part.takeUrgent_append hfront hpos)]

section
variable (hurgent : ∀ q ∈ (Q.engine seg).urgent, (Q.presenceAt seg q).polled = false)
include hurgent

theorem Part.kick_none (hnone : ∀ pos, 1 ≤ pos → pos ≤ seg.positions → ¬ Q.isDueAt seg pos) :
    (Q.kick seg).engine seg = { Q.engine seg with urgent := [] } := by
  obtain ⟨-, hdue, -, hengine, -⟩ := Q.withoutUrgent seg
  rw [Part.kick_waits hwaits, Part.serveNext_round (Part.takeUrgent_none hurgent)]
  generalize Q.updEngine seg (fun e => { e with urgent := [] }) = q at hdue hengine
  rw [Part.serveRound_none (find?_turnFrom_none fun pos h1 hn => ?_), hengine]
  rw [← Bool.not_eq_true, q.dueExchange_isSome, hdue]
  exact hnone pos h1 hn

/-- Urgent positions none of which can be served are dropped (R162). -/
theorem Part.kick_drops : ((Q.kick seg).engine seg).urgent = [] := by
  rw [Part.kick_waits hwaits, Part.serveNext_round (Part.takeUrgent_none hurgent), Part.serveRound_urgent, Part.engine_updEngine_same]

/-- The round serves the first due position after the pointer (R163). -/
theorem Part.kick_round {pos : Nat} (hpointer : (Q.engine seg).pointer ≤ seg.positions) (h1 : 1 ≤ pos) (hn : pos ≤ seg.positions)
    (hdue : Q.isDueAt seg pos)
    (hfirst : ∀ q, 1 ≤ q → q ≤ seg.positions → (q + seg.positions - (Q.engine seg).pointer - 1) % seg.positions <
      (pos + seg.positions - (Q.engine seg).pointer - 1) % seg.positions → ¬ Q.isDueAt seg q) :
    (Q.kick seg).engine seg =
      if (Q.presenceAt seg pos).polled then
        { Q.engine seg with
          urgent := [], pointer := pos, line := some { exchange := Q.roundExchange seg pos, orphan := false } }
      else
        { Q.engine seg with
          urgent := [], pointer := pos, line := some { exchange := .probe pos, orphan := false }
          probeDue := upd (Q.engine seg).probeDue pos (fun _ => Q.now + (Q.presenceAt seg pos).interval) } := by
  obtain ⟨hpresence, hsame, hround, hengine, hnow⟩ := Q.withoutUrgent seg
  rw [Part.kick_waits hwaits, Part.serveNext_round (Part.takeUrgent_none hurgent)]
  generalize Q.updEngine seg (fun e => { e with urgent := [] }) = q at hpresence hsame hround hengine hnow
  have hfound : (turnFrom (q.engine seg).pointer seg.positions).find? (fun a => (q.dueExchange seg a).isSome) = some pos := by
    rw [hengine]
    refine find?_turnFrom hpointer h1 hn ((q.dueExchange_isSome seg pos).2 ((hsame pos).2 hdue)) fun a ha ha' hlt => ?_
    rw [← Bool.not_eq_true, q.dueExchange_isSome, hsame]
    exact hfirst a ha ha' hlt
  split
  · next hpolled =>
    rw [Part.serveRound_polled hfound ((hsame pos).2 hdue) (by rw [hpresence]; exact hpolled), hengine, hround]
  · next hpolled =>
    rw [Part.serveRound_probe hfound ((hsame pos).2 hdue) (by rw [hpresence]; exact Bool.eq_false_iff.2 hpolled), hengine, hpresence,
      hnow]
end
end

end Sys2Proof.Machine
end

section
/-! What an engine sends after an exchange that asks for nothing, and the count of conflicts (O50). -/

namespace Sys2Proof.Machine

/-! ### Conflicts -/

/-- What the owner of an exchange makes of its outcome: no conflict counted, no request answered, no flag lowered. -/
structure Part.Quietly (p q : Part) : Prop where
  counts : p.CountsAs q
  raises : p.RaisesTo q

section
variable {p q : Part} {seg : Segment} {o : LinkOutcome}

theorem Part.Quietly.of_keeps (hc : p.CountsAs q) (hk : p.Keeps q) : p.Quietly q := ⟨hc, hk.flags⟩

theorem Part.Quietly.exchangeEnds (l : OnLine) {report : Part → Part}
    (hc : (p.lineEnds seg o).CountsAs (report (p.lineEnds seg o))) (hk : (p.lineEnds seg o).Keeps (report (p.lineEnds seg o))) :
    (p.lineEnds seg o).Quietly (p.exchangeEnds seg l o report) := by
  unfold Part.exchangeEnds
  split
  · exact .of_keeps (Part.CountsAs.refl _).settle (Part.Keeps.refl _).settle
  · exact .of_keeps hc.settle hk.settle

theorem Part.noteChanges_raises (old p : Part) : p.RaisesTo (old.noteChanges p) := fun _ h => or_and_ne_zero _ _ _ h

theorem Part.Quietly.pollReport {pos : Nat} {img : Image} {orphan : Bool} {up : Uplink} :
    (p.lineEnds seg o).Quietly (p.pollReport seg pos img orphan o up) := by
  have hk := Part.Keeps.refl (p.lineEnds seg o)
  unfold Part.pollReport
  split
  · exact .of_keeps (Part.CountsAs.refl _).settle hk.settle
  · refine ⟨(Part.CountsAs.refl _).pollEnd, ?_⟩
    unfold Part.pollEnd
    repeat' split
    · exact fun k hf => Part.noteChanges_raises _ _ k (hk.pollMoves.follow.pollTakes.settle.flags k hf)
    · exact hk.pollMoves.settle.flags
    · exact hk.settle.flags

/-- Any answer to the exchange on the line, from its row to its owner (R152, R153). -/
theorem State.answered {s : State} {l : OnLine} {rx : Reception} {fits : Bool} {c : Instr} (hr : s.runs)
    (hl : (s.part.engine seg).line = some l) (hc : s.part.answersWith seg l.exchange rx fits c) :
    ∃ q, exec c s = s.become q ∧ (s.part.lineEnds seg (outcomeOf rx fits)).Quietly q := by
  have hline := s.part.lineOf_of seg l hr hl
  have hcounts := Part.CountsAs.refl (s.part.lineEnds seg (outcomeOf rx fits))
  have hkeeps := Part.Keeps.refl (s.part.lineEnds seg (outcomeOf rx fits))
  obtain ⟨⟨pos, img⟩ | ⟨pos, content, drive⟩ | pos | pos | pos | pos, orphan⟩ := l
  -- a poll
  · obtain ⟨up, rfl, rfl⟩ := hc
    refine ⟨_, exec_pollAnswer seg rx up s, ?_⟩
    rw [Part.pollAnswered, hline]
    exact .pollReport
  -- a show
  · obtain ⟨rfl, named, kind, rfl, rfl⟩ := hc
    refine ⟨s.part.showAnswered rx named, rfl, ?_⟩
    rw [Part.showAnswered, hline]
    exact .exchangeEnds _ hcounts.showReport hkeeps.showReport
  -- a sense
  · obtain ⟨rfl, named, reading, hc, rfl⟩ := hc
    refine ⟨_, exec_sense hc, ?_⟩
    rw [Part.senseAnswered, hline]
    exact .exchangeEnds _ hcounts.senseReport hkeeps.senseReport
  -- a probe
  · obtain ⟨u, rfl, rfl⟩ := hc
    refine ⟨_, exec_probeAnswer seg rx u s, ?_⟩
    rw [Part.probeAnswered, hline]
    refine .exchangeEnds _ ?_ ?_
    · split
      exacts [hcounts.probeGood, hcounts.probeFailed]
    · split
      exacts [hkeeps.probeGood, hkeeps.probeFailed]
  -- an assign
  · obtain ⟨u, rfl, rfl⟩ := hc
    refine ⟨_, exec_assignAnswer seg rx u s, ?_⟩
    rw [Part.assignAnswered, hline]
    exact .exchangeEnds _ hcounts.assignReport hkeeps.assignReport
  -- a park
  · obtain ⟨u, rfl, rfl⟩ := hc
    refine ⟨_, exec_parkAnswer seg rx u s, ?_⟩
    rw [Part.parkAnswered, hline]
    exact .exchangeEnds _ hcounts.parkReport hkeeps.parkReport

/-- The end of the response window counts no conflict (R152, R153). -/
theorem Part.timedOut_counts (p : Part) (seg : Segment) : p.CountsAs (p.timedOut seg) := by
  have hended : p.CountsAs (p.lineEnds seg .timeout) := by
    rw [p.lineEnds_of_noConflict seg .timeout nofun]
    refine (Part.CountsAs.refl p).updEngine ?_
    exact fun _ => rfl
  have hexchange : ∀ (l : OnLine) (report : Part → Part), p.CountsAs (report (p.lineEnds seg .timeout)) →
      p.CountsAs (p.exchangeEnds seg l .timeout report) := fun l report h => by
    unfold Part.exchangeEnds; split
    exacts [hended.settle, h.settle]
  unfold Part.timedOut
  split
  · exact Part.CountsAs.refl p
  · split
    · unfold Part.pollReport; split
      exacts [hended.settle, hended.pollEnd]
    · exact hexchange _ _ hended.showReport
    · exact hexchange _ _ hended.senseReport
    · exact hexchange _ _ hended.probeFailed
    · exact hexchange _ _ hended.assignReport
    · exact hexchange _ _ hended.parkReport

theorem outcomeOf_conflict (rx : Reception) (fits : Bool) : outcomeOf rx fits = .conflict ↔
    (rx.secondTransmitter && !(rx.complete && rx.checkRight && rx.kindRight && fits)) = true := by
  unfold outcomeOf
  cases rx.complete && rx.checkRight && rx.kindRight && fits <;> cases rx.secondTransmitter <;> simp

theorem Part.lineEnds_engine_ne (p : Part) {seg other : Segment} (o : LinkOutcome) (h : other ≠ seg) :
    (p.lineEnds seg o).engine other = p.engine other := by
  have hraise : ∀ q : Part, (q.raise .link).engine other = q.engine other := fun q => by cases other <;> rfl
  unfold Part.lineEnds Part.countConflict
  split
  · rw [hraise, Part.engine_updEngine_ne _ _ _ _ (Ne.symm h), Part.engine_updEngine_ne _ _ _ _ (Ne.symm h)]
  · rw [Part.engine_updEngine_ne _ _ _ _ (Ne.symm h)]

/-- An enabled flag that is raised stands (R186). -/
theorem Part.raise_flag (p : Part) (k : NoticeKind) (h : p.notices.enables &&& k.bit ≠ 0) :
    (p.raise k).notices.flags &&& k.bit ≠ 0 := by
  rw [and_bit_ne_zero] at h ⊢
  rw [Part.raise]
  have hbit := (and_bit_ne_zero k.bit k).1 (by cases k <;> decide)
  simp only [BitVec.getLsbD_or, BitVec.getLsbD_and, h, hbit, Bool.and_true, Bool.or_true]

/-- A CONFLICT raises the LINK flag (R153). -/
theorem Part.lineEnds_flag (p : Part) (seg : Segment) (h : p.notices.enables &&& 0x040 ≠ 0) :
    (p.lineEnds seg .conflict).notices.flags &&& 0x040 ≠ 0 := by
  unfold Part.lineEnds Part.countConflict
  rw [if_pos rfl]
  refine Part.raise_flag _ .link ?_
  rw [Part.enables_of_base _ _ (Part.updEngine_base ..), Part.enables_of_base _ _ (Part.updEngine_base ..)]
  exact h
end

/-! ### Exchanges that ask for nothing -/

/-- What a display shows, and what its content and level are derived from beside the records. -/
structure DisplayFace where
  config : DisplayConfig
  phaseB : Bool
  content : Effective
  level : Nat
  drive : Nat

def Display.face (d : Display) : DisplayFace :=
  { config := d.config, phaseB := d.phaseB, content := d.content, level := d.level, drive := d.drive }

theorem Part.contentFor_of_face (p : Part) {a b : Display} (h : a.face = b.face) : p.contentFor a = p.contentFor b := by
  have hconfig : a.config = b.config := congrArg DisplayFace.config h
  have hphase : a.phaseB = b.phaseB := congrArg DisplayFace.phaseB h
  simp only [Part.contentFor, Part.heldContent, hconfig, hphase]

/-- Displays follow where what they show and what it is derived from stay (R136, R145). -/
theorem Part.displaysFollow_of_faces {p q : Part} (h : p.displaysFollow) (hfaces : q.displays.map Display.face = p.displays.map Display.face)
    (hcontent : ∀ d, q.contentFor d = p.contentFor d) (hlevel : ∀ d, q.levelFor d = p.levelFor d) (hsettings : q.settings = p.settings) :
    q.displaysFollow := by
  intro d hd
  have hmem : d.face ∈ p.displays.map Display.face := by rw [← hfaces]; exact List.mem_map_of_mem hd
  obtain ⟨x, hx, hface⟩ := List.mem_map.1 hmem
  obtain ⟨hshown, hlit, hdriven⟩ := h x hx
  have hsame : q.levelFor d = p.levelFor x := by
    rw [hlevel, Part.levelFor, Part.levelFor, show x.config = d.config from congrArg DisplayFace.config hface]
  refine ⟨?_, ?_, ?_⟩
  · rw [hcontent, ← Part.contentFor_of_face p hface, ← hshown]
    exact (congrArg DisplayFace.content hface).symm
  · rw [hsame, ← hlit]
    exact (congrArg DisplayFace.level hface).symm
  · rw [hsame, Part.driveFor, hsettings, ← Part.driveFor, ← hdriven]
    exact (congrArg DisplayFace.drive hface).symm

/-- The line of the segment is free, and its engine sees and holds what it saw and held in `S`. -/
structure Part.FreeLine (S q : Part) (seg : Segment) : Prop where
  sees : S.Sees q seg
  follows : seg = .wall → q.displaysFollow
  engine : q.engine seg = { S.engine seg with line := none }

section
variable {S q r : Part} {seg : Segment}

/-- A write beside the engines that the engine does not see. -/
theorem Part.FreeLine.write (h : S.FreeLine q seg) (hsight : r.sight = q.sight) (hengine : ∀ a, r.engine a = q.engine a)
    (hfaces : r.displays.map Display.face = q.displays.map Display.face) (hcontent : seg = .wall → ∀ d, r.contentFor d = q.contentFor d)
    (hlevel : seg = .wall → ∀ d, r.levelFor d = q.levelFor d) (hsettings : r.settings = q.settings) : S.FreeLine r seg := by
  refine ⟨⟨hsight.trans h.sees.sight, (congrArg Engine.roles (hengine .wall)).trans h.sees.roles, fun hseg d => ?_⟩, fun hseg => ?_,
    (hengine seg).trans h.engine⟩
  · have hface : (r.displayAt d).face = (q.displayAt d).face := getD_of_map Display.face _ _ _ (nth_of_map Display.face _ _ hfaces d)
    rw [show (r.displayAt d).content = _ from congrArg DisplayFace.content hface,
      show (r.displayAt d).drive = _ from congrArg DisplayFace.drive hface]
    exact h.sees.shows hseg d
  · exact Part.displaysFollow_of_faces (h.follows hseg) hfaces (hcontent hseg) (hlevel hseg) hsettings

theorem Part.lineEnds_roles (p : Part) (seg : Segment) (o : LinkOutcome) :
    ((p.lineEnds seg o).engine .wall).roles = (p.engine .wall).roles := by
  by_cases hseg : Segment.wall = seg
  · subst hseg; rw [Part.lineEnds_engine]
  · rw [p.lineEnds_engine_ne o hseg]

theorem Part.FreeLine.lineEnds (o : LinkOutcome) (ho : o ≠ .conflict) (hfollow : seg = .wall → S.displaysFollow) :
    S.FreeLine (S.lineEnds seg o) seg := by
  have hrecords := S.lineEnds_records seg o
  refine ⟨(Part.Sees.refl S seg).engines hrecords (S.lineEnds_displays seg o) (S.lineEnds_roles seg o), fun hseg => ?_, ?_⟩
  · have hcontrol : (S.lineEnds seg o).control = S.control := congrArg Records.control hrecords
    have hsettings : (S.lineEnds seg o).settings = S.settings := congrArg Records.settings hrecords
    have hambient : (S.lineEnds seg o).ambient = S.ambient := congrArg Records.ambient hrecords
    refine Part.displaysFollow_of_faces (hfollow hseg) (by rw [S.lineEnds_displays]) (fun d => Part.contentFor_of_records _ _ hrecords d)
      (fun d => ?_) hsettings
    rw [Part.levelFor, Part.levelFor, hcontrol, hsettings, hambient]
  · rw [Part.lineEnds_engine, if_neg ho]

theorem map_upd_kept {α β : Type} (φ : α → β) (l : List α) (i : Nat) (f : α → α) (h : ∀ x, nth l i = some x → φ (f x) = φ x) :
    (upd l i f).map φ = l.map φ := by
  cases hx : nth l i with
  | none => rw [upd_of_none _ _ _ hx]
  | some x =>
    rw [upd_congr l i f (fun _ => f x) x hx rfl, map_upd_const, h x hx, ← map_upd_const, upd_self _ _ _ hx]

/-- A seat written beside its image and its presence. -/
theorem Part.FreeLine.updSeat (h : S.FreeLine q seg) {n : Nat} {g : Seat → Seat} (hg : ∀ x, nth q.seats n = some x → (g x).sign = x.sign)
    (hseg : seg ≠ .wall) : S.FreeLine (q.updSeat n g) seg := by
  refine h.write ?_ (fun a => by cases a <;> rfl) rfl (fun hw => absurd hw hseg) (fun hw => absurd hw hseg) rfl
  have hseats := map_upd_kept Seat.sign q.seats n g hg
  rw [Part.sight, Part.updSeat_seats, hseats]; rfl

/-- A display written beside its presence and what it shows. -/
theorem Part.FreeLine.updDisplay (h : S.FreeLine q seg) {d : Nat} {g : Display → Display}
    (hpresence : ∀ x, nth q.displays d = some x → (g x).health.presence = x.health.presence) (hface : ∀ x, (g x).face = x.face) :
    S.FreeLine (q.updDisplay d g) seg := by
  refine h.write ?_ (fun a => by cases a <;> rfl) (map_upd_kept Display.face _ _ _ fun x _ => hface x) (fun _ _ => rfl) (fun _ _ => rfl) rfl
  have hdisplays := map_upd_kept (fun x : Display => x.health.presence) q.displays d g hpresence
  have hwritten : (q.updDisplay d g).displays = upd q.displays d g := rfl
  rw [Part.sight, hwritten, hdisplays]; rfl

theorem Health.probeFailed_presence (h : Health) : h.probeFailed.presence = h.presence := by
  unfold Health.probeFailed; split <;> rfl

/-- A PROBE that fails is seen by no engine (R73, R74, R164). -/
theorem Part.FreeLine.probeFailed (h : S.FreeLine q seg) {pos : Nat} : S.FreeLine (q.probeFailed seg pos) seg := by
  cases seg with
  | left => exact h.updSeat (fun x _ => by rw [Seat.sign, x.health.probeFailed_presence]; rfl) nofun
  | right => exact h.updSeat (fun x _ => by rw [Seat.sign, x.health.probeFailed_presence]; rfl) nofun
  | wall =>
    unfold Part.probeFailed
    dsimp only
    split
    · exact h
    · next r _ =>
      cases r with
      | display d => exact h.updDisplay (fun x _ => x.health.probeFailed_presence) fun _ => rfl
      | ambient =>
        refine h.write ?_ (fun a => by cases a <;> rfl) rfl (fun _ _ => rfl) (fun _ _ => rfl) rfl
        have hpresence := q.ambient.health.probeFailed_presence
        simp only [Part.sight, Part.probeRoleFailed, hpresence]
      | partition k =>
        refine h.write ?_ (fun a => by cases a <;> rfl) rfl (fun _ _ => rfl) (fun _ _ => rfl) rfl
        have hpartitions := map_upd_kept (fun x : Partition => x.health.presence) q.partitions k
          (fun x => { x with health := x.health.probeFailed }) fun x _ => x.health.probeFailed_presence
        simp only [Part.sight, Part.probeRoleFailed, Part.updPartition_partitions, hpartitions]
        rfl

theorem Part.FreeLine.follow (h : S.FreeLine q seg) {old : Part} (hold : S.Sees old seg) (hseg : seg ≠ .wall) :
    S.FreeLine (old.follow q) seg := by
  obtain ⟨hsees, hengine⟩ := h.sees.follow hold h.follows
  exact ⟨hsees, fun hw => absurd hw hseg, hengine.trans h.engine⟩

/-- At the end of the step the engine waits, and takes its next exchange from what it saw (R162, R163). -/
theorem Part.FreeLine.next (h : S.FreeLine q seg) {old : Part} (hold : S.Sees old seg) (hstate : (S.engine seg).state = .running)
    (hheld : (S.engine seg).held = false) (hw : (S.engine seg).walkRequested = false) (hsleep : S.control.sleep.of seg = false) :
    ∃ Q, (old.settle q).engine seg = (Q.kick seg).engine seg ∧ S.Sees Q seg ∧ Q.engine seg = { S.engine seg with line := none } ∧
      Q.engineWaits seg = true := by
  obtain ⟨Q, hkick, hsees, hengine⟩ := h.sees.settle hold h.follows (by rw [h.engine]; exact hw)
  have hfree := hengine.trans h.engine
  refine ⟨Q, hkick, hsees, hfree, Part.engineWaits_iff.2 ?_⟩
  rw [hfree, hsees.control]
  exact ⟨hstate, rfl, hheld, hsleep⟩
end

end Sys2Proof.Machine
end

section
/-! The next exchange after one that asks for nothing (O50). -/

namespace Sys2Proof.Machine

section
variable {s : State} {seg : Segment} {c : Instr}

/-- An exchange ends with nothing to be seen by the engine of its segment: the step begun in `old` ends with `q`, which leaves the
line free, and the part `r` has the engine of that end. -/
structure State.AsksNothing (s : State) (seg : Segment) (c : Instr) (old q r : Part) : Prop where
  ends : Ends c s r
  engine : r.engine seg = (old.settle q).engine seg
  before : s.part.Sees old seg
  free : s.part.FreeLine q seg

/-- A PROBE without an answer asks for nothing (R73, R164). -/
theorem State.probeUnanswered {pos : Nat} {orphan : Bool} (hr : s.runs)
    (hline : (s.part.engine seg).line = some { exchange := .probe pos, orphan := orphan })
    (hfollow : seg = .wall → s.part.displaysFollow) : ∃ old q r, s.AsksNothing seg (.responseTimeout seg) old q r := by
  have hl := s.part.lineOf_of seg _ hr hline
  have hfree := Part.FreeLine.lineEnds (seg := seg) .timeout nofun hfollow
  have hends : Ends (.responseTimeout seg) s (s.part.timedOut seg) :=
    ⟨exec_responseTimeout seg s, (s.part.timedOut_counts seg).answer⟩
  have htimed : s.part.timedOut seg = s.part.settle (if orphan then s.part.lineEnds seg .timeout else
      (s.part.lineEnds seg .timeout).probeFailed seg pos) := by
    rw [Part.timedOut, hl]
    dsimp only [Part.exchangeEnds]
    split <;> rfl
  refine ⟨s.part, _, _, hends, congrArg (fun p : Part => p.engine seg) htimed, Part.Sees.refl _ _, ?_⟩
  split
  · exact hfree
  · exact hfree.probeFailed

/-- What a GOOD POLL of a PRESENT seat that brings nothing new takes after the score (R68, R70, R78). -/
theorem Part.pollTakes_written (p : Part) {n : Nat} {img : Image} {up : Uplink} (z : Seat) (hz : nth p.seats n = some z)
    (hread : z.reads up.badge) (hup : uplinkSilent up z) :
    p.pollTakes n img up = (p.follow (p.updSeat n (Seat.carried img up.echo))).updSeat n
      (fun z => { z with badgeCandidate := none, badgeRepeat := 0 }) := by
  have hseats : (p.follow (p.updSeat n (Seat.carried img up.echo))).seats = upd p.seats n (Seat.carried img up.echo) :=
    Part.follow_seats rfl rfl
  have htakes : p.pollTakes n img up =
      ((p.follow (p.updSeat n (Seat.carried img up.echo))).takeBadge n up.badge |>.takeEvents n up).takeLevel n up.priorityUp := rfl
  generalize p.follow (p.updSeat n (Seat.carried img up.echo)) = C at hseats htakes
  have hat : nth C.seats n = some (z.carried img up.echo) := by rw [hseats, nth_upd_same, hz]; rfl
  rw [C.takeBadge_same n up.badge _ hat hread, Part.takes_silent _ n up
    (by rw [Part.seatAt_updSeat_same _ n _ _ hat]; exact hup)] at htakes
  exact htakes

/-- A GOOD POLL that brings nothing new asks for nothing (R86). -/
theorem State.goodPoll.asksNothing {n : Nat} {img : Image} {rx : Reception} {up : Uplink} {x : Seat} (hseg : seg ≠ .wall)
    (h : s.goodPoll seg n img rx up) (hx : nth s.part.seats n = some x) (hup : uplinkSilent up x) (hno : s.part.noOperation)
    (hflash : x.flashDue = false) : ∃ old q r, s.AsksNothing seg (.pollAnswer seg rx up) old q r := by
  have hscored : (s.scored seg n).seats = upd s.part.seats n (fun _ => x.scored) := by
    rw [State.scored, Part.scoreSeat, Part.updSeat_seats, Part.lineEnds_seats]
    exact upd_congr _ _ _ _ x hx rfl
  have hz : nth (s.scored seg n).seats n = some x.scored := by rw [hscored, nth_upd_same, hx]; rfl
  have hmoves : (s.part.lineEnds seg .good).pollMoves n true (decide (up.echo = .closed)) = s.scored seg n := by
    have hworked : s.worked seg n up = s.scored seg n := State.worked_noOperation hno
    rw [← hworked, Part.pollMoves]
    exact Part.moveSeat_present _ n x.scored (by rw [← State.scored, ← State.worked, hworked]; exact hz)
      (h.present hx : x.health.presence = _)
  have hlike := s.scored_records seg n x hx
  have hmoved : (s.part.follow (s.scored seg n)).seats = (s.scored seg n).seats :=
    Part.follow_seats ((congrArg Records.floors hlike).trans rfl) ((congrArg Records.queues hlike).trans rfl)
  have hfree : s.part.FreeLine (s.scored seg n) seg :=
    (Part.FreeLine.lineEnds (seg := seg) .good nofun fun hw => absurd hw hseg).updSeat (fun _ _ => rfl) hseg
  have hbegun := hfree.follow (Part.Sees.refl s.part seg) hseg
  have hanswer : (s.part.pollAnswered seg rx up).answer = s.part.answer := by
    have hpolled : ((s.part.lineEnds seg .good).seatAt n).health.presence.polled = true := by
      rw [Part.lineEnds_seatAt, s.part.seatAt_of_nth n x hx, h.present hx]; rfl
    have hcounts := (Part.CountsAs.refl (s.part.lineEnds seg .good)).pollEnd (old := s.part) (n := n) (img := img) (o := .good) (up := up)
    rw [Part.pollEnd, if_pos hpolled, if_pos rfl, ← h.answered hx] at hcounts
    exact hcounts.answer.trans (s.part.lineEnds_answer seg .good)
  have hends : Ends (.pollAnswer seg rx up) s (s.part.pollAnswered seg rx up) := ⟨exec_pollAnswer seg rx up s, hanswer⟩
  have hpoll := h.answered hx
  rw [Part.pollGood, hmoves] at hpoll
  generalize s.part.follow (s.scored seg n) = M at hmoved hbegun hpoll
  have hat : nth M.seats n = some x.scored := by rw [hmoved]; exact hz
  have hcarried : s.part.FreeLine (M.updSeat n (Seat.carried img up.echo)) seg := hbegun.updSeat (fun y hy => by
    rw [hat] at hy
    cases hy
    have hnone : (x.scored.carried img up.echo).flashDue = false := by
      show (x.flashDue && decide (img.lamp ≠ .refusedFlash)) = false
      rw [hflash]; rfl
    rw [Seat.sign, hnone, Seat.sign, show x.scored.flashDue = false from hflash]
    rfl) hseg
  have hread := (hcarried.follow hbegun.sees hseg).updSeat (n := n) (g := fun z => { z with badgeCandidate := none, badgeRepeat := 0 })
    (fun _ _ => rfl) hseg
  rw [← M.pollTakes_written x.scored hat (h.reads hx : x.reads up.badge) hup] at hread
  exact ⟨M, _, _, hends, by rw [hpoll, Part.noteChanges_engine], hbegun.sees, hread⟩

theorem Part.wallMoved_stays (p : Part) {pos : Nat} (old : Presence) (h : p.presenceAt .wall pos ≠ .cutOff) : p.wallMoved pos old = p :=
  if_neg fun hcut => h hcut.2

/-- The end of a SHOW of a PRESENT display that stays PRESENT (R142). -/
theorem Part.showEnded_present {p : Part} {pos d drive : Nat} {good : Bool} {content : Effective}
    (h : (p.displayAt d).health.presence = .present)
    (hstays : (p.updDisplay d (Display.showEnd p.settings.presenceSettle good content drive)).presenceAt .wall pos = .present) :
    p.showEnded pos d good content drive = p.updDisplay d (Display.showEnd p.settings.presenceSettle good content drive) := by
  have hpolled : (p.displayAt d).health.presence.polled = true := by rw [h]; rfl
  unfold Part.showEnded
  dsimp only
  rw [if_pos hpolled]
  exact Part.wallMoved_stays _ _ (by rw [hstays]; nofun)

/-- A GOOD SHOW asks for nothing (R142). -/
theorem State.showAsksNothing {pos d drive : Nat} {content : Effective} {rx : Reception} {kind : ShownKind} (hr : s.runs)
    (hline : s.part.wall.line = some { exchange := .show pos content drive, orphan := false })
    (hrole : s.part.roleAt pos = some (.display d)) (hpresent : (s.part.displayAt d).health.presence = .present)
    (h1 : rx.complete = true) (h2 : rx.checkRight = true) (h3 : rx.kindRight = true) (hfollow : s.part.displaysFollow) :
    ∃ old q r, s.AsksNothing .wall (.showAnswer rx pos kind) old q r := by
  have hl := s.part.lineOf_of .wall _ hr hline
  have hfree := Part.FreeLine.lineEnds (seg := .wall) .good nofun fun _ => hfollow
  have hanswered : s.part.showAnswered rx pos = s.part.settle ((s.part.lineEnds .wall .good).showReport pos content drive .good) := by
    rw [Part.showAnswered, hl]
    dsimp only
    rw [Part.exchangeEnds_own, outcomeOf_answered h1 h2 h3 (by simp)]
  have hat : ∀ x, nth (s.part.lineEnds .wall .good).displays d = some x → x.health.presence = .present := fun x hx => by
    rw [Part.lineEnds_displays] at hx
    rw [Part.displayAt, hx] at hpresent
    exact hpresent
  have hstays : ∀ x, nth (s.part.lineEnds .wall .good).displays d = some x →
      (x.showEnd (s.part.lineEnds .wall .good).settings.presenceSettle true content drive).health.presence = x.health.presence := fun x hx => by
    have hmove := Health.move_present (need := (s.part.lineEnds .wall .good).settings.presenceSettle) (h := x.health.score true) (hat x hx)
    have hhealth : (x.showEnd (s.part.lineEnds .wall .good).settings.presenceSettle true content drive).health =
      (x.health.score true).move true (s.part.lineEnds .wall .good).settings.presenceSettle := rfl
    rw [hhealth, hmove]
    rfl
  have hshown := hfree.updDisplay hstays fun _ => rfl
  have hcounts := (Part.CountsAs.refl (s.part.lineEnds .wall .good)).showReport (pos := pos) (c := content) (v := drive) (o := .good)
  have hends : Ends (.showAnswer rx pos kind) s (s.part.showAnswered rx pos) :=
    ⟨rfl, by rw [hanswered]; exact (hcounts.settle (old := s.part)).answer.trans (s.part.lineEnds_answer .wall .good)⟩
  have hbefore : (s.part.lineEnds .wall .good).displayAt d = s.part.displayAt d := by rw [Part.displayAt, Part.displayAt, Part.lineEnds_displays]
  have hpresence : ((s.part.lineEnds .wall .good).updDisplay d
      (Display.showEnd (s.part.lineEnds .wall .good).settings.presenceSettle true content drive)).presenceAt .wall pos = .present := by
    rw [hshown.sees.presenceAt, Part.presenceAt, hrole]; exact hpresent
  have hreport : (s.part.lineEnds .wall .good).showReport pos content drive .good =
      (s.part.lineEnds .wall .good).updDisplay d
        (Display.showEnd (s.part.lineEnds .wall .good).settings.presenceSettle true content drive) := by
    rw [Part.showReport, Part.lineEnds_roleAt, hrole]
    exact Part.showEnded_present (by rw [hbefore]; exact hpresent) hpresence
  refine ⟨s.part, _, _, hends, congrArg (fun p : Part => p.engine .wall) hanswered, Part.Sees.refl _ _, ?_⟩
  rw [hreport]
  exact hshown
end

/-! ### The next exchange, as the statement says it -/

section
variable {S Q : Part} {seg : Segment}

/-- The exchange that serves a position is the one it was (R162). -/
theorem Part.Sees.roundExchange (h : S.Sees Q seg) (pos : Nat) : Q.roundExchange seg pos = S.roundExchange seg pos := by
  cases seg with
  | left => exact congrArg (Exchange.poll pos) (h.imageOf _)
  | right => exact congrArg (Exchange.poll pos) (h.imageOf _)
  | wall =>
    have hshows := h.shows rfl
    simp only [Part.roundExchange, h.roleAt, hshows]

theorem Presence.not_polled (x : Presence) (h : x.polled = false) : x = .cutOff ∨ x = .absent := by
  cases x <;> simp_all [Presence.polled]

/-- What is due, as the statement says it, is what is due to the engine (R163). -/
theorem Part.Sees.isDueAt {due : Nat → Prop} (h : S.Sees Q seg) (hengine : Q.engine seg = { S.engine seg with line := none })
    (hscope : seg ≠ .wall → (S.engine seg).scope = .full) (pos : Nat)
    (hdue : due pos ↔
      (∀ d, seg = .wall → (S.engine seg).scope = .sensors → S.roleAt pos ≠ some (.display d)) ∧
        ((S.presenceAt seg pos).polled = true ∨
          (nth (S.engine seg).probeDue pos).getD 0 ≤ S.now ∧
            (S.presenceAt seg pos = .cutOff ∨ S.presenceAt seg pos = .absent ∧ (S.engine seg).scope = .full))) :
    due pos ↔ Q.isDueAt seg pos := by
  have hsame : Q.isDueAt seg pos ↔ S.isDueAt seg pos := by
    have hfield : (Q.engine seg).scope = (S.engine seg).scope := by rw [hengine]
    rw [Part.isDueAt, Part.isDueAt, Part.inScope_congr hfield h.roles, h.presenceAt, hfield, h.now, hengine]
  rw [hsame, hdue, Part.isDueAt]
  have hkinds : (S.presenceAt seg pos).polled = true ∨ (S.presenceAt seg pos).polled = false ∧
      (S.presenceAt seg pos = .cutOff ∨ S.presenceAt seg pos = .absent) := by
    cases hpolled : (S.presenceAt seg pos).polled
    · exact .inr ⟨rfl, Presence.not_polled _ hpolled⟩
    · exact .inl rfl
  cases hfull : (S.engine seg).scope with
  | full =>
    have hin : S.inScope seg pos = true := by rw [Part.inScope, hfull]
    rcases hkinds with hpolled | ⟨hpolled, hkind⟩
    · simp [hin, hpolled]
    · simp [hin, hpolled, hkind]
  | sensors =>
    have hseg : seg = .wall := by
      by_contra hne
      rw [hscope hne] at hfull
      exact absurd hfull nofun
    subst hseg
    cases hrole : S.roleAt pos with
    | none =>
      have hin : S.inScope .wall pos = false := by rw [Part.inScope, hfull]; simp only [hrole]
      have habsent : S.presenceAt .wall pos = .absent := by rw [Part.presenceAt, hrole]
      simp [hin, habsent, Presence.polled]
    | some r =>
      cases r with
      | display d =>
        have hin : S.inScope .wall pos = false := by rw [Part.inScope, hfull]; simp only [hrole]
        simp [hin]
      | ambient =>
        have hin : S.inScope .wall pos = true := by rw [Part.inScope, hfull]; simp only [hrole]
        simp [hin]
      | partition k =>
        have hin : S.inScope .wall pos = true := by rw [Part.inScope, hfull]; simp only [hrole]
        simp [hin]

theorem Presence.interval_of_not_polled (x : Presence) (h : x.polled = false) :
    x.interval = if x = .cutOff then 2000000 else 1000000 := by
  rcases Presence.not_polled x h with rfl | rfl <;> rfl
end

/-- Settles O50: an exchange that asks for nothing leaves the engine what it saw, from which it takes the next; what the owner of
an exchange makes of its outcome counts no conflict and lowers no flag. -/
theorem enginesSendNextAndCountConflicts : Obligations.EnginesSendNextAndCountConflicts := by
  refine ⟨fun s seg c pointer urgent round due place hr hstate hheld hw hsleep hpointer hle hurgent hscope hfollow hc hround hdue hplace => ?_,
    fun s seg l rx fits conflict c hr hl hc hconflict => ?_, fun s seg other hr => ?_⟩
  · have hasks : ∃ old q r, s.AsksNothing seg c old q r := by
      rcases hc with ⟨pos, orphan, hline, rfl, -⟩ | ⟨n, img, rx, up, x, hseg, rfl, hgood, hx, hup, hno, hflash⟩ |
          ⟨pos, d, content, drive, rx, kind, rfl, rfl, hrole, hpresent, h1, h2, h3, hline⟩
      · exact State.probeUnanswered hr hline hfollow
      · exact hgood.asksNothing hseg hx hup hno hflash
      · exact State.showAsksNothing hr hline hrole hpresent h1 h2 h3 (hfollow rfl)
    obtain ⟨old, q, p, hasked⟩ := hasks
    obtain ⟨Q, hkick, hsees, hengine, hwaits⟩ := hasked.free.next hasked.before hstate hheld hw hsleep
    have hp : p.engine seg = (Q.kick seg).engine seg := hasked.engine.trans hkick
    have hlist : (Q.engine seg).urgent = urgent := by rw [hengine]; exact hurgent
    have hat : (Q.engine seg).pointer = pointer := by rw [hengine]; exact hpointer
    have hprobes : (Q.engine seg).probeDue = (s.part.engine seg).probeDue := by rw [hengine]
    have hseen : ∀ pos, Q.presenceAt seg pos = s.part.presenceAt seg pos := fun pos => hsees.presenceAt seg pos
    have hdues : ∀ pos, due pos ↔ Q.isDueAt seg pos := fun pos => hsees.isDueAt hengine hscope pos (hdue pos)
    have hserves : ∀ pos, (s.part.presenceAt seg pos).polled = true → Q.roundExchange seg pos = round pos := fun pos hpolled => by
      rw [hsees.roundExchange, hround]
      cases seg with
      | left => rfl
      | right => rfl
      | wall =>
        rw [Part.presenceAt] at hpolled
        rw [Part.roundExchange]
        cases hrole : s.part.roleAt pos with
        | none => rw [hrole] at hpolled; exact absurd hpolled Bool.false_ne_true
        | some r => cases r <;> rfl
    refine ⟨p, hasked.ends, ?_, fun front pos back hfront hbefore hpolled => ?_, fun hnone => ⟨?_, fun pos h1 hn hpos hfirst => ?_,
      fun hrest => ?_⟩⟩
    · rw [hp, Engine.state_of_still (Part.kick_still Q seg seg), hengine]; exact hstate
    · rw [hp, Part.kick_urgent hwaits (hlist.trans hfront) (fun a ha => by rw [hseen]; exact hbefore a ha) (by rw [hseen]; exact hpolled),
        hserves _ hpolled]
      exact ⟨rfl, rfl, hat, hprobes⟩
    · have hdropped : ∀ a ∈ (Q.engine seg).urgent, (Q.presenceAt seg a).polled = false := fun a ha => by
        rw [hseen]; exact hnone a (by rw [← hlist]; exact ha)
      rw [hp, Part.kick_drops hwaits hdropped]
    · have hdropped : ∀ a ∈ (Q.engine seg).urgent, (Q.presenceAt seg a).polled = false := fun a ha => by
        rw [hseen]; exact hnone a (by rw [← hlist]; exact ha)
      have hserved := Part.kick_round hwaits hdropped (by rw [hat]; exact hle) h1 hn ((hdues pos).1 hpos) fun a ha ha' hlt => by
        rw [hat, ← hplace a, ← hplace pos] at hlt
        rw [← hdues]
        exact hfirst a ha ha' hlt
      rw [hp, hserved, hseen, hprobes, hsees.now]
      split
      · next hpolled => exact ⟨rfl, by rw [hserves _ hpolled], hprobes⟩
      · next hpolled => exact ⟨rfl, rfl, by rw [Presence.interval_of_not_polled _ (Bool.eq_false_iff.2 hpolled)]⟩
    · have hdropped : ∀ a ∈ (Q.engine seg).urgent, (Q.presenceAt seg a).polled = false := fun a ha => by
        rw [hseen]; exact hnone a (by rw [← hlist]; exact ha)
      rw [hp, Part.kick_none hwaits hdropped fun pos h1 hn hpos => hrest pos h1 hn ((hdues pos).2 hpos)]
      exact ⟨by rw [hengine], hat, hprobes⟩
  · obtain ⟨q, hexec, hquiet⟩ := State.answered hr hl hc
    have hends : Ends c s q := ⟨hexec, hquiet.counts.answer.trans (s.part.lineEnds_answer _ _)⟩
    have hiff := outcomeOf_conflict rx fits
    rw [← hconflict] at hiff
    refine ⟨q, hends, ?_, fun other hne => ?_, fun hyes henabled => ?_⟩
    · rw [hquiet.counts.conflicts seg, Part.lineEnds_engine]
      simp only [hiff, sat]
    · rw [hquiet.counts.conflicts other, Part.lineEnds_engine_ne _ _ hne]
    · have hflag := s.part.lineEnds_flag seg henabled
      rw [hiff.2 hyes] at hquiet
      exact hquiet.raises _ hflag
  · exact ⟨_, ⟨exec_responseTimeout seg s, (s.part.timedOut_counts seg).answer⟩, (s.part.timedOut_counts seg).conflicts other⟩

end Sys2Proof.Machine
end

section
/-! The roles of the units of WALL, at a walk and at a probe (O48). -/

namespace Sys2Proof.Machine

/-! ### Roles at a walk -/

theorem WalkContext.keep_wall {w : WalkContext} {u : UnitReport} {r : WallRole} (h : placeOnWall w.roles u = some r) :
    w.keep .wall u =
      some { w with position := w.position + 1, attempts := 0, kept := w.kept ++ [u], roles := w.roles ++ [r] } := by
  rw [WalkContext.keep]
  dsimp only
  rw [h]
  rfl

theorem WalkContext.keep_wall_extra {w : WalkContext} {u : UnitReport} (h : placeOnWall w.roles u = none) : w.keep .wall u = none := by
  rw [WalkContext.keep]
  dsimp only
  rw [h]
  rfl

section
variable {roles : List WallRole} {u : UnitReport} {r : WallRole}

/-- The roles that a walk gives (R159). -/
theorem placeOnWall_gives (h : (u.kind = .display ∧ (roles.filter WallRole.isDisplay).length < 8 ∧
      r = .display ((roles.filter WallRole.isDisplay).length + 1)) ∨
    (u.kind = .ambient ∧ .ambient ∉ roles ∧ r = .ambient) ∨
    (u.kind = .partition ∧ 1 ≤ u.partition.toNat ∧ u.partition.toNat ≤ 3 ∧ .partition u.partition.toNat ∉ roles ∧
      r = .partition u.partition.toNat)) : placeOnWall roles u = some r := by
  rcases h with ⟨hk, hlt, rfl⟩ | ⟨hk, hnot, rfl⟩ | ⟨hk, h1, h3, hnot, rfl⟩
  · rw [placeOnWall, hk]; exact if_pos hlt
  · rw [placeOnWall, hk]; exact if_neg hnot
  · rw [placeOnWall, hk]; exact if_pos ⟨h1, h3, hnot⟩

/-- The units that a walk sends PARK (R159). -/
theorem placeOnWall_extra (h : u.kind = .delegate ∨ u.kind = .chair ∨
    (u.kind = .display ∧ 8 ≤ (roles.filter WallRole.isDisplay).length) ∨ (u.kind = .ambient ∧ .ambient ∈ roles) ∨
    (u.kind = .partition ∧ (u.partition.toNat = 0 ∨ 3 < u.partition.toNat ∨ .partition u.partition.toNat ∈ roles))) :
    placeOnWall roles u = none := by
  rcases h with hk | hk | ⟨hk, hle⟩ | ⟨hk, hmem⟩ | ⟨hk, hout⟩
  · rw [placeOnWall, hk]
  · rw [placeOnWall, hk]
  · rw [placeOnWall, hk]; exact if_neg (Nat.not_lt.2 hle)
  · rw [placeOnWall, hk]; exact if_pos hmem
  · rw [placeOnWall, hk]
    refine if_neg ?_
    rintro ⟨h1, h3, hnot⟩
    rcases hout with h | h | h
    · omega
    · omega
    · exact hnot h
end

section
variable {s : State} {w : WalkContext} {pos : Nat} {rx : Reception} {u : UnitReport}

/-- What the walk of WALL needs of the part and of the answer to its offer (R152, R159). -/
structure State.WallOffer (s : State) (w : WalkContext) (pos : Nat) (rx : Reception) (u : UnitReport) : Prop where
  runs : s.runs
  walking : s.part.wall.state = .walking
  still : s.part.wall.walkRequested = false
  walk : s.part.wall.walk = some w
  position : w.position = pos
  complete : rx.complete = true
  checked : rx.checkRight = true
  kind : rx.kindRight = true
  named : u.position = pos
  line : s.part.wall.line = some { exchange := .assign pos, orphan := false }

theorem State.WallOffer.keeps (h : s.WallOffer w pos rx u) {r : WallRole} (hplace : placeOnWall w.roles u = some r) :
    ∃ p, Ends (.assignAnswer .wall rx u) s p ∧ p.records = s.part.records ∧
      p.wall.walk.map (fun v => (v.kept, v.roles)) = some (w.kept ++ [u], w.roles ++ [r]) ∧
      p.wall.line = some { exchange := if w.kept.length + 1 < 12 then .assign (pos + 1) else .park 0, orphan := false } := by
  obtain ⟨p, hx, ha, hrec, he⟩ := State.assignKeeps (seg := .wall) h.runs h.walking h.still h.line h.walk h.complete h.checked h.kind
    h.named (WalkContext.keep_wall hplace)
  rw [List.length_append, List.length_singleton, Part.engine_wall] at he
  have hpositions : Segment.wall.positions = 12 := rfl
  rw [hpositions] at he
  refine ⟨p, ⟨hx, ha⟩, hrec, ?_, ?_⟩
  · rw [he]; split <;> rfl
  · rw [he, ← h.position]; split <;> rfl

theorem State.WallOffer.parks (h : s.WallOffer w pos rx u) (hplace : placeOnWall w.roles u = none) :
    ∃ p, Ends (.assignAnswer .wall rx u) s p ∧ p.records = s.part.records ∧
      p.wall.walk.map (fun v => (v.kept, v.roles)) = some (w.kept, w.roles) ∧
      p.wall.line = some { exchange := .park pos, orphan := false } := by
  obtain ⟨p, hx, ha, hrec, he⟩ := State.assignParks (seg := .wall) h.runs h.walking h.still h.line h.walk h.complete h.checked h.kind
    h.named (WalkContext.keep_wall_extra hplace)
  rw [Part.engine_wall] at he
  exact ⟨p, ⟨hx, ha⟩, hrec, by rw [he]; rfl, by rw [he, ← h.position]; rfl⟩
end

/-! ### Roles at a probe -/

section
variable {p q : Part} {pos : Nat} {u : UnitReport} {r : WallRole}

theorem Part.probeWall_fits (hrole : p.roleAt pos = some r) (hfits : r.fits u = true) :
    p.probeWall pos u = p.probeRole r pos u.serial := by
  rw [Part.probeWall, hrole]; exact if_pos hfits

theorem Part.probeWall_misfit (hrole : p.roleAt pos = some r) (hfits : r.fits u = false) :
    p.probeWall pos u = p.parkProbed .wall pos := by
  rw [Part.probeWall, hrole]; exact if_neg (by rw [hfits]; exact Bool.false_ne_true)

theorem Part.probeWall_gives (hrole : p.roleAt pos = none) (hgives : p.roleForProbe u = some r) : p.probeWall pos u =
    (p.updEngine .wall (fun e => { e with roles := upd e.roles pos (fun _ => some r) })).probeRole r pos u.serial := by
  rw [Part.probeWall, hrole]
  dsimp only
  rw [hgives]

theorem Part.probeWall_extra (hrole : p.roleAt pos = none) (hgives : p.roleForProbe u = none) :
    p.probeWall pos u = p.parkProbed .wall pos := by
  rw [Part.probeWall, hrole]
  dsimp only
  rw [hgives]

/-- The role for a probed unit depends on the units of WALL alone (R164). -/
theorem Part.roleForProbe_congr (hd : q.displays = p.displays) (ha : q.ambient = p.ambient) (hk : q.partitions = p.partitions) :
    q.roleForProbe u = p.roleForProbe u := by
  have hopen : q.openDisplay = p.openDisplay := by simp only [Part.openDisplay, Part.displayAt, hd]
  have hpartition : ∀ k, q.partitionAt k = p.partitionAt k := fun k => by rw [Part.partitionAt, Part.partitionAt, hk]
  unfold Part.roleForProbe
  rw [hopen, ha, hpartition]

/-- The lowest display without a unit (R164). -/
theorem Part.openDisplay_some {d : Nat} {x : Display} (h1 : 1 ≤ d) (h8 : d ≤ 8) (hx : nth p.displays d = some x)
    (hopen : x.unitPosition = none) (hlower : ∀ c, 1 ≤ c → c < d → (p.displayAt c).unitPosition ≠ none) :
    p.openDisplay = some d := by
  rw [Part.openDisplay, displayNumbers, List.find?_range'_eq_some]
  refine ⟨?_, by rw [List.mem_range'_1]; omega, fun c hc hlt => ?_⟩
  · rw [Part.displayAt, hx, Option.getD_some, hopen]; rfl
  · have hsome : (p.displayAt c).unitPosition.isNone = false := Option.isNone_eq_false_iff.2 (Option.isSome_iff_ne_none.2 (hlower c hc hlt))
    rw [hsome]; rfl

theorem Part.openDisplay_none (h : ∀ d, 1 ≤ d → d ≤ 8 → (p.displayAt d).unitPosition ≠ none) : p.openDisplay = none := by
  rw [Part.openDisplay, displayNumbers, List.find?_eq_none]
  intro d hd
  rw [List.mem_range'_1] at hd
  have hsome : (p.displayAt d).unitPosition.isNone = false :=
    Option.isNone_eq_false_iff.2 (Option.isSome_iff_ne_none.2 (h d (by omega) (by omega)))
  rw [hsome]; exact Bool.false_ne_true

/-- The units for which there is no role at a probe (R164). -/
theorem Part.roleForProbe_none (h : u.kind = .delegate ∨ u.kind = .chair ∨
    (u.kind = .display ∧ ∀ d, 1 ≤ d → d ≤ 8 → (p.displayAt d).unitPosition ≠ none) ∨
    (u.kind = .ambient ∧ p.ambient.sensorPosition ≠ none) ∨
    (u.kind = .partition ∧ (u.partition.toNat = 0 ∨ 3 < u.partition.toNat ∨
      (p.partitionAt u.partition.toNat).sensorPosition ≠ none))) : p.roleForProbe u = none := by
  rcases h with hk | hk | ⟨hk, hall⟩ | ⟨hk, hsome⟩ | ⟨hk, hout⟩
  · rw [Part.roleForProbe, hk]
  · rw [Part.roleForProbe, hk]
  · rw [Part.roleForProbe, hk]
    exact congrArg (Option.map WallRole.display) (Part.openDisplay_none hall)
  · rw [Part.roleForProbe, hk]
    refine if_neg ?_
    rw [Option.isNone_iff_eq_none]
    exact hsome
  · rw [Part.roleForProbe, hk]
    refine if_neg ?_
    rintro ⟨h1, h3, hnone⟩
    rcases hout with h | h | h
    · omega
    · omega
    · exact h hnone

/-! ### The records that a probe writes -/

theorem Part.probeRole_display {d : Nat} {x : Display} {g : Display → Display} {serial : Serial} (hq : q.records = p.records)
    (hd : q.displays = p.displays) (hx : nth p.displays d = some x) (hg : (x.probed pos serial).core = (g x).core) :
    (q.probeRole (.display d) pos serial).records = { p.records with displays := (upd p.displays d g).map Display.core } := by
  have hcores : (upd q.displays d (Display.probed pos serial)).map Display.core = (upd p.displays d g).map Display.core := by
    rw [hd, upd_congr p.displays d _ (fun _ => x.probed pos serial) x hx rfl, upd_congr p.displays d g (fun _ => g x) x hx rfl, map_upd_const,
      map_upd_const, hg]
  have hwritten : (q.probeRole (.display d) pos serial).records =
      { q.records with displays := (upd q.displays d (Display.probed pos serial)).map Display.core } := rfl
  rw [hwritten, hq, hcores]

theorem Part.probeRole_ambient {serial : Serial} (hq : q.records = p.records) :
    (q.probeRole .ambient pos serial).records = { p.records with ambient := p.ambient.probed pos serial } := by
  have hambient : q.ambient = p.ambient := congrArg Records.ambient hq
  have hwritten : (q.probeRole .ambient pos serial).records = { q.records with ambient := q.ambient.probed pos serial } := rfl
  rw [hwritten, hq, hambient]

theorem Part.probeRole_partition {k : Nat} {x : Partition} {serial : Serial} (hq : q.records = p.records)
    (hx : nth p.partitions k = some x) : (q.probeRole (.partition k) pos serial).records =
      { p.records with partitions := upd p.partitions k (fun _ => x.probed pos serial) } := by
  have hpartitions : q.partitions = p.partitions := congrArg Records.partitions hq
  have hwritten : (q.probeRole (.partition k) pos serial).records =
      { q.records with partitions := upd q.partitions k (Partition.probed pos serial) } := rfl
  rw [hwritten, hq, hpartitions, upd_congr p.partitions k _ (fun _ => x.probed pos serial) x hx rfl]
end

/-! ### The unit found by a probe at its record -/

section
variable {pos : Nat} {serial : Serial}

theorem Display.probed_absent (x : Display) (h : x.health.presence = .absent) : x.probed pos serial = x.renew pos serial := by
  simp [Display.probed, h]

theorem Display.probed_lost (x : Display) (h : x.health.presence = .cutOff ∨ x.health.presence = .absent) : x.probed pos serial =
    if x.health.presence = .cutOff ∧ x.unitSerial = some serial then { x with health := x.health.probeGood } else x.renew pos serial := by
  rcases h with h | h <;> simp [Display.probed, h]

theorem Ambient.probed_absent (x : Ambient) (h : x.health.presence = .absent) : x.probed pos serial = x.renew pos serial := by
  simp [Ambient.probed, h]

theorem Ambient.probed_lost (x : Ambient) (h : x.health.presence = .cutOff ∨ x.health.presence = .absent) : x.probed pos serial =
    if x.health.presence = .cutOff ∧ x.sensorSerial = some serial then { x with health := x.health.probeGood } else x.renew pos serial := by
  rcases h with h | h <;> simp [Ambient.probed, h]

theorem Partition.probed_absent (x : Partition) (h : x.health.presence = .absent) : x.probed pos serial = x.renew pos serial := by
  simp [Partition.probed, h]

theorem Partition.probed_lost (x : Partition) (h : x.health.presence = .cutOff ∨ x.health.presence = .absent) : x.probed pos serial =
    if x.health.presence = .cutOff ∧ x.sensorSerial = some serial then { x with health := x.health.probeGood } else x.renew pos serial := by
  rcases h with h | h <;> simp [Partition.probed, h]
end

/-! ### The rows of a probe of WALL -/

/-- What the end of a step leaves of the position table of WALL. -/
theorem Part.settle_roleAt (old p : Part) (pos : Nat) : (old.settle p).roleAt pos = p.roleAt pos := by
  refine Part.roleAt_congr ?_ pos
  rcases Part.settle_still_or_walked old p .wall with h | h
  · exact Engine.roles_of_still h
  · rw [h]; rfl

theorem Part.probeRole_roleAt (p : Part) (r : WallRole) (pos a : Nat) (serial : Serial) : (p.probeRole r pos serial).roleAt a = p.roleAt a := by
  cases r <;> rfl

/-- A PROBE of WALL answered well (R152, R164). -/
structure State.WallProbe (s : State) (pos : Nat) (rx : Reception) (u : UnitReport) : Prop where
  runs : s.runs
  line : s.part.wall.line = some { exchange := .probe pos, orphan := false }
  complete : rx.complete = true
  checked : rx.checkRight = true
  kind : rx.kindRight = true
  named : u.position = pos

section
variable {s : State} {pos : Nat} {rx : Reception} {u : UnitReport} {r : WallRole}

theorem State.WallProbe.answers (h : s.WallProbe pos rx u) : exec (.probeAnswer .wall rx u) s =
    s.become (s.part.settle ((s.part.lineEnds .wall .good).probeWall pos u)) :=
  State.probeAnswers (seg := .wall) h.runs h.line h.complete h.checked h.kind h.named

/-- A unit in a role it fits: the record of the role takes it (R164). -/
theorem State.WallProbe.fits (h : s.WallProbe pos rx u) (hrole : s.part.roleAt pos = some r) (hfits : r.fits u = true) :
    ∃ p, Ends (.probeAnswer .wall rx u) s p ∧ p.roleAt pos = some r ∧
      ∃ q : Part, q.records = s.part.records ∧ q.displays = s.part.displays ∧ p.records = (q.probeRole r pos u.serial).records := by
  have hexec := h.answers
  rw [Part.probeWall_fits (by rw [Part.lineEnds_roleAt]; exact hrole) hfits] at hexec
  have hcounts := (Part.CountsAs.refl (s.part.lineEnds .wall .good)).probeRole (r := r) (pos := pos) (x := u.serial)
  refine ⟨_, ⟨hexec, (Part.settle_answer _ _).trans (hcounts.answer.trans (s.part.lineEnds_answer .wall .good))⟩, ?_,
    s.part.lineEnds .wall .good, s.part.lineEnds_records .wall .good, s.part.lineEnds_displays .wall .good, Part.settle_records _ _⟩
  rw [Part.settle_roleAt, Part.probeRole_roleAt, Part.lineEnds_roleAt]
  exact hrole

/-- A unit at a position without a role takes one (R164). -/
theorem State.WallProbe.gives (h : s.WallProbe pos rx u) (hrole : s.part.roleAt pos = none) (hgives : s.part.roleForProbe u = some r)
    (h1 : 1 ≤ pos) (hn : pos ≤ s.part.wall.roles.length) :
    ∃ p, Ends (.probeAnswer .wall rx u) s p ∧ p.roleAt pos = some r ∧
      ∃ q : Part, q.records = s.part.records ∧ q.displays = s.part.displays ∧ p.records = (q.probeRole r pos u.serial).records := by
  have hrecords := s.part.lineEnds_records .wall .good
  have hdisplays := s.part.lineEnds_displays .wall .good
  have hexec := h.answers
  rw [Part.probeWall_gives (by rw [Part.lineEnds_roleAt]; exact hrole) ((Part.roleForProbe_congr hdisplays
    (congrArg Records.ambient hrecords) (congrArg Records.partitions hrecords)).trans hgives)] at hexec
  have hroles : (s.part.lineEnds .wall .good).wall.roles = s.part.wall.roles := s.part.lineEnds_roles .wall .good
  have hbase := s.part.lineEnds_answer .wall .good
  generalize s.part.lineEnds .wall .good = b at hrecords hdisplays hexec hroles hbase
  have hcounts := (Part.CountsAs.refl (b.updEngine .wall (fun e => { e with roles := upd e.roles pos (fun _ => some r) }))).probeRole
    (r := r) (pos := pos) (x := u.serial)
  refine ⟨_, ⟨hexec, (Part.settle_answer _ _).trans (hcounts.answer.trans ((Part.updEngine_answer ..).trans hbase))⟩, ?_,
    b.updEngine .wall (fun e => { e with roles := upd e.roles pos (fun _ => some r) }), (Part.updEngine_records ..).trans hrecords, hdisplays,
    Part.settle_records _ _⟩
  rw [Part.settle_roleAt, Part.probeRole_roleAt]
  have hwall : (b.updEngine .wall (fun e => { e with roles := upd e.roles pos (fun _ => some r) })).wall.roles =
      upd b.wall.roles pos (fun _ => some r) := rfl
  have hsome : ∃ x, nth s.part.wall.roles pos = some x := by
    obtain ⟨k, rfl⟩ : ∃ k, pos = k + 1 := ⟨pos - 1, by omega⟩
    exact ⟨_, List.getElem?_eq_getElem (by omega)⟩
  obtain ⟨x, hx⟩ := hsome
  rw [Part.roleAt, hwall, hroles, nth_upd_same, hx]
  rfl

/-- A unit that takes no role is sent PARK (R164). -/
theorem State.WallProbe.parks (h : s.WallProbe pos rx u) (hw : s.part.wall.walkRequested = false)
    (hpark : (s.part.lineEnds .wall .good).probeWall pos u = (s.part.lineEnds .wall .good).parkProbed .wall pos) :
    ∃ p, Ends (.probeAnswer .wall rx u) s p ∧ p.records = s.part.records ∧
      p.wall.line = some { exchange := .park pos, orphan := false } := by
  have hexec := h.answers
  rw [hpark, Part.parkProbed_sends (by rw [Part.lineEnds_walkRequested]; exact hw)] at hexec
  obtain ⟨p, hx, ha, hrec, hline⟩ := ends_sent hexec (by rw [Part.send_records, Part.lineEnds_records])
    ((Part.send_answer ..).trans (s.part.lineEnds_answer .wall .good)) (Part.send_line _ _ _)
  exact ⟨p, ⟨hx, ha⟩, hrec, hline⟩
end

end Sys2Proof.Machine
end

section
/-! The units of WALL take their roles (O48). -/

namespace Sys2Proof.Machine

section
variable {s : State} {pos : Nat} {rx : Reception} {u : UnitReport}

/-- A PROBE gives a free position to the lowest display without a unit (R164). -/
theorem State.WallProbe.givesDisplay (h : s.WallProbe pos rx u) (h1 : 1 ≤ pos) (hn : pos ≤ s.part.wall.roles.length) {d : Nat}
    {x : Display} (hrole : s.part.roleAt pos = none) (hk : u.kind = .display) (hd1 : 1 ≤ d) (hd8 : d ≤ 8)
    (hx : nth s.part.displays d = some x) (hopen : x.unitPosition = none)
    (hlower : ∀ c, 1 ≤ c → c < d → (s.part.displayAt c).unitPosition ≠ none) (habsent : x.health.presence = .absent) :
    ∃ p, Ends (.probeAnswer .wall rx u) s p ∧ p.roleAt pos = some (.display d) ∧
      p.records = { s.part.records with displays := (upd s.part.displays d (fun y =>
        { y with unitPosition := some pos, unitSerial := some u.serial
                 health := { presence := .settling, settleCount := 0, errorScore := 0 } })).map Display.core } := by
  have hgives : s.part.roleForProbe u = some (.display d) := by
    rw [Part.roleForProbe, hk]
    exact congrArg (Option.map WallRole.display) (Part.openDisplay_some hd1 hd8 hx hopen hlower)
  obtain ⟨p, hends, hat, q, hq, hd, hrec⟩ := h.gives hrole hgives h1 hn
  refine ⟨p, hends, hat, hrec.trans (Part.probeRole_display hq hd hx ?_)⟩
  rw [Display.probed_absent x habsent]; rfl

/-- A PROBE gives a free position to the ambient sensor, if there is none (R164). -/
theorem State.WallProbe.givesAmbient (h : s.WallProbe pos rx u) (h1 : 1 ≤ pos) (hn : pos ≤ s.part.wall.roles.length)
    (hrole : s.part.roleAt pos = none) (hk : u.kind = .ambient) (hopen : s.part.ambient.sensorPosition = none)
    (habsent : s.part.ambient.health.presence = .absent) :
    ∃ p, Ends (.probeAnswer .wall rx u) s p ∧ p.roleAt pos = some .ambient ∧
      p.records = { s.part.records with ambient := { s.part.ambient with
        sensorPosition := some pos, sensorSerial := some u.serial
        health := { presence := .settling, settleCount := 0, errorScore := 0 } } } := by
  have hgives : s.part.roleForProbe u = some .ambient := by
    rw [Part.roleForProbe, hk]
    exact if_pos (by rw [hopen]; rfl)
  obtain ⟨p, hends, hat, q, hq, -, hrec⟩ := h.gives hrole hgives h1 hn
  refine ⟨p, hends, hat, hrec.trans ((Part.probeRole_ambient hq).trans ?_)⟩
  rw [Ambient.probed_absent _ habsent]; rfl

/-- A PROBE gives a free position to the sensor of the partition it names, if there is none (R164). -/
theorem State.WallProbe.givesPartition (h : s.WallProbe pos rx u) (h1 : 1 ≤ pos) (hn : pos ≤ s.part.wall.roles.length) {k : Nat}
    {x : Partition} (hrole : s.part.roleAt pos = none) (hk : u.kind = .partition) (hnamed : u.partition.toNat = k) (hk1 : 1 ≤ k)
    (hk3 : k ≤ 3) (hx : nth s.part.partitions k = some x) (hopen : x.sensorPosition = none) (habsent : x.health.presence = .absent) :
    ∃ p, Ends (.probeAnswer .wall rx u) s p ∧ p.roleAt pos = some (.partition k) ∧
      p.records = { s.part.records with partitions := upd s.part.partitions k (fun _ =>
        { x with sensorPosition := some pos, sensorSerial := some u.serial, candidate := none, repeatCount := 0
                 health := { presence := .settling, settleCount := 0, errorScore := 0 } }) } := by
  have hgives : s.part.roleForProbe u = some (.partition k) := by
    rw [Part.roleForProbe, hk, hnamed]
    exact if_pos ⟨hk1, hk3, by rw [Part.partitionAt, hx]; exact hopen⟩
  obtain ⟨p, hends, hat, q, hq, -, hrec⟩ := h.gives hrole hgives h1 hn
  refine ⟨p, hends, hat, hrec.trans ((Part.probeRole_partition hq hx).trans ?_)⟩
  rw [Partition.probed_absent _ habsent]; rfl

variable {counted : Health → Health} (hcounted : ∀ h, counted h =
  if 8 ≤ h.settleCount + 1 then { presence := .settling, settleCount := 0, errorScore := 0 }
  else { h with settleCount := h.settleCount + 1 })
include hcounted

theorem counted_eq : counted = Health.probeGood := funext hcounted

/-- A display found by a PROBE in its role (R134, R164). -/
theorem State.WallProbe.findsDisplay (h : s.WallProbe pos rx u) {d : Nat} {x : Display} (hrole : s.part.roleAt pos = some (.display d))
    (hk : u.kind = .display) (hx : nth s.part.displays d = some x)
    (hlost : x.health.presence = .cutOff ∨ x.health.presence = .absent) :
    ∃ p, Ends (.probeAnswer .wall rx u) s p ∧ p.roleAt pos = some (.display d) ∧
      p.records = { s.part.records with displays := (upd s.part.displays d (fun y =>
        if x.health.presence = .cutOff ∧ x.unitSerial = some u.serial then { y with health := counted x.health }
        else
          { y with unitPosition := some pos, unitSerial := some u.serial
                   health := { presence := .settling, settleCount := 0, errorScore := 0 } })).map Display.core } := by
  obtain ⟨p, hends, hat, q, hq, hd, hrec⟩ := h.fits hrole (decide_eq_true hk)
  refine ⟨p, hends, hat, hrec.trans (Part.probeRole_display hq hd hx ?_)⟩
  rw [Display.probed_lost x hlost, counted_eq hcounted]
  split <;> rfl

/-- The ambient sensor found by a PROBE in its role (R143, R164). -/
theorem State.WallProbe.findsAmbient (h : s.WallProbe pos rx u) {x : Ambient} (hrole : s.part.roleAt pos = some .ambient)
    (hk : u.kind = .ambient) (hx : s.part.ambient = x) (hlost : x.health.presence = .cutOff ∨ x.health.presence = .absent) :
    ∃ p, Ends (.probeAnswer .wall rx u) s p ∧ p.roleAt pos = some .ambient ∧
      p.records = { s.part.records with ambient :=
        if x.health.presence = .cutOff ∧ x.sensorSerial = some u.serial then { x with health := counted x.health }
        else
          { x with sensorPosition := some pos, sensorSerial := some u.serial
                   health := { presence := .settling, settleCount := 0, errorScore := 0 } } } := by
  obtain ⟨p, hends, hat, q, hq, -, hrec⟩ := h.fits hrole (decide_eq_true hk)
  refine ⟨p, hends, hat, hrec.trans ((Part.probeRole_ambient hq).trans ?_)⟩
  rw [hx, Ambient.probed_lost x hlost, counted_eq hcounted]
  rfl

/-- A partition's sensor found by a PROBE in its role (R3, R164). -/
theorem State.WallProbe.findsPartition (h : s.WallProbe pos rx u) {k : Nat} {x : Partition}
    (hrole : s.part.roleAt pos = some (.partition k)) (hk : u.kind = .partition) (hnamed : u.partition.toNat = k)
    (hx : nth s.part.partitions k = some x) (hlost : x.health.presence = .cutOff ∨ x.health.presence = .absent) :
    ∃ p, Ends (.probeAnswer .wall rx u) s p ∧ p.roleAt pos = some (.partition k) ∧
      p.records = { s.part.records with partitions := upd s.part.partitions k (fun _ =>
        if x.health.presence = .cutOff ∧ x.sensorSerial = some u.serial then { x with health := counted x.health }
        else
          { x with sensorPosition := some pos, sensorSerial := some u.serial, candidate := none, repeatCount := 0
                   health := { presence := .settling, settleCount := 0, errorScore := 0 } }) } := by
  obtain ⟨p, hends, hat, q, hq, -, hrec⟩ := h.fits hrole (decide_eq_true ⟨hk, hnamed⟩)
  refine ⟨p, hends, hat, hrec.trans ((Part.probeRole_partition hq hx).trans ?_)⟩
  rw [Partition.probed_lost x hlost, counted_eq hcounted]
  rfl
end

/-- A unit that does not fit the role of its position is no unit of that role (R164). -/
theorem WallRole.misfit {s : State} {pos : Nat} {u : UnitReport}
    (h : (∃ d, s.part.roleAt pos = some (.display d) ∧ u.kind ≠ .display) ∨ (s.part.roleAt pos = some .ambient ∧ u.kind ≠ .ambient) ∨
      (∃ k, s.part.roleAt pos = some (.partition k) ∧ (u.kind ≠ .partition ∨ u.partition.toNat ≠ k))) :
    ∃ r, s.part.roleAt pos = some r ∧ r.fits u = false := by
  rcases h with ⟨d, hrole, hk⟩ | ⟨hrole, hk⟩ | ⟨k, hrole, hk⟩
  · exact ⟨_, hrole, decide_eq_false hk⟩
  · exact ⟨_, hrole, decide_eq_false hk⟩
  · exact ⟨_, hrole, decide_eq_false fun hboth => hk.elim (fun h => h hboth.1) fun h => h hboth.2⟩

/-- Settles O48: at a walk the placement rule, at a probe the role of the position and what its record says. -/
theorem wallUnitsTakeTheirRoles : Obligations.WallUnitsTakeTheirRoles := by
  refine ⟨fun s w pos rx u hr hstate hstill hw hposition h1 h2 h3 hpos hline displays hdisplays => ?_,
    fun s pos rx u hr hline hstill h1 h2 h3 hpos hp1 hpn => ?_⟩
  · have hoffer : s.WallOffer w pos rx u := ⟨hr, hstate, hstill, hw, hposition, h1, h2, h3, hpos, hline⟩
    have hcount : displays = (w.roles.filter WallRole.isDisplay).length :=
      hdisplays.trans (congrArg List.length (List.filter_congr fun r _ => by cases r <;> rfl))
    subst hcount
    exact ⟨fun r hgives => hoffer.keeps (placeOnWall_gives hgives), fun hextra => hoffer.parks (placeOnWall_extra hextra)⟩
  · have hprobe : s.WallProbe pos rx u := ⟨hr, hline, h1, h2, h3, hpos⟩
    refine ⟨fun d x => hprobe.givesDisplay hp1 hpn, hprobe.givesAmbient hp1 hpn, fun k x => hprobe.givesPartition hp1 hpn, fun hpark => ?_,
      fun counted hcounted => ⟨fun d x => hprobe.findsDisplay hcounted, fun x => hprobe.findsAmbient hcounted,
        fun k x => hprobe.findsPartition hcounted⟩⟩
    rcases hpark with ⟨hrole, hextra⟩ | hmisfit
    · have hrecords := s.part.lineEnds_records .wall .good
      have hnone := Part.roleForProbe_congr (u := u) (s.part.lineEnds_displays .wall .good) (congrArg Records.ambient hrecords)
        (congrArg Records.partitions hrecords)
      exact hprobe.parks hstill (Part.probeWall_extra (by rw [Part.lineEnds_roleAt]; exact hrole)
        (hnone.trans (Part.roleForProbe_none hextra)))
    · obtain ⟨r, hrole, hfits⟩ := WallRole.misfit hmisfit
      exact hprobe.parks hstill (Part.probeWall_misfit (by rw [Part.lineEnds_roleAt]; exact hrole) hfits)

end Sys2Proof.Machine
end

section
/-! The report of a walk at the seats of a table whose floors hold none of them (O47). -/

namespace Sys2Proof.Machine

/-! ### One seat of the report -/

/-- A seat taken from a working unit by a walk, at its new presence (R72, R75). -/
def Seat.lost (new : Presence) (x : Seat) : Seat := ({ x with health := { x.health with presence := new } } : Seat).lose

/-- A seat after the report of a walk that found `found` at it (R75). -/
def Seat.walked (found : Option UnitReport) (x : Seat) : Seat :=
  match found with
  | none =>
    if x.health.presence = .absent then x
    else if x.health.presence.inService = true then (x.lost .absent).vanish else x.vanish
  | some u => if x.health.presence ≠ .absent ∧ x.isUnit u = true then x else x.renew u

theorem Seat.walked_quiet (found : Option UnitReport) (x : Seat) : (x.quiet.walked found).quiet = (x.walked found).quiet := by
  have hpresence : x.quiet.health = x.health := rfl
  cases found with
  | none =>
    simp only [Seat.walked, hpresence]
    split
    · rfl
    · split <;> rfl
  | some u =>
    have hunit : x.quiet.isUnit u = x.isUnit u := rfl
    simp only [Seat.walked, hpresence, hunit]
    split <;> rfl

/-- No floor holds a seat, and no operation runs. -/
structure Part.Vacant (p : Part) : Prop where
  floors : ∀ n, p.floorOf n = none
  contexts : p.noOperation

section
variable {p q : Part} {n : Nat} {x : Seat}

theorem Part.Vacant.of_seats {r : List Seat} (h : p.Vacant) (hq : q.records = { p.records with seats := r }) : q.Vacant := by
  have hsettings : q.settings = p.settings := (congrArg Records.settings hq).trans rfl
  have hfloors : q.floors = p.floors := (congrArg Records.floors hq).trans rfl
  have hcontexts : q.contexts = p.contexts := (congrArg Records.contexts hq).trans rfl
  have hzone : ∀ z, q.floorOfZone z = p.floorOfZone z := fun z => by simp only [Part.floorOfZone, Part.floorAt, hfloors]
  refine ⟨fun m => ?_, fun f => ?_⟩
  · have hseat : q.floorOf m = p.floorOf m := by
      simp only [Part.floorOf, Part.zoneOf, hsettings]
      exact congrArg _ (funext hzone)
    rw [hseat]; exact h.floors m
  · rw [Part.contextAt, hcontexts]; exact h.contexts f

theorem Part.workLost_vacant (h : p.noOperation) : p.workLost n = p := by
  have hnone : p.workFloor n = none := by
    rw [Part.workFloor, List.find?_eq_none]
    intro f _
    rw [h f]
    exact Bool.false_ne_true
  rw [Part.workLost, hnone]

theorem Part.loseSeat_vacant (h : p.Vacant) : p.loseSeat n = p.updSeat n Seat.lose := by
  rw [Part.loseSeat, h.floors n]
  exact Part.workLost_vacant h.contexts

/-- A seat lost by a walk (R75). -/
theorem Part.loseByWalk_records (h : p.Vacant) (hx : nth p.seats n = some x) (new : Presence) :
    (p.loseByWalk n new).records = p.records.seat n (if x.health.presence.inService = true then x.lost new else x) := by
  have hservice : p.inService n = x.health.presence.inService := by rw [Part.inService, p.seatAt_of_nth n x hx]
  unfold Part.loseByWalk
  rw [hservice]
  split
  · have hmoved : (p.updSeat n (fun s => { s with health := { s.health with presence := new } })).Vacant :=
      ⟨h.floors, h.contexts⟩
    rw [Part.follow_records, Part.loseSeat_vacant hmoved, Part.updSeat, Part.updSeat, upd_upd]
    exact p.updSeat_records n (Seat.lost new) x hx
  · exact (Records.seat_self p hx).symm

/-- One seat of a walk's report: its record alone is written (R75). -/
theorem Part.walkSeat_records (h : p.Vacant) (hx : nth p.seats n = some x) (found : Option UnitReport) :
    (p.walkSeat n found).records = p.records.seat n (x.walked found) := by
  have hat := p.seatAt_of_nth n x hx
  have hn : nth p.records.seats n = some x.quiet := by rw [Part.records, nth_map, hx]; rfl
  have hlost := fun new => Part.loseByWalk_records h hx new
  cases found with
  | none =>
    rw [Part.walkSeat, hat, Seat.walked]
    by_cases habsent : x.health.presence = .absent
    · simp only [habsent, if_true]
      exact (Records.seat_self p hx).symm
    · simp only [habsent, if_false]
      rw [Records.updSeat_seat Seat.vanish (hlost .absent) x.quiet hn fun z hz =>
        Seat.of_quiet (fun s => s.vanish.quiet) (fun _ => rfl) hz]
      split <;> rfl
  | some u =>
    have hkeeps : (decide (x.health.presence ≠ .absent) && x.isUnit u) = true ↔ x.health.presence ≠ .absent ∧ x.isUnit u = true := by
      rw [Bool.and_eq_true, decide_eq_true_eq]
    rw [Part.walkSeat, hat, Seat.walked]
    by_cases hunit : x.health.presence ≠ .absent ∧ x.isUnit u = true
    · simp only [hkeeps, if_pos hunit]
      exact (Records.seat_self p hx).symm
    · simp only [hkeeps, if_neg hunit]
      refine Records.updSeat_seat (fun s => s.renew u) (hlost .settling) x.quiet hn fun z hz => ?_
      refine (Seat.of_quiet (fun s : Seat => (s.renew u).quiet) (fun _ => rfl) hz).trans ?_
      split <;> rfl

/-- A seat that is no record is not written. -/
theorem Part.walkSeat_none (hx : nth p.seats n = none) (found : Option UnitReport) : (p.walkSeat n found).records = p.records := by
  have hat : p.seatAt n = startSeat := by rw [Part.seatAt, hx]; rfl
  have hservice : p.inService n = false := by rw [Part.inService, hat]; rfl
  cases found with
  | none => rw [Part.walkSeat, hat]; rfl
  | some u =>
    have hlost : p.loseByWalk n .settling = p := by rw [Part.loseByWalk, hservice]; rfl
    have hwalk : p.walkSeat n (some u) = p.updSeat n (fun s => s.renew u) := by
      rw [Part.walkSeat, hat, hlost]; rfl
    rw [hwalk, Part.updSeat, upd_of_none _ _ _ hx]
end

/-! ### The whole report -/

theorem Part.seatAt_records {p q : Part} {n : Nat} (h : nth q.records.seats n = nth p.records.seats n) :
    (q.seatAt n).quiet = (p.seatAt n).quiet := by
  rw [Part.records, Part.records, nth_map, nth_map] at h
  exact getD_of_map Seat.quiet _ _ _ h

/-- The seats of `q` after those at `ns` were written by `g`, every other record being as in `p`. -/
structure Part.WroteSeats (p q : Part) (ns : List Nat) (g : Nat → Seat → Seat) : Prop where
  rest : q.records = { p.records with seats := q.records.seats }
  written : ∀ n ∈ ns, ∀ x, nth p.seats n = some x → (q.seatAt n).quiet = (g n x).quiet
  others : ∀ n, n ∉ ns → nth q.records.seats n = nth p.records.seats n

theorem Part.walkSeat_wrote {p : Part} (h : p.Vacant) (n : Nat) (found : Option UnitReport) :
    p.WroteSeats (p.walkSeat n found) [n] (fun _ => Seat.walked found) := by
  cases hx : nth p.seats n with
  | none =>
    have hrecords := Part.walkSeat_none hx found
    refine ⟨by rw [hrecords], fun m hm x hmx => ?_, fun m _ => by rw [hrecords]⟩
    rw [List.mem_singleton.1 hm, hx] at hmx
    exact absurd hmx nofun
  | some x =>
    have hrecords := Part.walkSeat_records h hx found
    have hn : nth p.records.seats n = some x.quiet := by rw [Part.records, nth_map, hx]; rfl
    refine ⟨by rw [hrecords]; rfl, fun m hm y hy => ?_, fun m hm => ?_⟩
    · obtain rfl := List.mem_singleton.1 hm
      rw [hx] at hy
      cases hy
      exact Records.seatAt_seat hrecords x.quiet hn
    · rw [hrecords]
      exact nth_upd_ne _ _ _ _ fun he => hm (List.mem_singleton.2 he.symm)

/-- The report of a walk, seat by seat (R75, R160). -/
theorem Part.walkSeats_wrote (seat : Nat → Nat) (found : Nat → Option UnitReport) (hseat : Function.Injective seat) :
    ∀ (l : List Nat) (p : Part), p.Vacant → l.Nodup →
      (l.foldl (fun q pos => q.walkSeat (seat pos) (found pos)) p).records =
        { p.records with seats := (l.foldl (fun q pos => q.walkSeat (seat pos) (found pos)) p).records.seats } ∧
      (∀ pos ∈ l, ∀ x, nth p.seats (seat pos) = some x →
        ((l.foldl (fun q pos => q.walkSeat (seat pos) (found pos)) p).seatAt (seat pos)).quiet = (x.walked (found pos)).quiet) ∧
      (∀ n, (∀ pos ∈ l, n ≠ seat pos) →
        nth (l.foldl (fun q pos => q.walkSeat (seat pos) (found pos)) p).records.seats n = nth p.records.seats n) := by
  intro l
  induction l with
  | nil => exact fun p _ _ => ⟨rfl, fun _ h => absurd h List.not_mem_nil, fun _ _ => rfl⟩
  | cons a l ih =>
    intro p hp hnodup
    obtain ⟨ha, hl⟩ := List.nodup_cons.1 hnodup
    have hwrote := Part.walkSeat_wrote hp (seat a) (found a)
    rw [List.foldl_cons]
    generalize p.walkSeat (seat a) (found a) = q at hwrote
    obtain ⟨hrest, hwritten, hothers⟩ := ih q (hp.of_seats hwrote.rest) hl
    generalize l.foldl (fun q pos => q.walkSeat (seat pos) (found pos)) q = r at hrest hwritten hothers
    refine ⟨?_, fun pos hpos x hx => ?_, fun n hn => ?_⟩
    · rw [hrest, hwrote.rest]
    · rcases List.mem_cons.1 hpos with rfl | hpos
      · rw [Part.seatAt_records (hothers (seat pos) fun b hb he => ha (hseat he ▸ hb))]
        exact hwrote.written (seat pos) (List.mem_singleton.2 rfl) x hx
      · have hne : seat pos ∉ [seat a] := fun he => ha (hseat (List.mem_singleton.1 he) ▸ hpos)
        have hkept := hwrote.others (seat pos) hne
        rw [Part.records, Part.records, nth_map, nth_map, hx] at hkept
        obtain ⟨y, hy, hyx⟩ := Option.map_eq_some_iff.1 hkept
        rw [hwritten pos hpos y hy]
        exact Seat.of_quiet (fun s => (s.walked (found pos)).quiet) (Seat.walked_quiet (found pos)) hyx
    · rw [hothers n fun pos hpos => hn pos (List.mem_cons_of_mem a hpos)]
      exact hwrote.others n fun he => hn a (List.mem_cons_self ..) (List.mem_singleton.1 he)

end Sys2Proof.Machine
end

section
/-! The reports of walks (O47). -/

namespace Sys2Proof.Machine

/-! ### The end of a walk at an AWAKE table -/

section
variable {p : Part} {seg : Segment} {w : WalkContext}

theorem Part.checkAwake_awake (h : p.control.tableState = .awake) : p.checkAwake = p :=
  if_neg fun hwaking => by rw [h] at hwaking; exact absurd hwaking.1 nofun

theorem Part.setProbeDues_records (p : Part) (seg : Segment) : (p.setProbeDues seg).records = p.records :=
  foldl_keeps Part.records _ (fun q pos => q.setProbeDue_records seg pos) _ p

theorem Part.closeWalk_records (p : Part) (seg : Segment) (w : WalkContext) : (p.closeWalk seg w).records = p.records :=
  p.updEngine_records seg _

/-- At an AWAKE table the end of a walk writes its report alone (R160, R173). -/
theorem Part.endWalk_records (h : ((p.closeWalk seg w).reportWalk seg w).control.tableState = .awake) :
    (p.endWalk seg w).records = ((p.closeWalk seg w).reportWalk seg w).records := by
  have hrecords := Part.setProbeDues_records ((p.closeWalk seg w).reportWalk seg w) seg
  have hcontrol : (((p.closeWalk seg w).reportWalk seg w).setProbeDues seg).control.tableState = .awake :=
    (congrArg (fun r : Records => r.control.tableState) hrecords).trans h
  rw [Part.endWalk, Part.checkAwake_awake hcontrol, hrecords]
end

theorem seatOn_injective {seg : Segment} (h : seg ≠ .wall) : Function.Injective (seatOn seg) := by
  intro a b hab
  cases seg with
  | left => exact hab
  | right => exact Nat.add_left_cancel hab
  | wall => exact absurd rfl h

/-! ### The report at the seats -/

theorem Part.reportSeats_eq (p : Part) (seg : Segment) (w : WalkContext) :
    p.reportSeats seg w = (List.range' 1 48).foldl (fun q pos => q.walkSeat (seatOn seg pos) (nth w.kept pos)) p := rfl

section
variable {s : State} {seg : Segment} {w : WalkContext} {pos : Nat}

/-- The walk of a seat segment that ends where no unit answers, through the end of the step (R75, R160). -/
theorem State.seatWalkEnds (hr : s.runs) (hseg : seg ≠ .wall) (hw : (s.part.engine seg).walk = some w)
    (hline : (s.part.engine seg).line = some { exchange := .assign pos, orphan := false }) (hvacant : s.part.Vacant)
    (ha : s.part.control.tableState = .awake) :
    ∃ p, Ends (.responseTimeout seg) s p ∧ p.records = { s.part.records with seats := p.records.seats } ∧
      (∀ i, 1 ≤ i → i ≤ 48 → ∀ x, nth s.part.seats (seatOn seg i) = some x →
        (p.seatAt (seatOn seg i)).quiet = (x.walked (nth w.kept i)).quiet) ∧
      (∀ n, (∀ i, 1 ≤ i → i ≤ 48 → n ≠ seatOn seg i) → (p.seatAt n).quiet = (s.part.seatAt n).quiet) := by
  have hended := s.part.lineEnds_records seg .timeout
  have hseats := s.part.lineEnds_seats seg .timeout
  have hexec := State.assignTimesOut hr hline hw
  have hcounts := (Part.CountsAs.refl (s.part.lineEnds seg .timeout)).endWalk (seg := seg) (w := w)
  have hanswer := s.part.lineEnds_answer seg .timeout
  generalize s.part.lineEnds seg .timeout = b at hended hseats hexec hcounts hanswer
  have hclosed := (b.closeWalk_records seg w).trans hended
  have hclosedSeats : (b.closeWalk seg w).seats = s.part.seats := by
    rw [← hseats]; cases seg <;> rfl
  have hends : Ends (.responseTimeout seg) s (s.part.settle (b.endWalk seg w)) :=
    ⟨hexec, (Part.settle_answer _ _).trans (hcounts.answer.trans hanswer)⟩
  have hreport : (b.closeWalk seg w).reportWalk seg w = (b.closeWalk seg w).reportSeats seg w := Part.reportWalk_seats hseg
  have hwrote := Part.walkSeats_wrote (seatOn seg) (nth w.kept) (seatOn_injective hseg) (List.range' 1 48) (b.closeWalk seg w)
    (hvacant.of_seats (r := s.part.records.seats) hclosed) List.nodup_range'
  rw [← Part.reportSeats_eq, ← hreport] at hwrote
  obtain ⟨hrest, hwritten, hothers⟩ := hwrote
  have hawake : ((b.closeWalk seg w).reportWalk seg w).control.tableState = .awake := by
    have hcontrol := congrArg (fun r : Records => r.control.tableState) hrest
    refine hcontrol.trans ?_
    exact (congrArg (fun r : Records => r.control.tableState) hclosed).trans ha
  have hrecords := (Part.settle_records s.part (b.endWalk seg w)).trans (Part.endWalk_records hawake)
  generalize (b.closeWalk seg w).reportWalk seg w = q at hrest hwritten hothers hrecords
  generalize s.part.settle (b.endWalk seg w) = p at hends hrecords
  refine ⟨p, hends, ?_, fun i h1 h48 x hx => ?_, fun n hn => ?_⟩
  · rw [hrecords, hrest, hclosed]
  · rw [Part.seatAt_quiet_of_records hrecords]
    exact hwritten i (by rw [List.mem_range'_1]; omega) x (by rw [hclosedSeats]; exact hx)
  · rw [Part.seatAt_quiet_of_records hrecords]
    refine Part.seatAt_records ?_
    rw [hothers n fun i hi => by rw [List.mem_range'_1] at hi; exact hn i hi.1 (by omega), hclosed]
end

/-! ### The report on WALL -/

section
variable {w : WalkContext} {r : WallRole}

theorem WalkContext.foundAs_none (h : r ∉ w.roles) : w.foundAs r = none := by
  have hnone : w.roles.findIdx? (fun x => decide (x = r)) = none := by
    rw [List.findIdx?_eq_none_iff]
    exact fun x hx => decide_eq_false fun he => h (he ▸ hx)
  rw [WalkContext.foundAs, hnone]

/-- The unit that a walk placed in a role (R159, R160). -/
theorem WalkContext.foundAs_some {i : Nat} {u : UnitReport} (hnodup : w.roles.Nodup) (hr : w.roles[i]? = some r)
    (hu : w.kept[i]? = some u) : w.foundAs r = some (i + 1, u.serial) := by
  obtain ⟨hi, hat⟩ := List.getElem?_eq_some_iff.1 hr
  have hfound : w.roles.findIdx? (fun x => decide (x = r)) = some i := by
    rw [List.findIdx?_eq_some_iff_getElem]
    refine ⟨hi, decide_eq_true hat, fun j hj => ?_⟩
    rw [decide_eq_true_eq]
    intro he
    exact absurd ((hnodup.getElem_inj_iff).1 (he.trans hat.symm)) (by omega)
  rw [WalkContext.foundAs, hfound]
  dsimp only
  rw [hu]; rfl
end

theorem nth_rolesAfter {n i : Nat} (roles : List WallRole) (h1 : 1 ≤ i) (hn : i ≤ n) :
    (nth (rolesAfter n roles) i).getD none = roles[i - 1]? := by
  obtain ⟨k, rfl⟩ : ∃ k, i = k + 1 := ⟨i - 1, by omega⟩
  have hk : (List.range n)[k]? = some k := List.getElem?_range (by omega)
  rw [nth, rolesAfter, List.getElem?_map, hk]
  rfl

section
variable {s : State} {w : WalkContext} {pos : Nat}

/-- The records after the report of a walk of WALL (R3, R134, R143, R160). -/
def Records.wallReport (r : Records) (displays : List Display) (w : WalkContext) : Records :=
  { r with
    displays := (mapFrom (fun d x => Display.walked (w.foundAs (.display d)) x) 1 displays).map Display.core
    ambient := r.ambient.walked (w.foundAs .ambient)
    partitions := mapFrom (fun k x => Partition.walked (w.foundAs (.partition k)) x) 1 r.partitions }

theorem Part.reportWall_records (p : Part) (w : WalkContext) : (p.reportWalk .wall w).records = p.records.wallReport p.displays w := rfl

/-- The walk of WALL that ends where no unit answers, through the end of the step (R160). -/
theorem State.wallWalkEnds (hr : s.runs) (hstill : s.part.wall.walkRequested = false) (hw : s.part.wall.walk = some w)
    (hline : s.part.wall.line = some { exchange := .assign pos, orphan := false }) (ha : s.part.control.tableState = .awake) :
    ∃ p, Ends (.responseTimeout .wall) s p ∧ p.records = s.part.records.wallReport s.part.displays w ∧ p.wall.state = .running ∧
      p.wall.walk = none ∧ p.wall.unitsFound = w.kept.length ∧ (∀ i, 1 ≤ i → i ≤ 12 → p.roleAt i = w.roles[i - 1]?) := by
  have hended := s.part.lineEnds_records .wall .timeout
  have hdisplays := s.part.lineEnds_displays .wall .timeout
  have hexec := State.assignTimesOut (seg := .wall) hr hline hw
  have hcounts := (Part.CountsAs.refl (s.part.lineEnds .wall .timeout)).endWalk (seg := .wall) (w := w)
  have hanswer := s.part.lineEnds_answer .wall .timeout
  have hrequested : ((s.part.lineEnds .wall .timeout).engine .wall).walkRequested = false := (Part.lineEnds_walkRequested ..).trans hstill
  generalize s.part.lineEnds .wall .timeout = b at hended hdisplays hexec hcounts hanswer hrequested
  have hends : Ends (.responseTimeout .wall) s (s.part.settle (b.endWalk .wall w)) :=
    ⟨hexec, (Part.settle_answer _ _).trans (hcounts.answer.trans hanswer)⟩
  have hclosed := (b.closeWalk_records .wall w).trans hended
  have hreport := Part.reportWall_records (b.closeWalk .wall w) w
  have hclosedDisplays : (b.closeWalk .wall w).displays = s.part.displays := hdisplays
  rw [hclosed, hclosedDisplays] at hreport
  have hawake : ((b.closeWalk .wall w).reportWalk .wall w).control.tableState = .awake :=
    (congrArg (fun r : Records => r.control.tableState) hreport).trans ha
  have hrecords := (Part.settle_records s.part (b.endWalk .wall w)).trans ((Part.endWalk_records hawake).trans hreport)
  obtain ⟨hstate, hwalk, hfound, hroles⟩ := Part.settle_endWalk s.part b .wall w hrequested
  generalize s.part.settle (b.endWalk .wall w) = p at hends hrecords hstate hwalk hfound hroles
  rw [Part.engine_wall] at hstate hwalk hfound hroles
  refine ⟨p, hends, hrecords, hstate, hwalk, hfound, fun i h1 h12 => ?_⟩
  rw [Part.roleAt, hroles]
  exact nth_rolesAfter w.roles h1 h12
end

section
variable {r : Records} {displays : List Display} {w : WalkContext} {p : Part}

/-- A display after the report of a walk of WALL (R134). -/
theorem Part.displayAt_wallReport (h : p.records = r.wallReport displays w) {d : Nat} {x : Display} (hx : nth displays d = some x) :
    (p.displayAt d).core = (x.walked (w.foundAs (.display d))).core := by
  have hcores : p.displays.map Display.core =
      (mapFrom (fun d x => Display.walked (w.foundAs (.display d)) x) 1 displays).map Display.core := congrArg Records.displays h
  have hat := getD_of_map Display.core _ _ (startDisplay factorySettings (factoryDisplay 1)) (nth_of_map Display.core _ _ hcores d)
  rw [nth_mapFrom, hx] at hat
  exact hat

/-- A partition after the report of a walk of WALL (R3). -/
theorem Part.partitionAt_wallReport (h : p.records = r.wallReport displays w) {k : Nat} {x : Partition} (hx : nth r.partitions k = some x) :
    p.partitionAt k = x.walked (w.foundAs (.partition k)) := by
  have hpartitions : p.partitions = mapFrom (fun k x => Partition.walked (w.foundAs (.partition k)) x) 1 r.partitions :=
    congrArg Records.partitions h
  rw [Part.partitionAt, hpartitions, nth_mapFrom, hx]
  rfl

theorem Part.ambient_wallReport (h : p.records = r.wallReport displays w) : p.ambient = r.ambient.walked (w.foundAs .ambient) :=
  congrArg Records.ambient h

theorem Records.wallReport_rest (h : p.records = r.wallReport displays w) :
    p.records = { r with displays := p.records.displays, ambient := p.ambient, partitions := p.partitions } := by
  have hambient : p.ambient = _ := congrArg Records.ambient h
  have hpartitions : p.partitions = _ := congrArg Records.partitions h
  rw [hambient, hpartitions, h]
  rfl
end

/-- A display whose unit a walk found at a place (R134). -/
theorem Display.walked_found (x : Display) (pos : Nat) (serial : Serial) : (x.walked (some (pos, serial))).core =
    if x.health.presence ≠ .absent ∧ x.unitPosition = some pos ∧ x.unitSerial = some serial then x.core
    else { position := some pos, serial := some serial, health := { presence := .settling, settleCount := 0, errorScore := 0 }
           config := x.config } := by
  rw [Display.walked]
  simp only [Display.isUnit, decide_eq_true_eq]
  split <;> rfl

theorem Partition.walked_found (x : Partition) (pos : Nat) (serial : Serial) : x.walked (some (pos, serial)) =
    if x.health.presence ≠ .absent ∧ x.sensorPosition = some pos ∧ x.sensorSerial = some serial then x
    else { x with sensorPosition := some pos, sensorSerial := some serial, candidate := none, repeatCount := 0
                  health := { presence := .settling, settleCount := 0, errorScore := 0 } } := by
  rw [Partition.walked]
  simp only [Partition.isUnit, decide_eq_true_eq]
  rfl

/-! ### O47 -/

/-- Settles O47: at the seats record by record, on WALL by the role in which each unit was kept. -/
theorem walkReportsWhatItFound : Obligations.WalkReportsWhatItFound := by
  refine ⟨fun s seg w pos hr hseg hstate hstill hw hline hfloors hno ha => ?_,
    fun s w pos hr hstate hstill hw hline hnodup hlength ha => ?_⟩
  · obtain ⟨p, hends, hrest, hseats, hothers⟩ := State.seatWalkEnds hr hseg hw hline ⟨hfloors, hno⟩ ha
    refine ⟨p, hends, hrest, fun i n x h1 h48 hn hx => ?_, hothers⟩
    subst hn
    rw [hseats i h1 h48 x hx]
    refine congrArg Seat.quiet ?_
    cases nth w.kept i with
    | none =>
      have hservice : x.health.presence.inService = true ↔ x.health.presence = .present ∨ x.health.presence = .degraded := by
        cases x.health.presence <;> simp [Presence.inService]
      simp only [Seat.walked, hservice]
      rfl
    | some u =>
      simp only [Seat.walked, Seat.isUnit, decide_eq_true_eq]
      rfl
  · obtain ⟨p, hends, hrecords, hrun, hwalk, hfound, hroles⟩ := State.wallWalkEnds hr hstill hw hline ha
    refine ⟨p, hends, Records.wallReport_rest hrecords, hrun, hwalk, hfound, hroles, fun d x hx => ⟨fun hno => ?_, fun i u hi hu => ?_⟩,
      fun k x hx => ⟨fun hno => ?_, fun i u hi hu => ?_⟩, fun hno => ?_, fun i u hi hu => ?_⟩
    · rw [Part.displayAt_wallReport hrecords hx, WalkContext.foundAs_none hno]; rfl
    · rw [Part.displayAt_wallReport hrecords hx, WalkContext.foundAs_some hnodup hi hu]
      exact x.walked_found _ _
    · rw [Part.partitionAt_wallReport hrecords hx, WalkContext.foundAs_none hno]; rfl
    · rw [Part.partitionAt_wallReport hrecords hx, WalkContext.foundAs_some hnodup hi hu]
      exact x.walked_found _ _
    · rw [Part.ambient_wallReport hrecords, WalkContext.foundAs_none hno]; rfl
    · rw [Part.ambient_wallReport hrecords, WalkContext.foundAs_some hnodup hi hu]; rfl

end Sys2Proof.Machine
end
